-- ==== Sys2Proof/Word.lean ====
section
/-! DEFINITION. The word types of the CN-418: bytes of a telegram, two-byte fields, part clock values. -/
namespace Sys2Proof

/-- One byte of a telegram (R155). -/
abbrev Byte := BitVec 8

/-- A two-byte field: a station point, a set-point, a reference, a gate set (R155, R173). -/
abbrev Word := BitVec 16

/-- A part clock value: a 32-bit count of tenths of a second (scope file, section 5.1). -/
abbrev Clock := BitVec 32

end Sys2Proof
end

