-- ==== Sys2Proof/Syntax.lean ====
section
/-! DEFINITION. The commands of the CN-418: one constructor of `Instr` for each row of spec/opcode_table.json, and the
telegrams and names they carry. -/
namespace Sys2Proof

/-- The four downline ports DN0 to DN3. -/
inductive DnPort where
  | dn0 | dn1 | dn2 | dn3
  deriving DecidableEq, Repr

/-- The five ports of the part (scope file, section 1.2). -/
inductive PortId where
  | up
  | dn (d : DnPort)
  deriving DecidableEq, Repr

/-- The kinds of point-form telegrams (R155, R156). -/
inductive PointKind where
  | order | reply | report | refusal
  deriving DecidableEq, Repr

/-- The kinds of management-form telegrams (R155, R156). -/
inductive MgmtKind where
  | request | response | notice
  deriving DecidableEq, Repr

/-- The fields of a point-form telegram but its kind and check bytes (R155). -/
structure PointTel where
  dest : Byte
  src : Byte
  tag : Byte
  point : Word
  code : Byte
  flags : Byte
  value : Word
  deriving DecidableEq, Repr

/-- The fields of a management-form telegram but its kind, body length and check bytes (R155). -/
structure MgmtTel where
  dest : Byte
  src : Byte
  tag : Byte
  code : Byte
  body : List Byte
  deriving DecidableEq, Repr

/-- A telegram that is not malformed and whose check code agrees (R153, R154). -/
inductive Telegram where
  | point (kind : PointKind) (tel : PointTel)
  | mgmt (kind : MgmtKind) (tel : MgmtTel)
  deriving DecidableEq, Repr

/-- How the reception of a telegram ended at a port (R153). -/
inductive FrameEnd where
  | endDelimiter
  | newStart
  | signalLost
  deriving DecidableEq, Repr

/-- The data bytes a port assembled after a start delimiter, and how the assembly ended (R153). -/
structure Reception where
  bytes : List Byte
  ending : FrameEnd
  deriving DecidableEq, Repr

/-- The two conditions either of which holds the part in reset (R178). -/
inductive ResetCause where
  | supply
  | line
  deriving DecidableEq, Repr

/-- The commands of the CN-418, one per row of spec/opcode_table.json, in the table's order.
A telegram command is the arrival of that telegram at a port; a management command is the handler taking the oldest
waiting request; a timer command is that timer's expiry; a line command is that change of a line. -/
inductive Instr where
  | order (tel : PointTel)
  | report (d : DnPort) (tel : PointTel)
  | reply (d : DnPort) (tel : PointTel)
  | transparentRepeat (tel : Telegram)
  | transparentForward (d : DnPort) (tel : Telegram)
  | telegramDiscarded (p : PortId) (tel : Telegram)
  | checkError (p : PortId) (rx : Reception)
  | mgmtRequestIntake (tel : MgmtTel)
  | unknownRequest
  | writeTable
  | readTable
  | copyToStandby
  | swapBanks
  | swapCheckEnd
  | goTransparent
  | phase
  | campaignStartUp
  | campaignWindDown
  | campaignAbandon
  | readStatus
  | readImage
  | clearMarks
  | setNotices
  | resetPart
  | permitInChange (line : Nat) (level : Bool)
  | campaignHaltAsserted
  | campaignHaltDeasserted
  | resetAsserted (c : ResetCause)
  | resetReleased (c : ResetCause) (straps : BitVec 3)
  | lineSignalAppears (p : PortId)
  | provingSignalAbsent (p : PortId)
  | provingTimerExpiry (p : PortId)
  | lineSignalLost (p : PortId)
  | lineSignalReturns (p : PortId)
  | lossTimerExpiry (p : PortId)
  | staleTimerExpiry (point : Nat)
  | confirmationTimerExpiry (sect : Nat)
  | overdueTimerExpiry (sect : Nat)
  | periodBoundary
  | tallyDecay
  | holdExpired (dest : Byte) (point : Word)
  | replyTimeout (seq : Nat)
  | transmission (d : DnPort)
  | repeatLaneSend (d : DnPort)
  | upTransmitStart
  | upTransmitEnd
  deriving DecidableEq, Repr

end Sys2Proof
end

