-- ==== Sys2Proof/Decode.lean ====
section
/-! DEFINITION. The command a table word spells. No row of spec/opcode_table.json carries bits, so no word spells one. -/
namespace Sys2Proof

/-- The command that the `nbits` bits of `w` spell by spec/opcode_table.json: none, since every row's `fields` list is
empty and no row has a pattern of bits. (The telegrams of the link, which do have bytes, are read and written in
Sys2Proof/Machine/Codec.lean.) -/
def decodeTableWord (_nbits _w : Nat) : Option Instr := none

end Sys2Proof
end

