-- ==== Sys2Proof/Config.lean ====
section
/-! DEFINITION. What an implementation fixes and what the spec leaves open: the free values, which have no body, and the
limits the spec states. -/
namespace Sys2Proof

/-- A free choice: where the spec states no order among several things that may be taken next, the thing taken is this
number modulo how many there are. `draw` counts the choices made so far (notes/assumptions/2.md). -/
opaque Config.choice (draw count : Nat) : Nat

/-- The free value of the byte at place `pos` of a management body where an absent optional field or an unused list place
stands: the spec says such bytes are ignored and does not say what the part sends (notes/assumptions/3.md). -/
opaque Config.padByte (draw pos : Nat) : Byte

/-- The free value of a NOTICE telegram's tag, which the spec does not state (notes/assumptions/4.md). -/
opaque Config.noticeTag (draw : Nat) : Byte

/-- Whether a report for a point whose static part is damaged is imaged: R11 needs the class and R111 changes the load
account at such a report, and the spec does not settle it (notes/assumptions/5.md). -/
opaque Config.imagesOnFault (draw : Nat) : Bool

/-- The deadband a report is judged by where the point's static part is damaged, so that it is not used (R12, R165,
notes/assumptions/5.md). -/
opaque Config.deadbandOnFault (draw : Nat) : Nat

/-- Whether READ_STATUS reports a RUNNING section whose record is damaged as an accepting STORE (R33, R175,
notes/assumptions/45.md). -/
opaque Config.acceptingOnFault (draw sect : Nat) : Bool

/-- Whether READ_STATUS reports a RUNNING section whose record is damaged as a delivering STORE (R34, R175,
notes/assumptions/45.md). -/
opaque Config.deliveringOnFault (draw sect : Nat) : Bool

/-- Whether the telegram in transmission on a DN port ends within a millisecond: the spec does not state how long a telegram
occupies a line (notes/assumptions/20.md). -/
opaque Config.transmissionEnds (draw : Nat) : Bool

/-- Whether the class of a point counts as unchanged at a swap whose old bank holds the point's static part damaged, so that it
is not used: R19 compares with it and does not settle it (notes/assumptions/36.md). -/
opaque Config.sameClassOnFault (draw point : Nat) : Bool

/-- Whether an IDLE section with both flags clear counts as defined in the old bank of a swap that holds its record damaged
(R22, R46, notes/assumptions/36.md). -/
opaque Config.definedOnFault (draw sect : Nat) : Bool

/-- Whether the flow points of a DRAINING section count as unchanged at a swap whose old bank holds its record damaged (R46,
notes/assumptions/36.md). -/
opaque Config.sameFlowOnFault (draw sect : Nat) : Bool

/-- The length of the Held Order Queue (R122). -/
def Config.heldLimit : Nat := 32
/-- The general part of the Outstanding Order Table (R136). -/
def Config.generalLimit : Nat := 48
/-- The priority part of the Outstanding Order Table (R136). -/
def Config.priorityLimit : Nat := 16
/-- The places of a general lane (R139). -/
def Config.generalLaneLimit : Nat := 16
/-- The places of a priority lane (R139). -/
def Config.priorityLaneLimit : Nat := 8
/-- The places of a repeat lane (R158). -/
def Config.repeatLaneLimit : Nat := 16
/-- The answer-debt limit (R161). -/
def Config.debtLimit : Nat := 120
/-- The length of the UP transmit queue (R160). -/
def Config.upQueueLimit : Nat := 128
/-- The reports the UP transmit queue may hold (R160). -/
def Config.reportLimit : Nat := 48
/-- The notices that may stand in the UP transmit queue (R177). -/
def Config.noticeLimit : Nat := 16
/-- The proving time in milliseconds (R150). -/
def Config.provingMs : Nat := 500
/-- The loss time in milliseconds (R150). -/
def Config.lossMs : Nat := 20
/-- The longest swap check in milliseconds (R168). -/
def Config.swapCheckMs : Nat := 20
/-- How many tasks one event may take before what is left waits for the next event; every event of an active bank ends
far below it (notes/assumptions/6.md). -/
def Config.settleBound : Nat := 10000

end Sys2Proof
end

