-- ==== Sys2Proof/Machine/State.lean ====
section
/-! DEFINITION. The state of the CN-418 as plain data: every register, table, queue, timer, flag and line the spec gives
the part, the reasons a command may stop, and the state after reset. -/
namespace Sys2Proof.Machine

/-! ### Enumerations (R156) -/

/-- The part modes (scope file, section 1.3; R164). -/
inductive PartMode where
  | transparent | screening | failHold
  deriving DecidableEq, Repr

/-- The campaign modes (R47). -/
inductive CampaignMode where
  | outOfCampaign | startUp | inCampaign | windDown
  deriving DecidableEq, Repr

/-- The two table banks (R164). -/
inductive BankId where
  | a | b
  deriving DecidableEq, Repr

/-- The states of a port (R150). -/
inductive PortState where
  | down | proving | up
  deriving DecidableEq, Repr

/-- The phases of a section (R22). -/
inductive Phase where
  | idle | warming | ready | running | draining | flushed | halted
  deriving DecidableEq, Repr

/-- The causes of an entry to HALTED (R22, R63). -/
inductive HaltCause where
  | trip | lostSignal | feedStop | storeFull | needLost | permitLost | externalHalt
  deriving DecidableEq, Repr

/-- The roles of a section (R20). -/
inductive Role where
  | production | utility | store
  deriving DecidableEq, Repr

/-- The classes of a point (R7). -/
inductive PointClass where
  | drive | valve | setpoint | measure | gateset
  deriving DecidableEq, Repr

/-- The states a point reports, over all classes (R7, R156). -/
inductive ReportState where
  | stopped | starting | running | stopping | driveFaulted
  | closed | opening | opened | closing | valveFaulted
  | auto | manual
  | good | bad
  | gatesGood | gatesFaulted
  deriving DecidableEq, Repr

/-- The seven actions of an order (R156). -/
inductive Action where
  | start | stop | openPoint | closePoint | set | gates | resetFault
  deriving DecidableEq, Repr

/-- The outcomes of a reply (R156). -/
inductive ReplyOutcome where
  | done | failed | notPossible
  deriving DecidableEq, Repr

/-- The reasons of a refusal (R156). -/
inductive RefusalReason where
  | noRoute | isProtected | wrongAction | broadcast | duplicateTag | failHold | phase | condition | stale | startLimit
  | budget | load | busy | noSlot | queueFull | holdExpired | superseded | linkLost | timeout | partReset
  deriving DecidableEq, Repr

/-- The codes of a rejected management request (R156). -/
inductive Rejection where
  | notLegal | failHold | haltLine | inUse | condition | permit | stale | range | field | badBody | integrity
  | logicalOverlap | windowRange | feedsCycle | needNotUtility | storeFeed | sectionField | noSection
  | conditionUnmapped | lowAboveHigh | reserveAboveAllowance | startTripAction | permitOutShared | sectionInUse
  | needConflict
  deriving DecidableEq, Repr

/-- The kinds of a notice (R156, R177). -/
inductive NoticeKind where
  | phaseChanged | phaseOverdue | tripActionFailed | linkChanged | bankSwapped | failHold | campaignMode
  deriving DecidableEq, Repr

/-- How a condition set combines its conditions (R24). -/
inductive Combination where
  | all | any
  deriving DecidableEq, Repr

/-- The value tests of a condition (R24, R25). -/
inductive ValueTest where
  | noTest | atLeast | atMost | between | outside | allOpen | allClosed
  deriving DecidableEq, Repr

/-- The state test of a condition (R24, R25). -/
inductive StateTest where
  | any
  | oneOf (states : List ReportState)
  deriving DecidableEq, Repr

/-- The base of a screen row (R80). -/
inductive RowBase where
  | pass | refuse
  deriving DecidableEq, Repr

/-- The budget classes of a START (R109). -/
inductive BudgetClass where
  | utility | general
  deriving DecidableEq, Repr

/-- The reasons of a hold (R94). -/
inductive HoldReason where
  | condition | busy | load | budget | noSlot
  deriving DecidableEq, Repr

/-- The run-empty state of a section (R22, section 2.6). -/
inductive RunEmpty where
  | notCounting
  | counting (start : Clock)
  | confirmed
  deriving DecidableEq, Repr

/-- The six banked tables, in the order of R164. -/
inductive TableId where
  | windows | points | sections | sets | rows | budget
  deriving DecidableEq, Repr

/-- An entry of a banked table. -/
structure EntryRef where
  table : TableId
  index : Nat
  deriving DecidableEq, Repr

/-! ### Banked tables -/

/-- A window of the Point Map (R1). -/
structure Window where
  defined : Bool
  port : DnPort
  station : Nat
  first : Nat
  last : Nat
  base : Nat
  guarded : Bool
  replyTimeout : Nat
  staleLimit : Nat
  deriving DecidableEq, Repr

/-- The static part of a point entry (R7). -/
structure PointStatic where
  cls : PointClass
  sect : Option Nat
  ratedLoad : Nat
  startCost : Nat
  startLimit : Nat
  deadband : Nat
  deriving DecidableEq, Repr

/-- A flow point of a section with its empty threshold (R20). -/
structure FlowPoint where
  point : Nat
  threshold : Word
  deriving DecidableEq, Repr

/-- The level point of a STORE with its limits (R20). -/
structure LevelPoint where
  point : Nat
  low : Word
  high : Word
  deriving DecidableEq, Repr

/-- A trip action of a section (R20, R73). -/
structure TripAction where
  point : Nat
  action : Action
  value : Word
  deriving DecidableEq, Repr

/-- A section record (R20). -/
structure SectionRec where
  defined : Bool
  role : Role
  profile : Nat
  feeds : List Nat
  needs : List Nat
  warmSet : Option Nat
  runSet : Option Nat
  flushSet : Option Nat
  tripSet : Option Nat
  flowPoints : List FlowPoint
  confirmTime : Nat
  level : Option LevelPoint
  permitIn : Option Nat
  permitOut : Option Nat
  warmLimit : Nat
  drainLimit : Nat
  tripActions : List TripAction
  deriving DecidableEq, Repr

/-- A condition of a condition set (R24). -/
structure Condition where
  point : Nat
  states : StateTest
  test : ValueTest
  ref1 : Word
  ref2 : Word
  deriving DecidableEq, Repr

/-- A condition set (R24). -/
structure ConditionSet where
  defined : Bool
  combination : Combination
  conditions : List Condition
  deriving DecidableEq, Repr

/-- A screen row (R80). -/
structure ScreenRow where
  base : RowBase
  condSet : Option Nat
  low : Word
  high : Word
  ramp : Nat
  gates : Word
  holdLimit : Nat
  deriving DecidableEq, Repr

/-- The budget record (R105). -/
structure BudgetRec where
  period : Nat
  allowance : Nat
  reserve : Nat
  capacity : Nat
  tallyInterval : Nat
  deriving DecidableEq, Repr

/-- A table entry as stored: its content, and whether its stored integrity code agrees with the content (R165). -/
structure Stored (α : Type) where
  content : α
  good : Bool
  deriving DecidableEq, Repr

/-- A table or a file of records by index, as the list of the entries that differ from the empty value, indices rising. -/
abbrev Store (α : Type) := List (Nat × α)

/-- One bank of tables (R164). -/
structure Bank where
  windows : Store (Stored Window)
  points : Store (Stored PointStatic)
  sections : Store (Stored SectionRec)
  sets : Store (Stored ConditionSet)
  rows : Store (Stored ScreenRow)
  budget : Stored BudgetRec
  deriving DecidableEq, Repr

/-- The empty window: defined flag clear (R1); its other fields at the lowest value of their ranges. -/
def Window.empty : Window := ⟨false, .dn0, 1, 0, 0, 0, false, 1, 1⟩
/-- The empty static part (R7). -/
def PointStatic.empty : PointStatic := ⟨.measure, none, 0, 0, 0, 0⟩
/-- The empty section record (R20): defined flag clear and every list empty; its other fields lowest or absent. -/
def SectionRec.empty : SectionRec :=
  ⟨false, .production, 0, [], [], none, none, none, none, [], 1, none, none, none, 0, 0, []⟩
/-- The empty condition set (R24): defined flag clear. -/
def ConditionSet.empty : ConditionSet := ⟨false, .all, []⟩
/-- The empty screen row (R80). -/
def ScreenRow.empty : ScreenRow := ⟨.refuse, none, 0x8000, 0x7FFF, 0, 0, 0⟩
/-- The empty budget record (R105). -/
def BudgetRec.empty : BudgetRec := ⟨100, 0, 0, 0, 60⟩
/-- An empty bank: every entry at its empty value with a good integrity check (R164). -/
def Bank.empty : Bank := ⟨[], [], [], [], [], ⟨BudgetRec.empty, true⟩⟩

/-! ### Dynamic state -/

/-- The content of a point's last imaged report: state, value and part clock value (R8, R12). -/
structure Reported where
  state : ReportState
  value : Word
  time : Clock
  deriving DecidableEq, Repr

/-- The dynamic part of a point entry (R8). The reported state, the reported value and the last report time are present
together. -/
structure PointDyn where
  report : Option Reported
  fresh : Bool
  mark : Bool
  tally : Nat
  setPoint : Option (Word × Clock)
  deriving DecidableEq, Repr

/-- The reset values of a dynamic part (R8). -/
def PointDyn.clear : PointDyn := ⟨none, false, false, 0, none⟩

/-- The dynamic state of a section (R22). -/
structure SectionDyn where
  phase : Phase
  entryTime : Clock
  haltCause : Option HaltCause
  runEmpty : RunEmpty
  overdue : Bool
  mark : Bool
  deriving DecidableEq, Repr

/-- The reset values of a section's dynamic state (R22). -/
def SectionDyn.clear : SectionDyn := ⟨.idle, 0, none, .notCounting, false, false⟩

/-- A running timer: the clock value it was last started at and the length it was started with (R101, R107). -/
structure Timer where
  start : Clock
  length : Nat
  deriving DecidableEq, Repr

/-- A held record (R121). -/
structure HeldRec where
  tel : PointTel
  point : Option Nat
  arrival : Clock
  deadline : Clock
  reason : HoldReason
  cls : Option BudgetClass
  deriving DecidableEq, Repr

/-- Who made an outstanding order (R136). -/
inductive Originator where
  | supervisory (src : Byte)
  | part (sect : Nat)
  deriving DecidableEq, Repr

/-- The two parts of the Outstanding Order Table (R136). -/
inductive EntryPart where
  | general | priority
  deriving DecidableEq, Repr

/-- The lane state of an entry, with its sent time once SENT (R136). -/
inductive LaneState where
  | queued
  | sent (time : Clock)
  deriving DecidableEq, Repr

/-- An outstanding entry (R136) with its creation order `seq` (R137). -/
structure Entry where
  seq : Nat
  part : EntryPart
  origin : Originator
  dest : Byte
  point : Word
  tag : Byte
  action : Action
  value : Word
  logical : Option Nat
  port : DnPort
  lane : LaneState
  timeout : Nat
  pledge : Option Nat
  shaped : Bool
  deriving DecidableEq, Repr

/-- The refusal held by the refusal capture (R102). The action is the code the order carried. -/
structure Captured where
  src : Byte
  dest : Byte
  point : Word
  tag : Byte
  action : Byte
  reason : RefusalReason
  time : Clock
  deriving DecidableEq, Repr

/-- The cause of a notice, with the enumeration it is taken from (R177). -/
inductive Cause where
  | halt (c : HaltCause)
  | phase (p : Phase)
  | refusal (r : RefusalReason)
  | outcome (o : ReplyOutcome)
  | link (p : PortId) (isUp : Bool)
  | partMode (m : PartMode)
  | integrity
  | campaign (m : CampaignMode)
  deriving DecidableEq, Repr

/-- A notice as raised (R177): its telegram is made when its transmission begins. -/
structure Notice where
  kind : NoticeKind
  sect : Option Nat
  point : Option Nat
  cause : Cause
  stamp : Clock
  deriving DecidableEq, Repr

/-- What stands in one place of the UP transmit queue, by class (R160): a reserved response place (R161), a management
response, an answer, a notice or a report. -/
inductive UpContent where
  | place
  | response (tel : MgmtTel)
  | answer (tel : Telegram)
  | notice (n : Notice)
  | report (tel : PointTel)
  deriving DecidableEq, Repr

/-- A place of the UP transmit queue, and whether its telegram is in transmission (R162). -/
structure UpItem where
  content : UpContent
  sending : Bool
  deriving DecidableEq, Repr

/-- One port: its state, its line signal, its two line timers as milliseconds run (R150), its three latched flags (R152),
its repeat lane (DN ports, R158) and the telegram in transmission on it (R162, R163). -/
structure Port where
  state : PortState
  signal : Bool
  proving : Option Nat
  loss : Option Nat
  linkLost : Bool
  checkError : Bool
  receiveRefused : Bool
  repeatLane : List Telegram
  line : Option Telegram
  deriving DecidableEq, Repr

/-- A port after reset (R150, R152, R158). -/
def Port.clear : Port := ⟨.down, false, none, none, false, false, false, [], none⟩

/-- A swap check in progress: the request it answers, and the milliseconds it has run (R168). -/
structure SwapCheck where
  src : Byte
  tag : Byte
  elapsed : Nat
  deriving DecidableEq, Repr

/-- A consequence of an event that a block has still to take in the same event (R13, R27, R63, R124). A `haltFirst` is a
halt that a permit change or a swap makes before anything is re-examined (R66, R71). -/
inductive Task where
  | halt (n : Nat) (c : HaltCause)
  | haltFirst (n : Nat) (c : HaltCause)
  | reexamine (n : Nat)
  | tripActions (n : Nat)
  | completion
  | scan
  deriving DecidableEq, Repr

/-- The state of the CN-418. -/
structure State where
  /-- The commands that are waiting, first in, first out. -/
  pending : List Instr
  /-- The supply is outside 19 to 30 V (R178). -/
  supplyBad : Bool
  /-- The RESET input is asserted (R178). -/
  resetLine : Bool
  /-- The station-address straps as last read: the own station number is 240 plus this (R157). -/
  straps : BitVec 3
  /-- The part clock. -/
  clock : Clock
  /-- Milliseconds since the part clock last counted. -/
  subMs : Nat
  /-- The levels of PERMIT-IN 0 to 3. -/
  permitIn : Store Bool
  /-- The levels of PERMIT-OUT 0 to 3 (R42). -/
  permitOut : Store Bool
  /-- The level of CAMPAIGN-HALT. -/
  campaignHalt : Bool
  /-- The level of FAULT (R170, R171). -/
  fault : Bool
  /-- The part mode (R164). -/
  mode : PartMode
  /-- The active-bank marker (R164). -/
  active : Option BankId
  /-- The standby marker (R164). -/
  standby : BankId
  /-- The standby-written flag (R164). -/
  standbyWritten : Bool
  /-- Bank A. -/
  bankA : Bank
  /-- Bank B. -/
  bankB : Bank
  /-- The campaign mode (R47). -/
  campaign : CampaignMode
  /-- The dynamic parts of the 2048 point entries (R8). -/
  image : Store PointDyn
  /-- The dynamic state of the 16 sections (R22). -/
  sects : Store SectionDyn
  /-- The refusal capture (R102). -/
  capture : Option Captured
  /-- MORE_REFUSALS (R102). -/
  moreRefusals : Bool
  /-- The remaining allowance R (R106). -/
  remaining : Nat
  /-- The unused reserve V (R106). -/
  unusedReserve : Nat
  /-- The period number (R106). -/
  periodNumber : Nat
  /-- The period timer; its length in tenths (R106, R107). -/
  periodTimer : Option Timer
  /-- The tally decay timer; its length in minutes (R101). -/
  tallyTimer : Option Timer
  /-- The load account L (R111). -/
  load : Nat
  /-- The pledge sum F (R112). -/
  pledgeSum : Nat
  /-- The Held Order Queue, oldest first (R122). -/
  held : List HeldRec
  /-- The Outstanding Order Table, oldest first (R136, R137); a lane is its QUEUED entries of one port and part (R139). -/
  entries : List Entry
  /-- The creation order the next entry takes (R137). -/
  nextSeq : Nat
  /-- The tag counter of the part's own orders (R138). -/
  tagCounter : Byte
  /-- The five ports, by index: UP 0, DN0 to DN3 1 to 4. -/
  ports : Store Port
  /-- The UP transmit queue, oldest first (R160). -/
  upQueue : List UpItem
  /-- The management requests waiting for the handler, in order of intake (R174). -/
  requests : List MgmtTel
  /-- The swap check in progress (R168). -/
  swapCheck : Option SwapCheck
  /-- The notice mask, in code order (R177). -/
  noticeMask : List NoticeKind
  /-- The notice destination (R177). -/
  noticeDest : Option Byte
  /-- NOTICE_LOST (R177). -/
  noticeLost : Bool
  /-- MODEL'S OWN: what the event in progress has still to take; empty between events. -/
  agenda : List Task
  /-- MODEL'S OWN: how many free values have been drawn. -/
  draws : Nat
  deriving DecidableEq, Repr

/-- The seven notice kinds in code order: the mask after reset (R177). -/
def allNoticeKinds : List NoticeKind :=
  [.phaseChanged, .phaseOverdue, .tripActionFailed, .linkChanged, .bankSwapped, .failHold, .campaignMode]

/-- The part right after power-on or the RESET line (R178), with no line signal present, every discrete input deasserted
and the three straps open. -/
def State.reset : State where
  pending := []
  supplyBad := false
  resetLine := false
  straps := 0
  clock := 0
  subMs := 0
  permitIn := []
  permitOut := []
  campaignHalt := false
  fault := false
  mode := .transparent
  active := none
  standby := .a
  standbyWritten := false
  bankA := Bank.empty
  bankB := Bank.empty
  campaign := .outOfCampaign
  image := []
  sects := []
  capture := none
  moreRefusals := false
  remaining := 0
  unusedReserve := 0
  periodNumber := 0
  periodTimer := none
  tallyTimer := none
  load := 0
  pledgeSum := 0
  held := []
  entries := []
  nextSeq := 0
  tagCounter := 0
  ports := []
  upQueue := []
  requests := []
  swapCheck := none
  noticeMask := allNoticeKinds
  noticeDest := none
  noticeLost := false
  agenda := []
  draws := 0

/-- Why the machine stops. No command of the CN-418 stops it: the spec gives every one an effect in every state. -/
inductive Fault where
  /-- Raised by nothing: kept so that the outcome type has its reason. Safe. -/
  | never
  deriving DecidableEq, Repr

/-- Why a command is refused by the model. -/
inductive Refusal where
  /-- Raised by the dispatch alone, for a command without a meaning: none is left. Safe. -/
  | notModelled (mnemonic : String)
  deriving DecidableEq, Repr

end Sys2Proof.Machine
end

