-- ==== Sys2Proof/Machine/Codes.lean ====
section
/-! DEFINITION. The code table of the link chapter (R156): the code of every name, and the name of a code. -/
namespace Sys2Proof.Machine

/-- Enumeration 1, point-form kinds. -/
def PointKind.code : PointKind → Byte
  | .order => 0x01 | .reply => 0x02 | .report => 0x03 | .refusal => 0x04

/-- Enumeration 1, management-form kinds. -/
def MgmtKind.code : MgmtKind → Byte
  | .request => 0x05 | .response => 0x06 | .notice => 0x07

/-- Enumeration 2. -/
def Action.code : Action → Byte
  | .start => 0 | .stop => 1 | .openPoint => 2 | .closePoint => 3 | .set => 4 | .gates => 5 | .resetFault => 6

/-- The action of a code (enumeration 2). -/
def Action.ofCode (b : Byte) : Option Action :=
  match b.toNat with
  | 0 => some .start | 1 => some .stop | 2 => some .openPoint | 3 => some .closePoint | 4 => some .set
  | 5 => some .gates | 6 => some .resetFault | _ => none

/-- Enumeration 3. -/
def ReplyOutcome.code : ReplyOutcome → Byte
  | .done => 0 | .failed => 1 | .notPossible => 2

/-- The outcome of a code (enumeration 3). -/
def ReplyOutcome.ofCode (b : Byte) : Option ReplyOutcome :=
  match b.toNat with
  | 0 => some .done | 1 => some .failed | 2 => some .notPossible | _ => none

/-- Enumeration 4. -/
def ReportState.code : ReportState → Byte
  | .stopped => 0x00 | .starting => 0x01 | .running => 0x02 | .stopping => 0x03 | .driveFaulted => 0x04
  | .closed => 0x10 | .opening => 0x11 | .opened => 0x12 | .closing => 0x13 | .valveFaulted => 0x14
  | .auto => 0x20 | .manual => 0x21
  | .good => 0x30 | .bad => 0x31
  | .gatesGood => 0x40 | .gatesFaulted => 0x41

/-- The reported state of a code (enumeration 4). -/
def ReportState.ofCode (b : Byte) : Option ReportState :=
  match b.toNat with
  | 0x00 => some .stopped | 0x01 => some .starting | 0x02 => some .running | 0x03 => some .stopping
  | 0x04 => some .driveFaulted
  | 0x10 => some .closed | 0x11 => some .opening | 0x12 => some .opened | 0x13 => some .closing
  | 0x14 => some .valveFaulted
  | 0x20 => some .auto | 0x21 => some .manual
  | 0x30 => some .good | 0x31 => some .bad
  | 0x40 => some .gatesGood | 0x41 => some .gatesFaulted
  | _ => none

/-- The class a reported state belongs to (R7). -/
def ReportState.cls : ReportState → PointClass
  | .stopped | .starting | .running | .stopping | .driveFaulted => .drive
  | .closed | .opening | .opened | .closing | .valveFaulted => .valve
  | .auto | .manual => .setpoint
  | .good | .bad => .measure
  | .gatesGood | .gatesFaulted => .gateset

/-- Enumeration 5. -/
def RefusalReason.code : RefusalReason → Byte
  | .noRoute => 1 | .isProtected => 2 | .wrongAction => 3 | .broadcast => 4 | .duplicateTag => 5 | .failHold => 6
  | .phase => 7 | .condition => 8 | .stale => 9 | .startLimit => 10 | .budget => 11 | .load => 12 | .busy => 13
  | .noSlot => 14 | .queueFull => 15 | .holdExpired => 16 | .superseded => 17 | .linkLost => 18 | .timeout => 19
  | .partReset => 20

/-- Enumeration 6. -/
def Phase.code : Phase → Byte
  | .idle => 0 | .warming => 1 | .ready => 2 | .running => 3 | .draining => 4 | .flushed => 5 | .halted => 6

/-- The phase of a code (enumeration 6). -/
def Phase.ofCode (b : Byte) : Option Phase :=
  match b.toNat with
  | 0 => some .idle | 1 => some .warming | 2 => some .ready | 3 => some .running | 4 => some .draining
  | 5 => some .flushed | 6 => some .halted | _ => none

/-- Enumeration 7. -/
def HaltCause.code : HaltCause → Byte
  | .trip => 0 | .lostSignal => 1 | .feedStop => 2 | .storeFull => 3 | .needLost => 4 | .permitLost => 5
  | .externalHalt => 6

/-- Enumeration 8. -/
def CampaignMode.code : CampaignMode → Byte
  | .outOfCampaign => 0 | .startUp => 1 | .inCampaign => 2 | .windDown => 3

/-- The campaign mode of a code (enumeration 8). -/
def CampaignMode.ofCode (b : Byte) : Option CampaignMode :=
  match b.toNat with
  | 0 => some .outOfCampaign | 1 => some .startUp | 2 => some .inCampaign | 3 => some .windDown | _ => none

/-- Enumeration 9. -/
def PartMode.code : PartMode → Byte
  | .transparent => 0 | .screening => 1 | .failHold => 2

/-- Enumeration 10. -/
def PortState.code : PortState → Byte
  | .down => 0 | .proving => 1 | .up => 2

/-- Enumeration 11. -/
def linkCode : PortId → Bool → Byte
  | .up, true => 0x00 | .up, false => 0x01
  | .dn .dn0, true => 0x10 | .dn .dn0, false => 0x11
  | .dn .dn1, true => 0x20 | .dn .dn1, false => 0x21
  | .dn .dn2, true => 0x30 | .dn .dn2, false => 0x31
  | .dn .dn3, true => 0x40 | .dn .dn3, false => 0x41

/-- Enumeration 14. -/
def Rejection.code : Rejection → Byte
  | .notLegal => 1 | .failHold => 2 | .haltLine => 3 | .inUse => 4 | .condition => 5 | .permit => 6 | .stale => 7
  | .range => 8 | .field => 9 | .badBody => 10 | .integrity => 11 | .logicalOverlap => 12 | .windowRange => 13
  | .feedsCycle => 14 | .needNotUtility => 15 | .storeFeed => 16 | .sectionField => 17 | .noSection => 18
  | .conditionUnmapped => 19 | .lowAboveHigh => 20 | .reserveAboveAllowance => 21 | .startTripAction => 22
  | .permitOutShared => 23 | .sectionInUse => 24 | .needConflict => 25

/-- Enumeration 15. -/
def NoticeKind.code : NoticeKind → Byte
  | .phaseChanged => 1 | .phaseOverdue => 2 | .tripActionFailed => 3 | .linkChanged => 4 | .bankSwapped => 5
  | .failHold => 6 | .campaignMode => 7

/-- Enumeration 16. -/
def Combination.code : Combination → Byte
  | .all => 0 | .any => 1

/-- The combination of a code (enumeration 16). -/
def Combination.ofCode (b : Byte) : Option Combination :=
  match b.toNat with
  | 0 => some .all | 1 => some .any | _ => none

/-- Enumeration 17. -/
def ValueTest.code : ValueTest → Byte
  | .noTest => 0 | .atLeast => 1 | .atMost => 2 | .between => 3 | .outside => 4 | .allOpen => 5 | .allClosed => 6

/-- The value test of a code (enumeration 17). -/
def ValueTest.ofCode (b : Byte) : Option ValueTest :=
  match b.toNat with
  | 0 => some .noTest | 1 => some .atLeast | 2 => some .atMost | 3 => some .between | 4 => some .outside
  | 5 => some .allOpen | 6 => some .allClosed | _ => none

/-- Enumeration 18. -/
def Role.code : Role → Byte
  | .production => 0 | .utility => 1 | .store => 2

/-- The role of a code (enumeration 18). -/
def Role.ofCode (b : Byte) : Option Role :=
  match b.toNat with
  | 0 => some .production | 1 => some .utility | 2 => some .store | _ => none

/-- Enumeration 19. -/
def PointClass.code : PointClass → Byte
  | .drive => 0 | .valve => 1 | .setpoint => 2 | .measure => 3 | .gateset => 4

/-- The class of a code (enumeration 19). -/
def PointClass.ofCode (b : Byte) : Option PointClass :=
  match b.toNat with
  | 0 => some .drive | 1 => some .valve | 2 => some .setpoint | 3 => some .measure | 4 => some .gateset | _ => none

/-- Enumeration 20. -/
def RowBase.code : RowBase → Byte
  | .pass => 0 | .refuse => 1

/-- The base of a code (enumeration 20). -/
def RowBase.ofCode (b : Byte) : Option RowBase :=
  match b.toNat with
  | 0 => some .pass | 1 => some .refuse | _ => none

/-- Enumeration 23. -/
def RunEmpty.code : RunEmpty → Byte
  | .notCounting => 0 | .counting _ => 1 | .confirmed => 2

/-- Enumeration 24. -/
def BankId.code : BankId → Byte
  | .a => 0 | .b => 1

/-- The bank of a code (enumeration 24). -/
def BankId.ofCode (b : Byte) : Option BankId :=
  match b.toNat with
  | 0 => some .a | 1 => some .b | _ => none

/-- Enumeration 25. -/
def DnPort.code : DnPort → Byte
  | .dn0 => 0 | .dn1 => 1 | .dn2 => 2 | .dn3 => 3

/-- The DN port of a code (enumeration 25). -/
def DnPort.ofCode (b : Byte) : Option DnPort :=
  match b.toNat with
  | 0 => some .dn0 | 1 => some .dn1 | 2 => some .dn2 | 3 => some .dn3 | _ => none

/-- The table codes 1 to 6, in the order of R164 (R173). -/
def TableId.code : TableId → Byte
  | .windows => 1 | .points => 2 | .sections => 3 | .sets => 4 | .rows => 5 | .budget => 6

/-- The table of a code (R173). -/
def TableId.ofCode (b : Byte) : Option TableId :=
  match b.toNat with
  | 1 => some .windows | 2 => some .points | 3 => some .sections | 4 => some .sets | 5 => some .rows
  | 6 => some .budget | _ => none

/-- The enumeration number and the code of a notice's cause (R156, R177). -/
def Cause.codes : Cause → Byte × Byte
  | .halt c => (7, HaltCause.code c)
  | .phase p => (6, Phase.code p)
  | .refusal r => (5, RefusalReason.code r)
  | .outcome o => (3, ReplyOutcome.code o)
  | .link p u => (11, linkCode p u)
  | .partMode m => (9, PartMode.code m)
  | .integrity => (14, Rejection.code .integrity)
  | .campaign m => (8, CampaignMode.code m)

end Sys2Proof.Machine
end

