-- ==== Sys2Proof/Machine/Codec.lean ====
section
/-! DEFINITION. The bytes of a telegram between its delimiters: layout, check code and what makes it malformed (R153 to
R155). -/
namespace Sys2Proof.Machine

/-- The two bytes of a field, high byte first (R155). -/
def wordBytes (w : Word) : List Byte := [w.extractLsb' 8 8, w.extractLsb' 0 8]

/-- The field of two bytes, high byte first (R155). -/
def wordOf (hi lo : Byte) : Word := hi ++ lo

/-- One bit of a byte entering the check register: the generator is x^16 + x^12 + x^5 + 1 (R154). -/
def crcShift (r : Word) : Word := if r.msb then (r <<< 1) ^^^ 0x1021 else r <<< 1

/-- One byte entering the check register, most significant bit first (R154). -/
def crcByte (r : Word) (b : Byte) : Word :=
  (List.range 8).foldl (fun x _ => crcShift x) (r ^^^ (b ++ (0 : Byte)))

/-- The check code of a run of bytes: the register is preset to FFFFH and sent without inversion (R154). -/
def checkCode (bytes : List Byte) : Word := bytes.foldl crcByte 0xFFFF

/-- A telegram's bytes but its check bytes, byte 0 first (R155). -/
def telegramBytes : Telegram → List Byte
  | .point k t =>
    [t.dest, t.src, PointKind.code k, t.tag] ++ wordBytes t.point ++ [t.code, t.flags] ++ wordBytes t.value
  | .mgmt k t => [t.dest, t.src, MgmtKind.code k, t.tag, t.code, BitVec.ofNat 8 t.body.length] ++ t.body

/-- A telegram's bytes between its delimiters (R154, R155). -/
def encodeTelegram (t : Telegram) : List Byte := telegramBytes t ++ wordBytes (checkCode (telegramBytes t))

/-- What the kind byte says of a telegram's form (R156). -/
def kindOf (b : Byte) : Option (PointKind ⊕ MgmtKind) :=
  match b.toNat with
  | 1 => some (.inl .order) | 2 => some (.inl .reply) | 3 => some (.inl .report) | 4 => some (.inl .refusal)
  | 5 => some (.inr .request) | 6 => some (.inr .response) | 7 => some (.inr .notice) | _ => none

/-- The telegram of the bytes, without regard to the check bytes; nothing where it is malformed (R153). -/
def parseFields (bytes : List Byte) : Option Telegram :=
  match bytes with
  | dest :: src :: kind :: tag :: rest =>
    match kindOf kind with
    | some (.inl k) =>
      match rest with
      | [p1, p0, code, flags, v1, v0, _, _] =>
        some (.point k ⟨dest, src, tag, wordOf p1 p0, code, flags, wordOf v1 v0⟩)
      | _ => none
    | some (.inr k) =>
      match rest with
      | code :: len :: body =>
        if len.toNat ≤ 240 && body.length == len.toNat + 2 then
          some (.mgmt k ⟨dest, src, tag, code, body.take len.toNat⟩)
        else none
      | _ => none
    | none => none
  | _ => none

/-- Whether the check bytes of a telegram agree with its other bytes (R154). -/
def checkAgrees (bytes : List Byte) : Bool :=
  bytes.drop (bytes.length - 2) == wordBytes (checkCode (bytes.take (bytes.length - 2)))

/-- What a port takes from the bytes between two delimiters: a telegram, or nothing where they are malformed or the check
code does not agree (R153, R154). -/
def decodeTelegram (bytes : List Byte) : Option Telegram :=
  match parseFields bytes with
  | some t => if checkAgrees bytes then some t else none
  | none => none

end Sys2Proof.Machine
end

