-- ==== Sys2Proof/Machine/Store.lean ====
section
/-! DEFINITION. Reading and writing a `Store`: the tables, the image, the sections, the ports and the discrete lines. -/
namespace Sys2Proof.Machine

/-- The listed entry at index `k`, if there is one. -/
def Store.find {α : Type} : Store α → Nat → Option α
  | [], _ => none
  | (j, v) :: rest, k => if j = k then some v else Store.find rest k

/-- The entry at index `k`, an unlisted index reading as `d`. -/
def Store.read {α : Type} (d : α) (m : Store α) (k : Nat) : α := (Store.find m k).getD d

/-- Lists `v` at index `k`, in the rising order of the indices. -/
def Store.put {α : Type} : Store α → Nat → α → Store α
  | [], k, v => [(k, v)]
  | (j, w) :: rest, k, v =>
    if k < j then (k, v) :: (j, w) :: rest
    else if k = j then (k, v) :: rest
    else (j, w) :: Store.put rest k v

/-- Removes every listed entry at index `k`. -/
def Store.unlist {α : Type} (m : Store α) (k : Nat) : Store α := m.filter (fun e => e.1 != k)

/-- Writes `v` at index `k`; an entry equal to what an unlisted index reads as is not listed. -/
def Store.write {α : Type} [DecidableEq α] (d : α) (m : Store α) (k : Nat) (v : α) : Store α :=
  if v = d then Store.unlist m k else Store.put m k v

/-- The canonical form: indices strictly rising, and no entry equal to what an unlisted index reads as. -/
def Store.wf {α : Type} [DecidableEq α] (d : α) (m : Store α) : Bool :=
  decide (m.Pairwise (fun x y => x.1 < y.1)) && m.all (fun e => decide (e.2 ≠ d))

/-- The index of a port in `State.ports`: UP 0, DN0 to DN3 1 to 4. -/
def DnPort.number : DnPort → Nat
  | .dn0 => 0 | .dn1 => 1 | .dn2 => 2 | .dn3 => 3

/-- The index of a port in `State.ports`. -/
def PortId.index : PortId → Nat
  | .up => 0
  | .dn d => 1 + DnPort.number d

/-- The four DN ports. -/
def allDnPorts : List DnPort := [.dn0, .dn1, .dn2, .dn3]

/-- The five ports, UP first. -/
def allPorts : List PortId := .up :: allDnPorts.map PortId.dn

/-- The port `p` as it stands. -/
def State.port (s : State) (p : PortId) : Port := Store.read Port.clear s.ports (PortId.index p)

/-- Sets the port `p`. -/
def State.setPort (s : State) (p : PortId) (v : Port) : State :=
  { s with ports := Store.write Port.clear s.ports (PortId.index p) v }

/-- The dynamic part of logical point `p` (R8). -/
def State.point (s : State) (p : Nat) : PointDyn := Store.read PointDyn.clear s.image p

/-- Sets the dynamic part of logical point `p`. -/
def State.setPoint (s : State) (p : Nat) (v : PointDyn) : State :=
  { s with image := Store.write PointDyn.clear s.image p v }

/-- The dynamic state of section `n` (R22). -/
def State.sect (s : State) (n : Nat) : SectionDyn := Store.read SectionDyn.clear s.sects n

/-- Sets the dynamic state of section `n`. -/
def State.setSect (s : State) (n : Nat) (v : SectionDyn) : State :=
  { s with sects := Store.write SectionDyn.clear s.sects n v }

/-- The level of PERMIT-IN line `k`. -/
def State.permitInLevel (s : State) (k : Nat) : Bool := Store.read false s.permitIn k

/-- The level of PERMIT-OUT line `k` (R42). -/
def State.permitOutLevel (s : State) (k : Nat) : Bool := Store.read false s.permitOut k

/-- Sets the level of PERMIT-OUT line `k`. -/
def State.setPermitOut (s : State) (k : Nat) (level : Bool) : State :=
  { s with permitOut := Store.write false s.permitOut k level }

/-- Sets the Held Order Queue. -/
def State.setHeld (s : State) (l : List HeldRec) : State := { s with held := l }

/-- Sets what the event in progress has still to take. -/
def State.setAgenda (s : State) (l : List Task) : State := { s with agenda := l }

/-- Sets the requests that wait for the handler. -/
def State.setRequests (s : State) (l : List MgmtTel) : State := { s with requests := l }

/-- Sets NOTICE_LOST. -/
def State.setNoticeLost (s : State) (b : Bool) : State := { s with noticeLost := b }

/-- Sets the pledge sum F. -/
def State.setPledgeSum (s : State) (n : Nat) : State := { s with pledgeSum := n }

/-- Sets the standby-written flag. -/
def State.setStandbyWritten (s : State) (b : Bool) : State := { s with standbyWritten := b }

/-- Sets the swap check in progress. -/
def State.setSwapCheck (s : State) (c : Option SwapCheck) : State := { s with swapCheck := c }

/-- The stored window `i` of a bank (R1, R164). -/
def Bank.window (b : Bank) (i : Nat) : Stored Window := Store.read ⟨Window.empty, true⟩ b.windows i
/-- The stored static part of point `i` of a bank (R7). -/
def Bank.pointStatic (b : Bank) (i : Nat) : Stored PointStatic := Store.read ⟨PointStatic.empty, true⟩ b.points i
/-- The stored section record `i` of a bank (R20). -/
def Bank.sectionRec (b : Bank) (i : Nat) : Stored SectionRec := Store.read ⟨SectionRec.empty, true⟩ b.sections i
/-- The stored condition set `i` of a bank (R24). -/
def Bank.condSet (b : Bank) (i : Nat) : Stored ConditionSet := Store.read ⟨ConditionSet.empty, true⟩ b.sets i
/-- The stored screen row `i` of a bank (R80). -/
def Bank.row (b : Bank) (i : Nat) : Stored ScreenRow := Store.read ⟨ScreenRow.empty, true⟩ b.rows i

/-- A read of an entry (R165): nothing where the read meets an integrity fault. -/
def Stored.checked {α : Type} (e : Stored α) : Option α := if e.good then some e.content else none

/-- Whether the integrity codes of an entry of a bank agree (R165). -/
def Bank.entryGood (b : Bank) : EntryRef → Bool
  | ⟨.windows, i⟩ => (b.window i).good
  | ⟨.points, i⟩ => (b.pointStatic i).good
  | ⟨.sections, i⟩ => (b.sectionRec i).good
  | ⟨.sets, i⟩ => (b.condSet i).good
  | ⟨.rows, i⟩ => (b.row i).good
  | ⟨.budget, _⟩ => b.budget.good

/-- The bank of a name. -/
def State.bank (s : State) : BankId → Bank
  | .a => s.bankA
  | .b => s.bankB

/-- Sets the bank of a name. -/
def State.setBank (s : State) (i : BankId) (b : Bank) : State :=
  match i with
  | .a => { s with bankA := b }
  | .b => { s with bankB := b }

/-- The bank every block reads (R164); an empty bank while the active-bank marker is absent. -/
def State.activeBank (s : State) : Bank :=
  match s.active with
  | some i => s.bank i
  | none => Bank.empty

/-- The other bank of a name. -/
def BankId.other : BankId → BankId
  | .a => .b
  | .b => .a

/-- A checked read of window `i` of the active bank. -/
def State.readWindow (s : State) (i : Nat) : Option Window := (s.activeBank.window i).checked
/-- A checked read of the static part of point `p`. -/
def State.readPoint (s : State) (p : Nat) : Option PointStatic := (s.activeBank.pointStatic p).checked
/-- A checked read of section record `n`. -/
def State.readSection (s : State) (n : Nat) : Option SectionRec := (s.activeBank.sectionRec n).checked
/-- A checked read of condition set `k`. -/
def State.readSet (s : State) (k : Nat) : Option ConditionSet := (s.activeBank.condSet k).checked
/-- A checked read of screen row `i`. -/
def State.readRow (s : State) (i : Nat) : Option ScreenRow := (s.activeBank.row i).checked
/-- A checked read of the budget record. -/
def State.readBudget (s : State) : Option BudgetRec := s.activeBank.budget.checked

/-- The part's own station number: 240 plus the straps (R157). -/
def State.station (s : State) : Byte := 240 + (s.straps.setWidth 8)

/-- The reset is held while the supply is out of range or the RESET input is asserted (R178). -/
def State.inReset (s : State) : Bool := s.supplyBad || s.resetLine

/-- The tenths elapsed on the part clock since `t`, modulo 2^32 (scope file, section 5.1). -/
def State.elapsed (s : State) (t : Clock) : Nat := (s.clock - t).toNat

end Sys2Proof.Machine
end

