-- ==== Sys2Proof/Machine/Flags.lean ====
section
/-! DEFINITION. The latched port flags (R152) and the change marks of points and sections (R18, R23). -/
namespace Sys2Proof.Machine

/-- Latches LINK_LOST on a port (R152). -/
def State.latchLinkLost (s : State) (p : PortId) : State := s.setPort p { s.port p with linkLost := true }

/-- Latches CHECK_ERROR on a port (R152). -/
def State.latchCheckError (s : State) (p : PortId) : State := s.setPort p { s.port p with checkError := true }

/-- Latches RECEIVE_REFUSED on a port (R152). -/
def State.latchReceiveRefused (s : State) (p : PortId) : State := s.setPort p { s.port p with receiveRefused := true }

/-- Clears the three flags of one port. -/
def State.clearPortFlags (s : State) (p : PortId) : State :=
  s.setPort p { s.port p with linkLost := false, checkError := false, receiveRefused := false }

/-- Clears the 15 port flags (R152, R175). -/
def State.clearFlags (s : State) : State := allPorts.foldl State.clearPortFlags s

/-- Sets the change mark of a section (R23). -/
def State.markSection (s : State) (n : Nat) : State := s.setSect n { s.sect n with mark := true }

/-- Clears the change marks of all 16 sections (R23, R175). DESIGN CHOICE: R77 has a HALTED section keep its change mark until
it leaves HALTED, and R23 and R175 clear all 16. The mark of a HALTED section is cleared too (notes/assumptions/49.md). -/
def State.clearSectionMarks (s : State) : State :=
  (List.range 16).foldl (fun s n => s.setSect n { s.sect n with mark := false }) s

/-- Clears the change marks of `count` points from `first` (R18, R176). -/
def State.clearPointMarks (s : State) (first count : Nat) : State :=
  (List.range count).foldl (fun s i => s.setPoint (first + i) { s.point (first + i) with mark := false }) s

end Sys2Proof.Machine
end

