-- ==== Sys2Proof/Machine/Ops.lean ====
section
/-! DEFINITION. The operations the meanings share: free choices, the UP transmit queue, notices, refusals, integrity
faults and the Outstanding Order Table. -/
namespace Sys2Proof.Machine

/-! ### Free choices -/

/-- The place of the thing taken among `count` things the spec puts in no order: a free value, drawn only where there are
two or more. -/
def State.chooseIndex (s : State) (count : Nat) : Nat :=
  if count ≤ 1 then 0 else Config.choice s.draws count % count

/-- Counts a free value as drawn. -/
def State.countDraw (s : State) : State := { s with draws := s.draws + 1 }

/-- Counts a choice among `count` things as drawn, where there was a choice. -/
def State.countChoice (s : State) (count : Nat) : State := if count ≤ 1 then s else s.countDraw

/-- The things of a list in a free order: the first `fuel` places are filled by free choices. -/
def shuffle {α : Type} : Nat → List α → State → List α × State
  | 0, xs, s => (xs, s)
  | fuel + 1, xs, s =>
    match xs[s.chooseIndex xs.length]? with
    | none => (xs, s)
    | some x =>
      let rest := shuffle fuel (xs.eraseIdx (s.chooseIndex xs.length)) (s.countChoice xs.length)
      (x :: rest.1, rest.2)

/-! ### Outstanding entries -/

/-- An entry of a supervisory order counts in the answer debt (R149). -/
def Entry.isSupervisory (e : Entry) : Bool :=
  match e.origin with
  | .supervisory _ => true
  | .part _ => false

/-- The entries in use of one part (R136). -/
def State.partCount (s : State) (k : EntryPart) : Nat := (s.entries.filter (fun e => e.part == k)).length

/-- Whether an entry waits in its lane (R139). -/
def Entry.isQueued (e : Entry) : Bool := e.lane == .queued

/-- The orders in a lane of a DN port, oldest first: its QUEUED entries of one part (R139). -/
def State.lane (s : State) (d : DnPort) (k : EntryPart) : List Entry :=
  s.entries.filter (fun e => e.part == k && e.port == d && e.isQueued)

/-- The source station of an entry's order (R136). -/
def State.entrySource (s : State) (e : Entry) : Byte :=
  match e.origin with
  | .supervisory src => src
  | .part _ => s.station

/-- The ORDER telegram of an entry, as it leaves on its DN port (R97, R73). -/
def State.entryTel (s : State) (e : Entry) : PointTel :=
  ⟨e.dest, s.entrySource e, e.tag, e.point, Action.code e.action, 0, e.value⟩

/-- Adds an entry as the youngest, in lane state QUEUED (R137): `seq` is set here. -/
def State.addEntry (s : State) (e : Entry) : State :=
  { s with entries := s.entries ++ [{ e with seq := s.nextSeq }], nextSeq := s.nextSeq + 1 }

/-! ### The UP transmit queue (R160, R161) -/

/-- A report of the queue. -/
def UpItem.isReport (u : UpItem) : Bool :=
  match u.content with
  | .report _ => true
  | _ => false

/-- A notice of the queue. -/
def UpItem.isNotice (u : UpItem) : Bool :=
  match u.content with
  | .notice _ => true
  | _ => false

/-- A reserved response place of the queue (R161). -/
def UpItem.isPlace (u : UpItem) : Bool := u.content == .place

/-- The reports in a queue. -/
def reportCount (q : List UpItem) : Nat := (q.filter UpItem.isReport).length

/-- The notices in a queue. -/
def noticeCount (q : List UpItem) : Nat := (q.filter UpItem.isNotice).length

/-- The non-report telegrams in a queue, reserved places included. -/
def nonReportCount (q : List UpItem) : Nat := (q.filter (fun u => !u.isReport)).length

/-- The answer debt (R161). -/
def State.debt (s : State) : Nat :=
  nonReportCount s.upQueue + s.held.length + (s.entries.filter Entry.isSupervisory).length

/-- Discards the oldest queued report (R160). -/
def discardOldestReport (q : List UpItem) : List UpItem := q.eraseP UpItem.isReport

/-- The queue after a non-report telegram joins at the tail (R160). -/
def upJoin (q : List UpItem) (c : UpContent) : List UpItem :=
  let q' := q ++ [⟨c, false⟩]
  if q'.length > Config.upQueueLimit then discardOldestReport q' else q'

/-- Whether a place holds the report of a station and station point (R160). -/
def UpItem.hasKey (src : Byte) (point : Word) (u : UpItem) : Bool :=
  match u.content with
  | .report t => t.src == src && t.point == point
  | _ => false

/-- The queue after a report arrives: it replaces the queued report of its key in its place, or joins at the tail, and
the oldest report gives way beyond 48 reports or 128 telegrams (R160). -/
def upReport (q : List UpItem) (t : PointTel) : List UpItem :=
  if q.any (UpItem.hasKey t.src t.point) then
    q.map (fun u => if UpItem.hasKey t.src t.point u then ⟨.report t, u.sending⟩ else u)
  else
    let q' := q ++ [⟨.report t, false⟩]
    if reportCount q' > Config.reportLimit || q'.length > Config.upQueueLimit then discardOldestReport q' else q'

/-- A non-report telegram joins the UP transmit queue. -/
def State.pushUp (s : State) (c : UpContent) : State := { s with upQueue := upJoin s.upQueue c }

/-- A report arrives at the UP transmit queue (R14, R160). -/
def State.pushReport (s : State) (t : PointTel) : State := { s with upQueue := upReport s.upQueue t }

/-- Fills the oldest reserved place with a response (R161, R174). -/
def fillPlace : List UpItem → MgmtTel → List UpItem
  | [], _ => []
  | u :: rest, t => if u.isPlace then ⟨.response t, u.sending⟩ :: rest else u :: fillPlace rest t

/-! ### Notices (R177) -/

/-- Offers a notice to the Notice Queue: dropped if its kind is masked, dropped with NOTICE_LOST latched at 16 notices or
an answer debt of 120, and otherwise queued. -/
def State.offerNotice (s : State) (k : NoticeKind) (sect point : Option Nat) (c : Cause) : State :=
  if k ∉ s.noticeMask then s
  else if noticeCount s.upQueue ≥ Config.noticeLimit ∨ s.debt ≥ Config.debtLimit then s.setNoticeLost true
  else s.pushUp (.notice ⟨k, sect, point, c, s.clock⟩)

/-! ### Refusals (R82, R102) -/

/-- The REFUSAL telegram of an order (R82, R155). -/
def State.refusalTel (s : State) (t : PointTel) (r : RefusalReason) : PointTel :=
  ⟨t.src, s.station, t.tag, t.point, RefusalReason.code r, 0, t.dest.setWidth 16⟩

/-- The refusal capture takes a refusal: captured if the capture is empty, and MORE_REFUSALS set otherwise (R102). -/
def State.captureRefusal (s : State) (t : PointTel) (r : RefusalReason) : State :=
  match s.capture with
  | none => { s with capture := some ⟨t.src, t.dest, t.point, t.tag, t.code, r, s.clock⟩ }
  | some _ => { s with moreRefusals := true }

/-- Answers an order with a REFUSAL in the class of answers, which the refusal capture takes. -/
def State.refuse (s : State) (t : PointTel) (r : RefusalReason) : State :=
  (s.pushUp (.answer (.point .refusal (s.refusalTel t r)))).captureRefusal t r

/-! ### Tasks: what an event has still to take -/

/-- Adds a task to the event in progress. -/
def State.addTask (s : State) (t : Task) : State := { s with agenda := s.agenda ++ [t] }

/-- A release scan is started (R124). -/
def State.startScan (s : State) : State := s.addTask .scan

/-! ### Integrity faults (R165, R171) -/

/-- Removes every held record, oldest first, and refuses each with one reason (R133, R134). -/
def State.emptyHeld (s : State) (r : RefusalReason) : State :=
  s.held.foldl (fun s h => s.refuse h.tel r) (s.setHeld [])

/-- The section a FAIL_HOLD notice carries: of a section record alone (R171). -/
def EntryRef.sect? : EntryRef → Option Nat
  | ⟨.sections, i⟩ => some i
  | _ => none

/-- The logical point a FAIL_HOLD notice carries: of a point static part alone (R171). -/
def EntryRef.point? : EntryRef → Option Nat
  | ⟨.points, i⟩ => some i
  | _ => none

/-- An active fault is taken by the Bank Store: in SCREENING it is the entry to FAIL_HOLD, with FAULT asserted, one
FAIL_HOLD notice and the Held Order Queue emptied; in FAIL_HOLD it changes nothing (R171, R133). -/
def State.activeFault (s : State) (e : EntryRef) : State :=
  if s.mode = .screening then
    (({ s with mode := .failHold, fault := true }).offerNotice .failHold e.sect? e.point? .integrity).emptyHeld .failHold
  else s

/-- An event that reads entry `e` of the active bank has its effect where the read is good; where it meets an integrity fault
the effect is not made and the fault is taken (R20, R165). -/
def State.ifReadable (s : State) (e : EntryRef) (f : State → State) : State :=
  if s.activeBank.entryGood e then f s else s.activeFault e

/-- The reads of a list of entries of the active bank: the first that meets an integrity fault is taken as an active
fault (further ones find the part in FAIL_HOLD). -/
def State.checkReads (s : State) (reads : List EntryRef) : State :=
  match reads.find? (fun e => !s.activeBank.entryGood e) with
  | some e => s.activeFault e
  | none => s

/-! ### Removal of an outstanding entry (R142) -/

/-- The pledge an entry carries, 0 where it carries none. -/
def Entry.pledged (e : Entry) : Nat := e.pledge.getD 0

/-- Frees an entry, with its lane place, its timer and its pledge (R142, R113). -/
def State.freeEntry (s : State) (e : Entry) : State :=
  { s with entries := s.entries.filter (fun x => x.seq != e.seq), pledgeSum := s.pledgeSum - e.pledged }

/-- The scans the removal of an entry starts outside the resets: its own, one for a freed lane place and one for a
released pledge (R142, R115). -/
def State.removalScans (s : State) (e : Entry) : State :=
  let s1 := s.startScan
  let s2 := if e.isQueued then s1.startScan else s1
  if e.pledged = 0 then s2 else s2.startScan

/-- The removal of an entry by its reply, its timer or the loss of its port (R142). -/
def State.removeEntry (s : State) (e : Entry) : State := (s.freeEntry e).removalScans e

/-- Ends an entry that no reply ended: a REFUSAL for a supervisory order, a TRIP_ACTION_FAILED notice for a trip action
(R75, R145, R146). -/
def State.failEntry (s : State) (e : Entry) (r : RefusalReason) : State :=
  match e.origin with
  | .supervisory _ => (s.removeEntry e).refuse (s.entryTel e) r
  | .part n => (s.removeEntry e).offerNotice .tripActionFailed (some n) e.logical (.refusal r)

/-- Frees every entry at RESET_PART and GO_TRANSPARENT: supervisory orders are refused PART_RESET, oldest first, trip
actions are dropped, and no scan is started (R147). -/
def State.emptyEntries (s : State) : State :=
  s.entries.foldl
    (fun s e => if e.isSupervisory then (s.freeEntry e).refuse (s.entryTel e) .partReset else s.freeEntry e) s

/-! ### Windows (R2 to R5) -/

/-- Whether a window covers a station's station point (R3). -/
def Window.covers (w : Window) (station point : Nat) : Bool :=
  w.defined && w.station == station && w.first ≤ point && point ≤ w.last

/-- Whether the logical range of a window contains a logical point (R2). -/
def Window.holds (w : Window) (p : Nat) : Bool :=
  w.defined && w.first ≤ w.last && w.base ≤ p && p ≤ w.base + (w.last - w.first)

/-- The logical point of a station point of a window (R2). -/
def Window.logicalOf (w : Window) (point : Nat) : Nat := w.base + (point - w.first)

/-- The result of a search of the windows: the window found, none, or an integrity fault met at a window (R3, R74). -/
inductive Found where
  | window (index : Nat) (w : Window)
  | absent
  | faulty (index : Nat)
  deriving DecidableEq, Repr

/-- Reads windows in the order given and stops at the first that passes, or at an integrity fault (R3). -/
def findWindow (b : Bank) (pass : Window → Bool) : List Nat → Found
  | [] => .absent
  | i :: rest =>
    match (b.window i).checked with
    | none => .faulty i
    | some w => if pass w then .window i w else findWindow b pass rest

/-- The covering window of a station and station point in a bank (R3). -/
def coveringIn (b : Bank) (station : Byte) (point : Word) : Found :=
  findWindow b (fun w => w.covers station.toNat point.toNat) (List.range 32)

/-- The covering window in the active bank (R3). -/
def State.covering (s : State) (station : Byte) (point : Word) : Found := coveringIn s.activeBank station point

/-- The window of a logical point in the active bank, for the reverse mapping (R5). The order of its reads is DEDUCED from R3:
from window 0, ending at the first that holds the point, or at a damaged one (notes/assumptions/32.md). -/
def State.windowOf (s : State) (p : Nat) : Found := findWindow s.activeBank (fun w => w.holds p) (List.range 32)

/-- The number of the defined window whose logical range holds a logical point, by the stored content alone (R2). -/
def Bank.storedIndexOf (b : Bank) (p : Nat) : Option Nat := (List.range 32).find? (fun i => (b.window i).content.holds p)

/-- The defined window whose logical range holds a logical point, by the stored content alone (R2). -/
def Bank.storedWindowOf (b : Bank) (p : Nat) : Option Window := (b.storedIndexOf p).map (fun i => (b.window i).content)

/-- Whether a logical point is mapped in a bank (R2). -/
def Bank.isMapped (b : Bank) (p : Nat) : Bool := (b.storedWindowOf p).isSome

/-- The fault a window search met, taken by the Bank Store (R3, R171). -/
def State.takeFound (s : State) : Found → State
  | .faulty i => s.activeFault ⟨.windows, i⟩
  | _ => s

end Sys2Proof.Machine
end

