-- ==== Sys2Proof/Machine/Conditions.lean ====
section
/-! DEFINITION. Conditions, condition sets and the terms of the phase ladder's requirements (R24 to R34). -/
namespace Sys2Proof.Machine

/-! ### Conditions (R25, R26) -/

/-- The state test of a condition (R25). -/
def StateTest.passes : StateTest → ReportState → Bool
  | .any, _ => true
  | .oneOf l, r => r ∈ l

/-- The value test of a condition, on a value of a point of a class (R25). -/
def ValueTest.passes (t : ValueTest) (ref1 ref2 : Word) (cls : PointClass) (v : Word) : Bool :=
  match t with
  | .noTest => true
  | .atLeast => cls != .gateset && decide (ref1.toInt ≤ v.toInt)
  | .atMost => cls != .gateset && decide (v.toInt ≤ ref1.toInt)
  | .between => cls != .gateset && decide (ref1.toInt ≤ v.toInt) && decide (v.toInt ≤ ref2.toInt)
  | .outside => cls != .gateset && (decide (v.toInt < ref1.toInt) || decide (ref2.toInt < v.toInt))
  | .allOpen => cls == .gateset && (v &&& ref1) == ref1
  | .allClosed => cls == .gateset && (v &&& ref1) == 0

/-- Whether a value passes a condition's value test. DESIGN CHOICE: the point's class is read from its static part for every test
but NONE, and a test whose read meets an integrity fault fails (notes/assumptions/41.md). -/
def State.valuePasses (s : State) (c : Condition) (v : Word) : Bool :=
  c.test == .noTest ||
    match s.readPoint c.point with
    | some st => c.test.passes c.ref1 c.ref2 st.cls v
    | none => false

/-- Whether a condition holds: the point is FRESH, the state test passes and the value test passes (R25). -/
def State.condHolds (s : State) (c : Condition) : Bool :=
  match (s.point c.point).report with
  | some r => (s.point c.point).fresh && c.states.passes r.state && s.valuePasses c r.value
  | none => false

/-- Whether the conditions of a set hold together (R26). -/
def State.conditionsHold (s : State) (cs : ConditionSet) : Bool :=
  match cs.combination with
  | .all => cs.conditions.all s.condHolds
  | .any => cs.conditions.any s.condHolds

/-- Whether a set holds (R26); one whose read meets an integrity fault, or that is not defined, does not (R24). -/
def State.setHolds (s : State) (k : Nat) : Bool :=
  match s.readSet k with
  | some cs => cs.defined && s.conditionsHold cs
  | none => false

/-- Whether an optional set holds, an absent one counting as `absent` (R26). -/
def State.setHoldsOr (s : State) (absent : Bool) : Option Nat → Bool
  | some k => s.setHolds k
  | none => absent

/-- The points a set names; none where the set cannot be read. -/
def State.setPoints (s : State) (k : Nat) : List Nat :=
  match s.readSet k with
  | some cs => cs.conditions.map Condition.point
  | none => []

/-- Whether an optional set names a point. -/
def State.setNames (s : State) (o : Option Nat) (p : Nat) : Bool :=
  match o with
  | some k => p ∈ s.setPoints k
  | none => false

/-- Whether an optional set names a STALE point (R26). DESIGN CHOICE: a set whose read meets an integrity fault names none, so that
it is not stale-blocked (notes/assumptions/47.md). -/
def State.setHasStale (s : State) : Option Nat → Bool
  | some k => (s.setPoints k).any (fun p => !(s.point p).fresh)
  | none => false

/-- The entries read to evaluate a set: the set, and the static parts of the points whose values it tests. DESIGN CHOICE: those
of every condition with a value test are read, also of STALE points and where other conditions decide the set
(notes/assumptions/43.md). -/
def State.setReads (s : State) (k : Nat) : List EntryRef :=
  ⟨.sets, k⟩ ::
    match s.readSet k with
    | some cs => (cs.conditions.filter (fun c => c.test != .noTest)).map (fun c => ⟨.points, c.point⟩)
    | none => []

/-- The entries read to evaluate an optional set. -/
def State.optSetReads (s : State) : Option Nat → List EntryRef
  | some k => s.setReads k
  | none => []

/-! ### Sections and their relations (R20, R21) -/

/-- The 16 section numbers. -/
def sectionNumbers : List Nat := List.range 16

/-- The 16 section records, as entries to read. -/
def sectionRefs : List EntryRef := sectionNumbers.map (fun n => ⟨.sections, n⟩)

/-- The record of a defined section; nothing for an undefined section or where the read meets an integrity fault (R20). -/
def State.definedRec (s : State) (n : Nat) : Option SectionRec :=
  match s.readSection n with
  | some r => if r.defined then some r else none
  | none => none

/-- The defined sections. -/
def State.definedSections (s : State) : List Nat := sectionNumbers.filter (fun n => (s.definedRec n).isSome)

/-- The feeders of a section: the defined sections that name it in feeds (R21). -/
def State.feeders (s : State) (n : Nat) : List Nat :=
  sectionNumbers.filter (fun m => match s.definedRec m with | some r => n ∈ r.feeds | none => false)

/-- The dependents of a section: the defined sections that name it in needs (R21). -/
def State.dependents (s : State) (n : Nat) : List Nat :=
  sectionNumbers.filter (fun m => match s.definedRec m with | some r => n ∈ r.needs | none => false)

/-- The phase of a section. -/
def State.phaseOf (s : State) (n : Nat) : Phase := (s.sect n).phase

/-- FLUSHED or IDLE (R29). -/
def Phase.finished : Phase → Bool
  | .flushed | .idle => true
  | _ => false

/-! ### Terms of a requirement (R29) -/

/-- Every need is RUNNING. -/
def State.needsRunning (s : State) (r : SectionRec) : Bool := r.needs.all (fun m => s.phaseOf m == .running)

/-- The named PERMIT-IN line, if any, is asserted. -/
def State.permitOk (s : State) (r : SectionRec) : Bool :=
  match r.permitIn with
  | some k => s.permitInLevel k
  | none => true

/-- A STORE with a record is accepting: RUNNING, level point FRESH and below the high limit (R33). -/
def State.accepting (s : State) (n : Nat) (r : SectionRec) : Bool :=
  s.phaseOf n == .running &&
    match r.level with
    | some l =>
      (s.point l.point).fresh &&
        match (s.point l.point).report with
        | some rep => decide (rep.value.toInt < l.high.toInt)
        | none => false
    | none => false

/-- A STORE with a record is delivering: RUNNING, with a reported level above the low limit (R34). -/
def State.delivering (s : State) (n : Nat) (r : SectionRec) : Bool :=
  s.phaseOf n == .running &&
    match r.level with
    | some l =>
      match (s.point l.point).report with
      | some rep => decide (l.low.toInt < rep.value.toInt)
      | none => false
    | none => false

/-- Feeds open: every fed section is RUNNING, and a fed STORE is accepting (R29). -/
def State.feedsOpen (s : State) (r : SectionRec) : Bool :=
  r.feeds.all (fun m =>
    match s.readSection m with
    | some f => if f.role = .store then s.accepting m f else s.phaseOf m == .running
    | none => false)

/-- Every dependent is FLUSHED or IDLE. -/
def State.dependentsFinished (s : State) (n : Nat) : Bool := (s.dependents n).all (fun m => (s.phaseOf m).finished)

/-- Every feeder is FLUSHED or IDLE. -/
def State.feedersFinished (s : State) (n : Nat) : Bool := (s.feeders n).all (fun m => (s.phaseOf m).finished)

/-! ### The phase ladder (R28) -/

/-- The deciding set of a transition (R26). -/
inductive DecidingSet where
  | warm | run | flush | trip
  deriving DecidableEq, Repr

/-- Which terms of R29 a transition requires (R28). -/
structure Requirement where
  needs : Bool := false
  haltLine : Bool := false
  permit : Bool := false
  feeds : Bool := false
  dependents : Bool := false
  drained : Bool := false
  notWindDown : Bool := false
  deciding : Option DecidingSet := none
  deriving DecidableEq, Repr

/-- The legal transitions with their requirements (R28). -/
def ladder : Phase → Phase → Option Requirement
  | .idle, .warming => some { needs := true, haltLine := true }
  | .warming, .ready => some { deciding := some .warm }
  | .warming, .idle => some {}
  | .ready, .running =>
    some { needs := true, haltLine := true, permit := true, feeds := true, deciding := some .run }
  | .ready, .warming => some {}
  | .running, .draining => some { dependents := true }
  | .draining, .running =>
    some { needs := true, haltLine := true, permit := true, feeds := true, notWindDown := true, deciding := some .run }
  | .draining, .flushed => some { drained := true }
  | .flushed, .idle => some { deciding := some .flush }
  | .flushed, .warming => some { needs := true, haltLine := true }
  | .halted, .ready => some { needs := true, haltLine := true, permit := true, deciding := some .trip }
  | .halted, .draining => some { needs := true, haltLine := true }
  | _, _ => none

/-- The set of a section that decides a transition. -/
def SectionRec.deciding (r : SectionRec) : DecidingSet → Option Nat
  | .warm => r.warmSet
  | .run => r.runSet
  | .flush => r.flushSet
  | .trip => r.tripSet

/-- The deciding set lets the transition pass: it holds, or for the trip set it does not hold (R28). -/
def State.decidingHolds (s : State) (r : SectionRec) (d : DecidingSet) : Bool :=
  match d with
  | .trip => !s.setHoldsOr false r.tripSet
  | _ => s.setHoldsOr true (r.deciding d)

/-- The deciding set is stale-blocked (R26). -/
def State.staleBlocked (s : State) (r : SectionRec) (d : DecidingSet) : Bool :=
  match d with
  | .trip => s.setHasStale r.tripSet
  | _ => !s.setHoldsOr true (r.deciding d) && s.setHasStale (r.deciding d)

/-- The run-empty state of a section is CONFIRMED. -/
def State.isConfirmed (s : State) (n : Nat) : Bool := (s.sect n).runEmpty == .confirmed

/-- The requirement of a transition holds for a section with its record (R28, R29). -/
def State.requirementHolds (s : State) (n : Nat) (r : SectionRec) (q : Requirement) : Bool :=
  (!q.needs || s.needsRunning r) && (!q.haltLine || !s.campaignHalt) && (!q.permit || s.permitOk r) &&
  (!q.feeds || s.feedsOpen r) && (!q.dependents || r.role != .utility || s.dependentsFinished n) &&
  (!q.drained || (s.isConfirmed n && s.feedersFinished n)) && (!q.notWindDown || s.campaign != .windDown) &&
  (match q.deciding with
   | some d => s.decidingHolds r d && !s.staleBlocked r d
   | none => true)

/-- The entries read to judge a requirement. -/
def State.requirementReads (s : State) (r : SectionRec) (q : Requirement) : List EntryRef :=
  (if q.feeds then r.feeds.map (fun m => ⟨.sections, m⟩) else []) ++
  (if q.dependents || q.drained then sectionRefs else []) ++
  (match q.deciding with
   | some d => s.optSetReads (r.deciding d)
   | none => [])

/-! ### Automatic transitions (R31, R53) -/

/-- The feeders of a section are DRAINING, FLUSHED or IDLE (R55). -/
def State.feedersRunDown (s : State) (n : Nat) : Bool :=
  (s.feeders n).all (fun m => (s.phaseOf m).finished || s.phaseOf m == .draining)

/-- The transition out of a phase that is eligible to be taken automatically in a campaign mode (R53). -/
def eligibleTarget : CampaignMode → Phase → Option Phase
  | .startUp, .idle => some .warming
  | .startUp, .warming => some .ready
  | .startUp, .ready => some .running
  | .windDown, .running => some .draining
  | .windDown, .flushed => some .idle
  | _, .draining => some .flushed
  | _, _ => none

/-- The further condition R53 gives for WIND_DOWN. -/
def State.furtherCondition (s : State) (n : Nat) (r : SectionRec) (t : Phase) : Bool :=
  if t = .draining ∧ r.role ≠ .utility then s.feedersRunDown n else true

/-- The target of the automatic transition a re-examination of a section takes, if it takes one (R31, R32). -/
def State.autoMove (s : State) (n : Nat) : Option Phase :=
  if s.mode = .screening then
    match s.definedRec n with
    | some r =>
      match eligibleTarget s.campaign (s.phaseOf n) with
      | some t =>
        match ladder (s.phaseOf n) t with
        | some q => if s.requirementHolds n r q && s.furtherCondition n r t then some t else none
        | none => none
      | none => none
    | none => none
  else none

/-- The entries a re-examination of a section reads. -/
def State.reexamineReads (s : State) (n : Nat) : List EntryRef :=
  ⟨.sections, n⟩ ::
    match s.definedRec n with
    | some r =>
      match eligibleTarget s.campaign (s.phaseOf n) with
      | some t =>
        (if t = .draining then sectionRefs else []) ++
          match ladder (s.phaseOf n) t with
          | some q => s.requirementReads r q
          | none => []
      | none => []
    | none => []

end Sys2Proof.Machine
end

