-- ==== Sys2Proof/Machine/Sections.lean ====
section
/-! DEFINITION. The Section Phase Unit and the Campaign Unit at work: phase changes, entries to HALTED, trip actions,
PERMIT-OUT, completion and changes of campaign mode (R27, R35 to R42, R52, R57 to R76). -/
namespace Sys2Proof.Machine

/-! ### PERMIT-OUT (R42) -/

/-- The level R42 gives line `k`, from the active bank's naming. -/
def State.permitOutWanted (s : State) (k : Nat) : Bool :=
  s.mode != .transparent &&
    sectionNumbers.any (fun n =>
      match s.definedRec n with
      | some r => r.permitOut == some k && s.phaseOf n == .running
      | none => false)

/-- Sets all four lines from the active bank (R42). -/
def State.refreshPermitOut (s : State) : State :=
  (List.range 4).foldl (fun s k => s.setPermitOut k (s.permitOutWanted k)) s

/-- Deasserts all four lines (R42). -/
def State.dropPermitOut (s : State) : State := (List.range 4).foldl (fun s k => s.setPermitOut k false) s

/-- Sets the line a section names after a phase change of it; the read of its record meeting a fault leaves the lines as
they stand (R20, R42). -/
def State.permitOutOf (s : State) (n : Nat) : State :=
  match s.definedRec n with
  | some r =>
    match r.permitOut with
    | some k => s.setPermitOut k (s.mode != .transparent && s.phaseOf n == .running)
    | none => s
  | none => s

/-! ### Run-empty state (R35 to R37) -/

/-- A flow point reports at or below its threshold and is FRESH. -/
def State.flowLow (s : State) (f : FlowPoint) : Bool :=
  (s.point f.point).fresh &&
    match (s.point f.point).report with
    | some r => decide (r.value.toInt ≤ f.threshold.toInt)
    | none => false

/-- The run-empty state on entry to DRAINING, for flow points read from the section's record (R35). -/
def State.drainEntry (s : State) (flow : List FlowPoint) : RunEmpty :=
  if flow.isEmpty then .confirmed
  else if flow.all s.flowLow then .counting s.clock
  else .notCounting

/-- The run-empty state a section enters a phase with (R35, R39). -/
def State.runEmptyOnEntry (s : State) (n : Nat) (t : Phase) : RunEmpty :=
  if t = .draining then
    match s.definedRec n with
    | some r => s.drainEntry r.flowPoints
    | none => .notCounting
  else .notCounting

/-! ### Trip set at an entry (R64, R65) -/

/-- The four phases a trip set halts from (R64). -/
def Phase.working : Phase → Bool
  | .warming | .ready | .running | .draining => true
  | _ => false

/-- The halt a section's own trip set starts on entry to a phase: TRIP if it holds, otherwise LOST_SIGNAL in READY or
RUNNING if it names a STALE point (R64, R65). -/
def State.entryHalt (s : State) (n : Nat) (t : Phase) : Option HaltCause :=
  match s.definedRec n with
  | some r =>
    if t.working && s.setHoldsOr false r.tripSet then some .trip
    else if (t = .ready ∨ t = .running) ∧ s.setHasStale r.tripSet = true then some .lostSignal
    else none
  | none => none

/-- The entries read for the trip set of a section entering a phase. -/
def State.entryReads (s : State) (n : Nat) (t : Phase) : List EntryRef :=
  match s.definedRec n with
  | some r => if t.working then s.optSetReads r.tripSet else []
  | none => []

/-! ### Phase changes (R27) -/

/-- Whether a phase change of section `n` re-examines section `m`: `m` itself, a section that needs it, is needed by it,
feeds it or is fed by it (R32). -/
def State.related (s : State) (n m : Nat) : Bool :=
  m == n ||
    (match s.definedRec m with
     | some r => n ∈ r.needs || n ∈ r.feeds
     | none => false) ||
    (match s.definedRec n with
     | some r => m ∈ r.needs || m ∈ r.feeds
     | none => false)

/-- The dynamic state of section `n` in a new phase (R27). -/
def State.inPhase (s : State) (n : Nat) (t : Phase) (c : Option HaltCause) : SectionDyn :=
  ⟨t, s.clock, c, s.runEmptyOnEntry n t, false, true⟩

/-- The cause of a PHASE_CHANGED notice (R27). -/
def changeCause (t : Phase) : Option HaltCause → Cause
  | some c => .halt c
  | none => .phase t

/-- Adds a list of tasks. -/
def State.addTasks (s : State) (ts : List Task) : State := { s with agenda := s.agenda ++ ts }

/-- The tasks a phase change of section `n` into `t` starts: the halt of its own trip set, the re-examination of related
sections, the completion test and a release scan (R27, R64, R65). -/
def State.changeTasks (s : State) (n : Nat) (t : Phase) : List Task :=
  (match s.entryHalt n t with
   | some c => [.halt n c]
   | none => []) ++
  (sectionNumbers.filter (s.related n)).map Task.reexamine ++ [.completion, .scan]

/-- A phase change of section `n` into `t` (R27), recording `c` where it is an entry to HALTED (R63). -/
def State.changePhase (s : State) (n : Nat) (t : Phase) (c : Option HaltCause) : State :=
  let s1 := (s.setSect n (s.inPhase n t c)).offerNotice .phaseChanged (some n) none (changeCause t c)
  let s2 := s1.permitOutOf n
  let s3 := s2.checkReads (sectionRefs ++ s2.entryReads n t)
  s3.addTasks (s3.changeTasks n t)

/-! ### Entries to HALTED (R63 to R70) -/

/-- The phases a cause halts a section from (the table of R63). -/
def haltReaches : HaltCause → Phase → Bool
  | .trip, p => p.working
  | .externalHalt, p => p.working
  | .needLost, p => p.working
  | .lostSignal, p => p == .ready || p == .running
  | .permitLost, p => p == .ready || p == .running
  | .feedStop, p => p == .ready || p == .running
  | .storeFull, p => p == .running

/-- The halts an entry to HALTED of section `n` starts: NEED_LOST at the dependents of a UTILITY (R68), FEED_STOP at the
feeders that are no STORE (R69). -/
def State.haltTasks (s : State) (n : Nat) : List Task :=
  (match s.definedRec n with
   | some r => if r.role = .utility then (s.dependents n).map (fun m => Task.halt m .needLost) else []
   | none => []) ++
  ((s.feeders n).filter (fun m =>
    match s.definedRec m with
    | some r => r.role != .store
    | none => false)).map (fun m => Task.halt m .feedStop)

/-- An entry to HALTED of section `n` with a cause (R63). -/
def State.enterHalted (s : State) (n : Nat) (c : HaltCause) : State :=
  let s1 := s.changePhase n .halted (some c)
  s1.addTasks (.tripActions n :: s1.haltTasks n)

/-- A cause reaches section `n`: it enters HALTED if the cause halts it from its phase, and otherwise nothing changes
(R63). -/
def State.takeHalt (s : State) (n : Nat) (c : HaltCause) : State :=
  if haltReaches c (s.phaseOf n) then s.enterHalted n c else s

/-! ### Trip actions (R73, R74) -/

/-- The outstanding entry of a trip action on its window (R73). -/
def State.tripEntry (s : State) (n : Nat) (a : TripAction) (w : Window) : Entry :=
  { seq := 0
    part := .priority
    origin := .part n
    dest := BitVec.ofNat 8 w.station
    point := BitVec.ofNat 16 (w.first + (a.point - w.base))
    tag := s.tagCounter
    action := a.action
    value := if a.action = .set then a.value else 0
    logical := some a.point
    port := w.port
    lane := .queued
    timeout := w.replyTimeout
    pledge := none
    shaped := false }

/-- A trip action that is not issued queues its notice (R74). -/
def State.tripFailed (s : State) (n : Nat) (a : TripAction) (r : RefusalReason) : State :=
  s.offerNotice .tripActionFailed (some n) (some a.point) (.refusal r)

/-- Whether the priority part has a free entry and the port's priority lane a free place (R74, R86). -/
def State.priorityFree (s : State) (d : DnPort) : Bool :=
  s.partCount .priority < Config.priorityLimit && (s.lane d .priority).length < Config.priorityLaneLimit

/-- The issue of one trip action of section `n` (R73, R74). DESIGN CHOICE: the route and the port are judged before the free entry
and the lane, so that the notice of an action that fails both carries NO_ROUTE (notes/assumptions/46.md). -/
def State.issueTrip (n : Nat) (s : State) (a : TripAction) : State :=
  match s.windowOf a.point with
  | .window _ w =>
    if (s.port (.dn w.port)).state ≠ .up then s.tripFailed n a .noRoute
    else if s.priorityFree w.port then
      { s.addEntry (s.tripEntry n a w) with tagCounter := s.tagCounter + 1 }
    else s.tripFailed n a .noSlot
  | .absent => s.tripFailed n a .noRoute
  | .faulty i => (s.tripFailed n a .noRoute).activeFault ⟨.windows, i⟩

/-- The issue of the trip actions of section `n`, in list order; the read of the list meeting a fault issues none and
queues one notice (R73, R74). DESIGN CHOICE: a section's whole list is issued at once, so that the actions of two sections
of one cascade do not interleave (notes/assumptions/35.md). -/
def State.issueTrips (s : State) (n : Nat) : State :=
  match s.readSection n with
  | some r => r.tripActions.foldl (State.issueTrip n) s
  | none =>
    (s.offerNotice .tripActionFailed (some n) none (.refusal .failHold)).activeFault ⟨.sections, n⟩

/-! ### Campaign mode (R52, R57 to R59) -/

/-- The re-examination of every section (R32); an undefined one is left as it is. -/
def reexamineAll : List Task := sectionNumbers.map Task.reexamine

/-- A change of campaign mode (R52, R59). -/
def State.changeCampaign (s : State) (m : CampaignMode) : State :=
  let s1 := ({ s with campaign := m }).offerNotice .campaignMode none none (.campaign m)
  s1.addTasks (reexamineAll ++ if m = .startUp ∨ m = .windDown then [.completion] else [])

/-- Every section record can be read. -/
def State.sectionsGood (s : State) : Bool := sectionNumbers.all (fun n => (s.readSection n).isSome)

/-- Every defined section is in one phase. -/
def State.allIn (s : State) (p : Phase) : Bool := s.definedSections.all (fun n => s.phaseOf n == p)

/-- The mode a completion changes to, where the completion test of the current mode succeeds (R57, R58). -/
def State.completionMode (s : State) : Option CampaignMode :=
  match s.campaign with
  | .startUp => if s.sectionsGood && s.allIn .running then some .inCampaign else none
  | .windDown => if s.sectionsGood && s.allIn .idle then some .outOfCampaign else none
  | _ => none

/-- The entries the completion test reads: none in the modes that make no test. -/
def State.completionReads (s : State) : List EntryRef :=
  if s.campaign = .startUp ∨ s.campaign = .windDown then sectionRefs else []

/-- The Campaign Unit makes its completion test (R59). -/
def State.testCompletion (s : State) : State :=
  let s1 := s.checkReads s.completionReads
  match s1.completionMode with
  | some m => s1.changeCampaign m
  | none => s1

/-- A re-examination of section `n` (R32). -/
def State.reexamine (s : State) (n : Nat) : State :=
  let s1 := s.checkReads (s.reexamineReads n)
  match s1.autoMove n with
  | some t => s1.changePhase n t none
  | none => s1

end Sys2Proof.Machine
end

