-- ==== Sys2Proof/Machine/Screen.lean ====
section
/-! DEFINITION. The Order Screen: the verdict sequence, admission, shaping and the release scan (R80 to R104, R121 to
R128). -/
namespace Sys2Proof.Machine

/-! ### Steps 1 and 2: destination and class (R84, R85) -/

/-- What steps 1 and 2 hand on: the logical point, its window, its static part and the action. -/
structure Addressed where
  logical : Nat
  window : Window
  static : PointStatic
  action : Action
  deriving DecidableEq, Repr

/-- The actions a class takes (R85). -/
def PointClass.takes : PointClass → Action → Bool
  | .drive, .start | .drive, .stop | .drive, .resetFault => true
  | .valve, .openPoint | .valve, .closePoint | .valve, .resetFault => true
  | .setpoint, .set => true
  | .gateset, .gates | .gateset, .resetFault => true
  | _, _ => false

/-- What steps 1 and 2 come to: the order is handed on, or refused with the integrity fault met, if any. -/
inductive Destination where
  | known (a : Addressed)
  | refused (r : RefusalReason) (f : Option EntryRef)
  deriving DecidableEq, Repr

/-- Step 2 (R85), for an order whose window is known. DESIGN CHOICE: the static part is read before the action code is judged, so
that at a damaged one a code that is no action is refused NO_ROUTE too (notes/assumptions/42.md). -/
def State.judgeClass (s : State) (t : PointTel) (w : Window) : Destination :=
  match s.readPoint (w.logicalOf t.point.toNat) with
  | none => .refused .noRoute (some ⟨.points, w.logicalOf t.point.toNat⟩)
  | some st =>
    match Action.ofCode t.code with
    | none => .refused .wrongAction none
    | some a =>
      if st.cls.takes a then .known ⟨w.logicalOf t.point.toNat, w, st, a⟩ else .refused .wrongAction none

/-- Steps 1 and 2 of the verdict sequence (R84, R85). -/
def State.judgeDestination (s : State) (t : PointTel) : Destination :=
  if t.dest = 255 then .refused .broadcast none
  else
    match s.covering t.dest t.point with
    | .absent => .refused .noRoute none
    | .faulty i => .refused .noRoute (some ⟨.windows, i⟩)
    | .window _ w =>
      if (s.port (.dn w.port)).state ≠ .up then .refused .noRoute none
      else if w.guarded then .refused .isProtected none
      else s.judgeClass t w

/-! ### Value shaping (R98, R99) -/

/-- A value clamped into a range (R98). -/
def clampInt (lo hi v : Int) : Int := if v < lo then lo else if hi < v then hi else v

/-- The ramp allowance after `e` elapsed tenths at rate `r` (R98). -/
def rampAllowance (r e : Nat) : Nat := min (r * min (e / 10) 65535 / 60) 65535

/-- The base and allowance of a SET order, where there is a base (R98). -/
def State.rampBase (s : State) (p rate : Nat) : Option (Int × Nat) :=
  match (s.point p).setPoint with
  | some (v, t) => some (v.toInt, rampAllowance rate (s.elapsed t))
  | none =>
    match (s.point p).report with
    | some r => if (s.point p).fresh then some (r.value.toInt, rate) else none
    | none => none

/-- The first value of a SET order: the request clamped to the ramp limits around its base (R98). -/
def rampValue (rate : Nat) (base : Option (Int × Nat)) (q : Int) : Int :=
  match base with
  | some (b, a) => if rate = 0 then q else clampInt (max (b - a) (-32768)) (min (b + a) 32767) q
  | none => q

/-- The shaped value of a SET order: the ramp first, then the row's band (R98). -/
def State.shapeSet (s : State) (p : Nat) (row : ScreenRow) (q : Word) : Word :=
  BitVec.ofInt 16 (clampInt row.low.toInt row.high.toInt (rampValue row.ramp (s.rampBase p row.ramp) q.toInt))

/-- The shaped gate set of a GATES order: a releasable gate as requested, any other as reported (R99). -/
def shapeGates (releasable requested reported : Word) : Word :=
  (requested &&& releasable) ||| (reported &&& ~~~releasable)

/-- The shaped value of an order (R96, R97): SET and GATES by their rules, 0 for the other actions. -/
def State.shape (s : State) (a : Addressed) (row : ScreenRow) (q : Word) : Word :=
  match a.action with
  | .set => s.shapeSet a.logical row q
  | .gates =>
    match (s.point a.logical).report with
    | some r => if (s.point a.logical).fresh then shapeGates row.gates q r.value else q
    | none => q
  | _ => 0

/-- An order is SHAPED where shaping changed the value of a SET or GATES order (R98, R99). -/
def Addressed.isShaped (a : Addressed) (q v : Word) : Bool := (a.action == .set || a.action == .gates) && v != q

/-! ### Steps 3 to 14 -/

/-- The verdict of steps 3 to 14: a refusal with the integrity fault met, if any; the priority path; a hold with the row's
hold limit and the budget class; an admission with its row and budget class. -/
inductive Verdict where
  | refuse (r : RefusalReason) (f : Option EntryRef)
  | priority
  | hold (r : HoldReason) (limit : Nat) (cls : Option BudgetClass)
  | admission (row : ScreenRow) (cls : Option BudgetClass)
  deriving DecidableEq, Repr

/-- The index of a screen row (R164): 49 × profile + 7 × phase + action. -/
def rowIndex (profile : Nat) (p : Phase) (a : Action) : Nat :=
  49 * profile + 7 * (Phase.code p).toNat + (Action.code a).toNat

/-- The budget class of a role (R109). -/
def Role.budgetClass : Role → BudgetClass
  | .utility => .utility
  | _ => .general

/-- The budget class of an order: of a START alone (R94, R109). -/
def orderClass (a : Action) (r : Role) : Option BudgetClass := if a = .start then some r.budgetClass else none

/-- An entry has an order's source, destination, tag and station point (R87). -/
def State.sameOrder (s : State) (t : PointTel) (e : Entry) : Bool :=
  s.entrySource e == t.src && e.dest == t.dest && e.tag == t.tag && e.point == t.point

/-- A logical point is busy: it has a general entry (R89). -/
def State.isBusy (s : State) (p : Nat) : Bool := s.entries.any (fun e => e.part == .general && e.logical == some p)

/-- The budget check of a class for a start cost (R91, R109). -/
def State.budgetPasses (s : State) (c : BudgetClass) (k : Nat) : Bool :=
  match c with
  | .utility => k ≤ s.remaining
  | .general => k + s.unusedReserve ≤ s.remaining

/-- The budget lane of a class stands among the older held orders (R91, R110). -/
def laneWaits (c : BudgetClass) (ahead : List HeldRec) : Bool :=
  ahead.any (fun h => h.reason == .budget && h.cls == some c)

/-- The general part has a free entry and the port's general lane a free place (R92). -/
def State.generalFree (s : State) (d : DnPort) : Bool :=
  s.partCount .general < Config.generalLimit && (s.lane d .general).length < Config.generalLaneLimit

/-- Steps 12 and 13 (R92, R93), and the admission of step 14. -/
def State.judgeSlot (s : State) (a : Addressed) (row : ScreenRow) (c : Option BudgetClass) : Verdict :=
  if !s.generalFree a.window.port then .hold .noSlot row.holdLimit c
  else if a.action = .gates ∧ (s.point a.logical).fresh = false ∧ row.gates ≠ 0xFFFF then .refuse .stale none
  else .admission row c

/-- Steps 9 to 11 (R90, R91), for a START of a budget class. -/
def State.judgeStart (s : State) (a : Addressed) (row : ScreenRow) (c : BudgetClass) (ahead : List HeldRec) : Verdict :=
  if a.static.startLimit ≠ 0 ∧ (s.point a.logical).tally ≥ a.static.startLimit then .refuse .startLimit none
  else
    match s.readBudget with
    | none => .refuse .failHold (some ⟨.budget, 0⟩)
    | some b =>
      if s.load + s.pledgeSum + a.static.ratedLoad > b.capacity then .hold .load row.holdLimit (some c)
      else if !s.budgetPasses c a.static.startCost || laneWaits c ahead then .hold .budget row.holdLimit (some c)
      else s.judgeSlot a row (some c)

/-- Steps 8 to 14 (R89 to R93), for an order with its row. -/
def State.judgeBusy (s : State) (a : Addressed) (row : ScreenRow) (role : Role) (ahead : List HeldRec) : Verdict :=
  if s.isBusy a.logical then .hold .busy row.holdLimit (orderClass a.action role)
  else if a.action = .start then s.judgeStart a row role.budgetClass ahead
  else s.judgeSlot a row none

/-- Steps 6 to 14 (R88), for an order of a section with its record. -/
def State.judgeRow (s : State) (a : Addressed) (n : Nat) (r : SectionRec) (ahead : List HeldRec) : Verdict :=
  match s.readRow (rowIndex r.profile (s.phaseOf n) a.action) with
  | none => .refuse .failHold (some ⟨.rows, rowIndex r.profile (s.phaseOf n) a.action⟩)
  | some row =>
    if row.base = .refuse then .refuse .phase none
    else
      match (s.optSetReads row.condSet).find? (fun e => !s.activeBank.entryGood e) with
      | some f => .refuse .failHold (some f)
      | none =>
        if s.setHoldsOr true row.condSet then s.judgeBusy a row r.role ahead
        else .hold .condition row.holdLimit (orderClass a.action r.role)

/-- Steps 3 to 14 of the verdict sequence (R86 to R93), with the held orders older than the order. An order whose point
has no section does not occur in an active bank (R85) and is refused PHASE. -/
def State.judgeOrder (s : State) (t : PointTel) (a : Addressed) (ahead : List HeldRec) : Verdict :=
  if a.action = .stop ∨ a.action = .closePoint then
    if s.priorityFree a.window.port then .priority else .refuse .noSlot none
  else if s.mode = .failHold then .refuse .failHold none
  else if s.entries.any (s.sameOrder t) then .refuse .duplicateTag none
  else
    match a.static.sect with
    | none => .refuse .phase none
    | some n =>
      match s.readSection n with
      | none => .refuse .failHold (some ⟨.sections, n⟩)
      | some r => s.judgeRow a n r ahead

/-! ### Effects of a verdict -/

/-- The outstanding entry of a supervisory order (R86, R96). -/
def orderEntry (k : EntryPart) (t : PointTel) (a : Addressed) (v : Word) (pledge : Option Nat) (shaped : Bool) : Entry :=
  { seq := 0
    part := k
    origin := .supervisory t.src
    dest := t.dest
    point := t.point
    tag := t.tag
    action := a.action
    value := v
    logical := some a.logical
    port := a.window.port
    lane := .queued
    timeout := a.window.replyTimeout
    pledge := pledge
    shaped := shaped }

/-- A point's reported state is STARTING or RUNNING (R111). -/
def PointDyn.isOn (d : PointDyn) : Bool :=
  match d.report with
  | some r => r.state == .starting || r.state == .running
  | none => false

/-- The pledge of an order: the rated load for a START, unless the image already shows STARTING or RUNNING (R96, R112). -/
def State.pledgeOf (s : State) (a : Addressed) : Option Nat :=
  if a.action = .start ∧ (s.point a.logical).isOn = false then some a.static.ratedLoad else none

/-- The charge of a START against R and V (R109). -/
def State.charge (s : State) (c : Option BudgetClass) (k : Nat) : State :=
  match c with
  | some .utility => { s with remaining := s.remaining - k, unusedReserve := s.unusedReserve - k }
  | some .general => { s with remaining := s.remaining - k }
  | none => s

/-- The change of the point's dynamic part at admission: the tally of a START, saturating at 15, and the last admitted
set-point of a SET (R96). -/
def State.admitPoint (s : State) (a : Addressed) (v : Word) : State :=
  match a.action with
  | .start => s.setPoint a.logical { s.point a.logical with tally := min 15 ((s.point a.logical).tally + 1) }
  | .set => s.setPoint a.logical { s.point a.logical with setPoint := some (v, s.clock) }
  | _ => s

/-- Step 14: the admission of an order (R96). -/
def State.admitOrder (s : State) (t : PointTel) (a : Addressed) (row : ScreenRow) (c : Option BudgetClass) : State :=
  let v := s.shape a row t.value
  let pledge := s.pledgeOf a
  let s1 := (s.charge c a.static.startCost).admitPoint a v
  (s1.addEntry (orderEntry .general t a v pledge (a.isShaped t.value v))).setPledgeSum (s1.pledgeSum + pledge.getD 0)

/-- Step 3: the order takes a priority entry and a priority lane place (R86). -/
def State.passPriority (s : State) (t : PointTel) (a : Addressed) : State :=
  s.addEntry (orderEntry .priority t a 0 none false)

/-- The refusal reason of an order that would have been held (R94). -/
def HoldReason.refusal : HoldReason → RefusalReason
  | .condition => .condition
  | .busy => .busy
  | .load => .load
  | .budget => .budget
  | .noSlot => .noSlot

/-- The integrity fault a refusal came with, taken by the Bank Store (R95). -/
def State.takeFault (s : State) : Option EntryRef → State
  | some f => s.activeFault f
  | none => s

/-- A refusal of an order, and the integrity fault it came with. -/
def State.refuseFault (s : State) (t : PointTel) (r : RefusalReason) (f : Option EntryRef) : State :=
  (s.refuse t r).takeFault f

/-- The held record of a new order (R94, R121). -/
def State.newRecord (s : State) (t : PointTel) (p : Nat) (r : HoldReason) (limit : Nat) (c : Option BudgetClass) : HeldRec :=
  ⟨t, some p, s.clock, s.clock + BitVec.ofNat 32 (10 * limit), r, c⟩

/-- A HOLD verdict on a new order (R94). -/
def State.holdNew (s : State) (t : PointTel) (p : Nat) (r : HoldReason) (limit : Nat) (c : Option BudgetClass) : State :=
  if limit = 0 then s.refuse t r.refusal
  else if s.held.length < Config.heldLimit then s.setHeld (s.held ++ [s.newRecord t p r limit c])
  else s.refuse t .queueFull

/-- The supersede: the held record of the logical point is removed and refused SUPERSEDED (R83). -/
def State.supersede (s : State) (p : Nat) : State :=
  match s.held.find? (fun h => h.point == some p) with
  | some h => (s.setHeld (s.held.filter (fun x => x.point != some p))).refuse h.tel .superseded
  | none => s

/-- The verdict on a new order takes effect. -/
def State.applyNew (s : State) (t : PointTel) (a : Addressed) : Verdict → State
  | .refuse r f => s.refuseFault t r f
  | .priority => s.passPriority t a
  | .hold r limit c => s.holdNew t a.logical r limit c
  | .admission row c => s.admitOrder t a row c

/-- The screening of a new order (R82, R83). -/
def State.screenNew (s : State) (t : PointTel) : State :=
  match s.judgeDestination t with
  | .refused r f => s.refuseFault t r f
  | .known a =>
    let s1 := s.supersede a.logical
    s1.applyNew t a (s1.judgeOrder t a s1.held)

/-! ### Release scans (R125, R126) -/

/-- A held record held again: reason, logical point and budget class brought up to date (R121, R126). -/
def HeldRec.again (h : HeldRec) (p : Nat) (r : HoldReason) (c : Option BudgetClass) : HeldRec :=
  { h with point := some p, reason := r, cls := c }

/-- What a re-screening makes of a held record: it is gone, held again, or refused with an integrity fault. -/
inductive Rescreened where
  | gone (s : State)
  | again (s : State) (h : HeldRec)
  | faulted (s : State) (f : EntryRef)

/-- The refusal of a held record at a re-screening. -/
def State.refuseHeld (s : State) (h : HeldRec) (r : RefusalReason) : Option EntryRef → Rescreened
  | some f => .faulted (s.refuse h.tel r) f
  | none => .gone (s.refuse h.tel r)

/-- The re-screening of a held record, with the records ahead of it as they now stand (R125, R126). -/
def State.rescreen (s : State) (h : HeldRec) (ahead : List HeldRec) : Rescreened :=
  match s.judgeDestination h.tel with
  | .refused r f => s.refuseHeld h r f
  | .known a =>
    match s.judgeOrder h.tel a ahead with
    | .refuse r f => s.refuseHeld h r f
    | .priority => .gone (s.passPriority h.tel a)
    | .hold r limit c => if limit = 0 then .gone (s.refuse h.tel r.refusal) else .again s (h.again a.logical r c)
    | .admission row c => .gone (s.admitOrder h.tel a row c)

/-- A release scan over the records not yet reached, with those it has held again (R125). A scan that meets an integrity
fault ends at it: the entry to FAIL_HOLD refuses every record left. -/
def scanRest (s : State) (ahead : List HeldRec) : List HeldRec → State
  | [] => s.setHeld ahead
  | h :: rest =>
    match s.rescreen h ahead with
    | .gone s1 => scanRest s1 ahead rest
    | .again s1 h1 => scanRest s1 (ahead ++ [h1]) rest
    | .faulted s1 f => (s1.setHeld (ahead ++ rest)).activeFault f

/-- A release scan of the Held Order Queue: every record once, oldest first (R125). -/
def State.scan (s : State) : State := scanRest s [] s.held

end Sys2Proof.Machine
end

