-- ==== Sys2Proof/Machine/Image.lean ====
section
/-! DEFINITION. Reports, image changes and what the blocks take from them (R11 to R17, R36, R37, R64, R65, R70, R111,
R113). -/
namespace Sys2Proof.Machine

/-! ### The load account (R111, R113) -/

/-- Whether a dynamic part counts in the load account: class DRIVE by the stored static part, reported STARTING or
RUNNING (R111). -/
def State.countsInLoad (s : State) (p : Nat) (d : PointDyn) : Bool :=
  (s.activeBank.pointStatic p).content.cls == .drive && d.isOn

/-- The pledge of the general entry of a point is released into the load account (R113): the entries without it. -/
def releasePledge (p : Nat) (es : List Entry) : List Entry :=
  es.map (fun e => if e.part == .general && e.logical == some p then { e with pledge := none } else e)

/-- The pledges carried by the general entries of a point. -/
def pledgesOf (p : Nat) (es : List Entry) : Nat :=
  ((es.filter (fun e => e.part == .general && e.logical == some p)).map Entry.pledged).sum

/-- The point's entry to STARTING or RUNNING: L rises by the rated load, and the pledge of an outstanding START is released
(R111, R113). -/
def State.loadRises (s : State) (p : Nat) : State :=
  let s1 := { s with
    load := s.load + (s.activeBank.pointStatic p).content.ratedLoad
    entries := releasePledge p s.entries
    pledgeSum := s.pledgeSum - pledgesOf p s.entries }
  if pledgesOf p s.entries = 0 then s1 else s1.startScan

/-- The point leaves STARTING or RUNNING: L falls by the rated load, and a decrease starts a scan (R111, R115). -/
def State.loadFalls (s : State) (p : Nat) : State :=
  let g := (s.activeBank.pointStatic p).content.ratedLoad
  let s1 := { s with load := s.load - g }
  if g = 0 then s1 else s1.startScan

/-- The Start Budget Unit takes an image change of point `p` from `old` to `new` (R111, R113, R115): the rated load is
read, and used as stored even where the read meets a fault. -/
def State.takeLoad (s : State) (p : Nat) (old new : PointDyn) : State :=
  if s.countsInLoad p old = s.countsInLoad p new then s
  else
    let s1 := if s.countsInLoad p new then s.loadRises p else s.loadFalls p
    s1.checkReads [⟨.points, p⟩]

/-! ### The Section Phase Unit (R36, R37, R64, R65, R70) -/

/-- A flow point of the section shows the point above its threshold, or the point is STALE (R37). -/
def flowLost (r : SectionRec) (p : Nat) (new : PointDyn) : Bool :=
  r.flowPoints.any (fun f => f.point == p &&
    (!new.fresh || match new.report with
      | some rep => decide (f.threshold.toInt < rep.value.toInt)
      | none => false))

/-- The run-empty state of a DRAINING section after an image change of a flow point (R36, R37). -/
def State.runEmptyAfter (s : State) (r : SectionRec) (p : Nat) (new : PointDyn) (e : RunEmpty) : RunEmpty :=
  match e with
  | .notCounting => if r.flowPoints.all s.flowLow then .counting s.clock else .notCounting
  | _ => if flowLost r p new then .notCounting else e

/-- The section takes the point's effect on its run-empty timer (R36, R37). -/
def State.takeFlow (s : State) (n : Nat) (r : SectionRec) (p : Nat) (new : PointDyn) : State :=
  if (s.sect n).phase = .draining ∧ r.flowPoints.any (fun f => f.point == p) = true then
    s.setSect n { s.sect n with runEmpty := s.runEmptyAfter r p new (s.sect n).runEmpty }
  else s

/-- The halt an image change of `p` starts at a section: TRIP for an imaged report that makes or leaves the trip set
holding, LOST_SIGNAL for a point of the trip set becoming STALE (R64, R65). -/
def State.imageHalt (s : State) (r : SectionRec) (p : Nat) (old new : PointDyn) : Option HaltCause :=
  if s.setNames r.tripSet p then
    if new.fresh then if s.setHoldsOr false r.tripSet then some .trip else none
    else if old.fresh then some .lostSignal
    else none
  else none

/-- The section feeds a STORE whose level point is `p` (R32). -/
def State.feedsLevel (s : State) (r : SectionRec) (p : Nat) : Bool :=
  r.feeds.any (fun m =>
    match s.definedRec m with
    | some f => f.role == .store && (match f.level with | some l => l.point == p | none => false)
    | none => false)

/-- An image change of `p` re-examines the section (R32). -/
def State.imageReexamines (s : State) (r : SectionRec) (p : Nat) : Bool :=
  s.setNames r.warmSet p || s.setNames r.runSet p || s.setNames r.flushSet p ||
    r.flowPoints.any (fun f => f.point == p) || s.feedsLevel r p

/-- The entries a section reads at an image change: its record, the sets it names, the records of the sections it feeds. -/
def State.imageReads (s : State) (n : Nat) : List EntryRef :=
  ⟨.sections, n⟩ ::
    match s.definedRec n with
    | some r =>
      s.optSetReads r.warmSet ++ s.optSetReads r.runSet ++ s.optSetReads r.flushSet ++ s.optSetReads r.tripSet ++
        r.feeds.map (fun m => ⟨.sections, m⟩)
    | none => []

/-- The tasks an image change of `p` starts at section `n` (R32, R64, R65). -/
def State.imageTasks (s : State) (n : Nat) (r : SectionRec) (p : Nat) (old new : PointDyn) : List Task :=
  (match s.imageHalt r p old new with
   | some c => [.halt n c]
   | none => []) ++
  (if s.imageReexamines r p then [.reexamine n] else [])

/-- Section `n` takes an image change of point `p` (R13). -/
def State.sectionTakes (p : Nat) (old new : PointDyn) (s : State) (n : Nat) : State :=
  let s1 := s.checkReads (s.imageReads n)
  match s1.definedRec n with
  | some r =>
    let s2 := s1.takeFlow n r p new
    s2.addTasks (s2.imageTasks n r p old new)
  | none => s1

/-- An image change of point `p` from `old`, the entry already wholly updated, is taken by the three neighbouring blocks
(R13). DESIGN CHOICE: the Start Budget Unit takes it first, with its read of the static part, then the sections from 0 to 15,
which fixes the integrity fault that is met first (notes/assumptions/39.md). -/
def State.imageChanged (s : State) (p : Nat) (old : PointDyn) : State :=
  (sectionNumbers.foldl (State.sectionTakes p old (s.point p)) (s.takeLoad p old (s.point p))).startScan

/-- Section `n` takes an imaged report of point `p` that is no image change: a count or a confirmation is lost to a flow point
above its threshold (R37), and nothing else is taken. -/
def State.loseFlow (p : Nat) (s : State) (n : Nat) : State :=
  if (s.sect n).phase = .draining ∧ (s.sect n).runEmpty ≠ .notCounting then
    let s1 := s.checkReads [⟨.sections, n⟩]
    match s1.definedRec n with
    | some r => s1.takeFlow n r p (s1.point p)
    | none => s1
  else s

/-- An imaged report of point `p` that repeats what a FRESH point shows is taken by the sections (R37). -/
def State.repeatFlow (s : State) (p : Nat) : State := sectionNumbers.foldl (State.loseFlow p) s

/-- The section is a RUNNING STORE whose level point `p` a report shows at or above the high limit (R70). -/
def State.storeFull (s : State) (p : Nat) (v : Word) (m : Nat) : Bool :=
  match s.definedRec m with
  | some r =>
    r.role == .store && s.phaseOf m == .running &&
      (match r.level with
       | some l => l.point == p && decide (l.high.toInt ≤ v.toInt)
       | none => false)
  | none => false

/-- An imaged report halts the RUNNING feeders of every STORE it shows full (R70). -/
def State.takeLevel (s : State) (p : Nat) (v : Word) : State :=
  let s1 := s.checkReads sectionRefs
  s1.addTasks (((sectionNumbers.filter (s1.storeFull p v)).flatMap s1.feeders).map (fun m => Task.halt m .storeFull))

/-! ### Imaging (R11, R12) -/

/-- An image change is a change of state, value or freshness (R13). -/
def PointDyn.imageDiffers (a b : PointDyn) : Bool :=
  a.fresh != b.fresh ||
    a.report.map (fun r => (r.state, r.value)) != b.report.map (fun r => (r.state, r.value))

/-- A report sets the change mark (R12). -/
def marksChange (st : PointStatic) (stored : Option Reported) (rs : ReportState) (v : Word) : Bool :=
  match stored with
  | none => true
  | some r =>
    r.state != rs ||
      (if st.cls = .gateset then r.value != v else decide ((v.toInt - r.value.toInt).natAbs > st.deadband))

/-- The dynamic part after a report is imaged (R12). -/
def PointDyn.imaged (d : PointDyn) (st : PointStatic) (rs : ReportState) (v : Word) (now : Clock) : PointDyn :=
  { d with
    report := some ⟨rs, v, now⟩
    fresh := true
    mark := d.mark || marksChange st d.report rs v }

/-- Imaging a report under logical point `p` (R12, R13, R37, R70). -/
def State.imageReport (s : State) (p : Nat) (st : PointStatic) (rs : ReportState) (v : Word) : State :=
  let old := s.point p
  let s1 := s.setPoint p (old.imaged st rs v s.clock)
  let s2 := if old.imageDiffers (s1.point p) then s1.imageChanged p old else s1.repeatFlow p
  s2.takeLevel p v

/-- A report for logical point `p` of a covering window on its port (R11): imaged if its state is one of the point's class.
Where the static part is damaged, whether it is imaged is a free value, and so is the deadband its change mark is judged by; the
fault of the static part is taken after the imaging, DESIGN CHOICE (notes/assumptions/5.md). -/
def State.reportPoint (s : State) (p : Nat) (t : PointTel) : State :=
  let e := s.activeBank.pointStatic p
  let images := if e.good then true else Config.imagesOnFault s.draws
  let st := if e.good then e.content else { e.content with deadband := Config.deadbandOnFault s.draws }
  let s1 := if e.good then s else s.countDraw
  let s2 :=
    match ReportState.ofCode t.code with
    | some rs => if images && rs.cls == st.cls then s1.imageReport p st rs t.value else s1
    | none => s1
  s2.checkReads [⟨.points, p⟩]

/-- The Point Map takes a REPORT from a DN port in SCREENING or FAIL_HOLD and forwards it on UP (R11, R14). DESIGN CHOICE: the
forwarded report joins before what its consequences queue, and after what a fault of its window, or one met in imaging it, queues
(notes/assumptions/5.md, notes/assumptions/21.md). -/
def State.takeReport (s : State) (d : DnPort) (t : PointTel) : State :=
  let s1 :=
    match s.covering t.src t.point with
    | .window _ w => if w.port = d then s.reportPoint (w.logicalOf t.point.toNat) t else s
    | .absent => s
    | .faulty i => s.activeFault ⟨.windows, i⟩
  s1.pushReport t

/-! ### Staleness (R15, R16) -/

/-- A FRESH point becomes STALE: an image change (R15, R16). A STALE point is left as it is. -/
def State.makeStale (s : State) (p : Nat) : State :=
  if (s.point p).fresh then
    (s.setPoint p { s.point p with fresh := false }).imageChanged p (s.point p)
  else s

/-! ### The event in progress -/

/-- A task that would change nothing now: it is taken at once, in no place of the order. -/
def State.isInert (s : State) : Task → Bool
  | .halt n c => !haltReaches c (s.phaseOf n)
  | .haltFirst n c => !haltReaches c (s.phaseOf n)
  | .reexamine n => (s.autoMove n).isNone && (s.mode != .screening || (s.reexamineReads n).all s.activeBank.entryGood)
  | .tripActions n => match s.readSection n with | some r => r.tripActions.isEmpty | none => false
  | .completion =>
    s.completionMode.isNone && (s.mode != .screening || s.completionReads.all s.activeBank.entryGood)
  | .scan => s.held.isEmpty

/-- The task is an entry to HALTED. -/
def Task.isHalt : Task → Bool
  | .halt _ _ | .haltFirst _ _ => true
  | _ => false

/-- The task is an entry to HALTED of the halt line (R67). -/
def Task.isExternal : Task → Bool
  | .halt _ .externalHalt => true
  | _ => false

/-- The task is a halt taken before anything is re-examined: one that another section's entry to HALTED carries on, or one
that a permit change or a swap makes (R66, R68, R69, R71). -/
def Task.isUrgent : Task → Bool
  | .halt _ .needLost | .halt _ .feedStop | .haltFirst _ _ => true
  | _ => false

/-- The task sees the phases a cascade of halts has left: a release scan or the completion test (R72). -/
def Task.waitsForHalts : Task → Bool
  | .completion | .scan => true
  | _ => false

/-- The task halts section `n`. -/
def Task.halts (n : Nat) : Task → Bool
  | .halt m _ | .haltFirst m _ => m == n
  | _ => false

/-- The task re-examines a section that a standing halt has reached, and so does not move it (R63): a trip set that holds on
entry, or names a STALE point, halts the section in the phase change next after the entry (R64, R65). -/
def Task.waitsForOwnHalt (ts : List Task) : Task → Bool
  | .reexamine n => ts.any (Task.halts n)
  | _ => false

/-- The tasks that may be taken next. The halts of the halt line come first (R67). While an urgent halt stands, halts
alone are taken (R63, R66, R68, R71). While any halt stands, scans and completion tests wait (R72), and so does the
re-examination of a section it halts (R63 to R65). Within that the order is free. -/
def candidates (ts : List Task) : List Task :=
  if ts.any Task.isExternal then ts.filter Task.isExternal
  else if ts.any Task.isUrgent then ts.filter Task.isHalt
  else if ts.any Task.isHalt then ts.filter (fun t => !t.waitsForHalts && !t.waitsForOwnHalt ts)
  else ts

/-- A block takes a task. -/
def State.runTask (s : State) : Task → State
  | .halt n c => s.takeHalt n c
  | .haltFirst n c => s.takeHalt n c
  | .reexamine n => s.reexamine n
  | .tripActions n => s.issueTrips n
  | .completion => s.testCompletion
  | .scan => s.scan

/-- The tasks of the event in progress that would change something. -/
def State.liveTasks (s : State) : List Task := s.agenda.filter (fun t => !s.isInert t)

/-- The different tasks that may be taken next. -/
def State.options (s : State) : List Task := (candidates s.liveTasks).eraseDups

/-- The blocks take what the event has started, in a free order where the spec states none, until nothing is left. -/
def settle : Nat → State → State
  | 0, s => s
  | fuel + 1, s =>
    match s.options[s.chooseIndex s.options.length]? with
    | none => s.setAgenda []
    | some t =>
      settle fuel
        (((s.countChoice s.options.length).setAgenda (s.liveTasks.erase t)).runTask t)

/-- The event in progress is taken to its end. -/
def State.settled (s : State) : State := settle Config.settleBound s

end Sys2Proof.Machine
end

