-- ==== Sys2Proof/Machine/Link.lean ====
section
/-! DEFINITION. The link ports: line signals and port states, telegrams arriving, replies, lanes and transmitters (R139 to
R163). -/
namespace Sys2Proof.Machine

/-! ### Telegrams arriving -/

/-- A REPLY is the answer of an entry: SENT, with the four fields equal (R141). -/
def State.replyMatches (s : State) (t : PointTel) (e : Entry) : Bool :=
  !e.isQueued && t.dest == s.entrySource e && t.src == e.dest && t.tag == e.tag && t.point == e.point

/-- A reply as forwarded with flags the part sets: SHAPED as given, LATE as given, the other bits 0 (R143, R144, R155). -/
def forwardedReply (t : PointTel) (shaped late : Bool) : PointTel :=
  { t with flags := (if shaped then 1 else 0) ||| (if late then 2 else 0) }

/-- The notice of a reply to a trip action: none for DONE (R75). -/
def State.tripReplied (s : State) (n : Nat) (p : Option Nat) : ReplyOutcome → State
  | .done => s
  | o => s.offerNotice .tripActionFailed (some n) p (.outcome o)

/-- A reply matched to an entry removes it; a supervisory order's is forwarded, a trip action's is consumed (R143, R75). -/
def State.matchedReply (s : State) (t : PointTel) (o : ReplyOutcome) (e : Entry) : State :=
  match e.origin with
  | .supervisory _ => (s.removeEntry e).pushUp (.answer (.point .reply (forwardedReply t e.shaped false)))
  | .part n => (s.removeEntry e).tripReplied n e.logical o

/-- A reply that matches no entry is forwarded with LATE, or discarded with RECEIVE_REFUSED latched at the answer-debt
limit (R144, R161). -/
def State.lateReply (s : State) (d : DnPort) (t : PointTel) : State :=
  if s.debt < Config.debtLimit then s.pushUp (.answer (.point .reply (forwardedReply t (t.flags.getLsbD 0) true)))
  else s.latchReceiveRefused (.dn d)

/-- A REPLY taken on a DN port in SCREENING or FAIL_HOLD (R141 to R144). -/
def State.takeReply (s : State) (d : DnPort) (t : PointTel) : State :=
  match ReplyOutcome.ofCode t.code with
  | some o =>
    match s.entries.find? (s.replyMatches t) with
    | some e => s.matchedReply t o e
    | none => s.lateReply d t
  | none => s.lateReply d t

/-- The destination station of a telegram. -/
def destOf : Telegram → Byte
  | .point _ t => t.dest
  | .mgmt _ t => t.dest

/-- A MGMT_REQUEST addressed to the part: taken in with a reserved response place while the answer debt is below 120, and
otherwise discarded with RECEIVE_REFUSED latched on UP (R161). -/
def State.takeRequest (s : State) (t : MgmtTel) : State :=
  if s.debt < Config.debtLimit then (s.setRequests (s.requests ++ [t])).pushUp .place
  else s.latchReceiveRefused .up

/-- An ORDER to be screened: taken in while the answer debt is below 120, and otherwise discarded with RECEIVE_REFUSED
latched on UP (R159, R161). -/
def State.takeOrder (s : State) (t : PointTel) : State :=
  if s.debt < Config.debtLimit then s.screenNew t else s.latchReceiveRefused .up

/-- A port copies a telegram to its repeat lane if it is UP and has room (R158). -/
def State.repeatOn (t : Telegram) (s : State) (d : DnPort) : State :=
  let p := s.port (.dn d)
  if p.state = .up ∧ p.repeatLane.length < Config.repeatLaneLimit then
    s.setPort (.dn d) { p with repeatLane := p.repeatLane ++ [t] }
  else s

/-- A telegram from UP not addressed to the part is repeated to the DN ports in TRANSPARENT (R158). -/
def State.repeatDown (s : State) (t : Telegram) : State := allDnPorts.foldl (State.repeatOn t) s

/-- A valid telegram arriving on the UP port (R150, R158, R159). -/
def State.arriveUp (s : State) (t : Telegram) : State :=
  if s.inReset then s
  else if (s.port .up).state ≠ .up then s
  else if destOf t = s.station then
    match t with
    | .mgmt .request m => s.takeRequest m
    | _ => s
  else if s.mode = .transparent then s.repeatDown t
  else
    match t with
    | .point .order o => s.takeOrder o
    | _ => s

/-- A telegram from a DN port is forwarded on UP in TRANSPARENT (R158, R161). -/
def State.forwardUp (s : State) (d : DnPort) (t : Telegram) : State :=
  match t with
  | .point .report r => s.pushReport r
  | _ => if s.debt < Config.debtLimit then s.pushUp (.answer t) else s.latchReceiveRefused (.dn d)

/-- A valid telegram arriving on a DN port (R150, R158, R159). -/
def State.arriveDn (s : State) (d : DnPort) (t : Telegram) : State :=
  if s.inReset then s
  else if (s.port (.dn d)).state ≠ .up then s
  else if s.mode = .transparent then s.forwardUp d t
  else
    match t with
    | .point .report r => s.takeReport d r
    | .point .reply r => s.takeReply d r
    | _ => s

/-- A valid telegram arriving on a port. -/
def State.arrive (s : State) (p : PortId) (t : Telegram) : State :=
  match p with
  | .up => s.arriveUp t
  | .dn d => s.arriveDn d t

/-- What a port assembled between its delimiters: a telegram where the assembly ended with the end delimiter, is not
malformed and agrees with its check code (R153, R154). -/
def Reception.telegram (rx : Reception) : Option Telegram :=
  match rx.ending with
  | .endDelimiter => decodeTelegram rx.bytes
  | _ => none

/-- The end of a reception on a port: a telegram arrives, or what was received is discarded and CHECK_ERROR is latched on
an UP port (R150, R153). -/
def State.receive (s : State) (p : PortId) (rx : Reception) : State :=
  if s.inReset then s
  else if (s.port p).state ≠ .up then s
  else
    match Reception.telegram rx with
    | some t => s.arrive p t
    | none => s.latchCheckError p

/-! ### Port states (R150, R151) -/

/-- The release scan a change of state of a DN port starts while a bank is active (R151). -/
def State.portScan (s : State) (p : PortId) : State :=
  match p with
  | .up => s
  | .dn _ => if s.mode = .transparent then s else s.startScan

/-- A signal appears on a port: on a DOWN port proving starts, and on an UP port it cancels the loss timer (R150). -/
def State.signalOn (s : State) (p : PortId) : State :=
  let v := s.port p
  let s1 := s.setPort p { v with signal := true }
  if s.inReset then s1
  else
    match v.state with
    | .down => (s.setPort p { v with signal := true, state := .proving, proving := some 0 }).portScan p
    | .proving => s1
    | .up => s.setPort p { v with signal := true, loss := none }

/-- A signal is absent on a port: a PROVING port returns to DOWN, and an UP port starts its loss timer (R150). -/
def State.signalOff (s : State) (p : PortId) : State :=
  let v := s.port p
  let s1 := s.setPort p { v with signal := false }
  if s.inReset then s1
  else
    match v.state with
    | .down => s1
    | .proving => (s.setPort p { v with signal := false, state := .down, proving := none }).portScan p
    | .up => if v.signal then s.setPort p { v with signal := false, loss := some 0 } else s1

/-- The proving timer of a port has run its 500 ms with the signal present (R150). -/
def Port.provingDue (v : Port) : Bool :=
  v.state == .proving && v.signal && (match v.proving with | some e => Config.provingMs ≤ e | none => false)

/-- The loss timer of a port has run its 20 ms with the signal absent (R150). -/
def Port.lossDue (v : Port) : Bool :=
  v.state == .up && !v.signal && (match v.loss with | some e => Config.lossMs ≤ e | none => false)

/-- The LINK_CHANGED notice of a change to or from UP (R151). -/
def State.linkNotice (s : State) (p : PortId) (isUp : Bool) : State :=
  s.offerNotice .linkChanged none none (.link p isUp)

/-- A proving timer expires: the port is UP (R150, R151). -/
def State.portUp (s : State) (p : PortId) : State :=
  ((s.setPort p { s.port p with state := .up, proving := none }).linkNotice p true).portScan p

/-- The logical range of a window (R2). -/
def Window.range (w : Window) : List Nat :=
  if w.first ≤ w.last then (List.range (w.last - w.first + 1)).map (w.base + ·) else []

/-- The points of a port's windows that become STALE when it goes DOWN: the logical ranges of the defined windows of the
active bank that name the port (R16). A window whose read meets an integrity fault is not used (R165). -/
def State.portPoints (s : State) (d : DnPort) : List Nat :=
  (List.range 32).flatMap (fun i =>
    match s.readWindow i with
    | some w => if w.defined && w.port == d then w.range else []
    | none => [])

/-- Every entry of a lost port is removed and answered LINK_LOST, oldest first (R146). -/
def State.loseEntries (s : State) (d : DnPort) : State :=
  (s.entries.filter (fun e => e.port == d)).foldl (fun s e => s.failEntry e .linkLost) s

/-- A DN port has gone DOWN while a bank is active: its points become STALE and its entries are removed (R151). DESIGN CHOICE:
the staleness, with an entry to FAIL_HOLD its reads may make, comes before the LINK_LOST refusals, and these before the halts
and trip actions the STALE points start, which so find the freed entries and places (notes/assumptions/34.md). -/
def State.loseSegment (s : State) (d : DnPort) : State :=
  if s.mode = .transparent then s
  else
    let s1 := s.checkReads ((List.range 32).map (fun i => ⟨.windows, i⟩))
    ((s1.portPoints d).foldl State.makeStale s1).loseEntries d

/-- The transmission on UP stops: the queue is kept whole, a report in transmission is lost (R151, R162). -/
def State.stopUp (s : State) : State := { s with upQueue := s.upQueue.map (fun u => { u with sending := false }) }

/-- A loss timer expires: the port is DOWN, LINK_LOST is latched, LINK_CHANGED queued, and the telegram in transmission and
the repeat lane are lost (R150, R151). DESIGN CHOICE: LINK_CHANGED is queued before what the loss of the segment queues
(notes/assumptions/21.md). -/
def State.portDown (s : State) (p : PortId) : State :=
  let s1 := (s.setPort p { s.port p with
    state := .down, loss := none, linkLost := true, repeatLane := [], line := none }).linkNotice p false
  match p with
  | .up => s1.stopUp
  | .dn d => (s1.loseSegment d).portScan p

/-- A proving timer expires; before its time, or in reset, it does not (R150, R178). -/
def State.provingExpires (s : State) (p : PortId) : State :=
  if !s.inReset && (s.port p).provingDue then s.portUp p else s

/-- A loss timer expires; before its time, or in reset, it does not (R150, R178). -/
def State.lossExpires (s : State) (p : PortId) : State :=
  if !s.inReset && (s.port p).lossDue then s.portDown p else s

/-! ### DN transmitters (R140, R163) -/

/-- The order a DN transmitter takes next: the head of the priority lane, or, with the repeat lane empty too, the head of
the general lane (R139, R163). -/
def State.nextOrder (s : State) (d : DnPort) : Option Entry :=
  match s.lane d .priority with
  | e :: _ => some e
  | [] => if (s.port (.dn d)).repeatLane.isEmpty then (s.lane d .general).head? else none

/-- The transmission of an order: it leaves its lane, its entry is SENT and its reply timer runs, and the freed place starts
a scan (R140). -/
def State.transmit (s : State) (d : DnPort) (e : Entry) : State :=
  let s1 := { s with entries := s.entries.map (fun x : Entry => if x.seq == e.seq then { x with lane := .sent s.clock } else x) }
  (s1.setPort (.dn d) { s1.port (.dn d) with line := some (.point .order (s.entryTel e)) }).startScan

/-- The transmitter of a DN port takes a telegram: out of reset, the port UP and its line free (R163). -/
def State.lineFree (s : State) (d : DnPort) : Bool :=
  !s.inReset && (s.port (.dn d)).state == .up && (s.port (.dn d)).line.isNone

/-- A DN transmitter takes an order from its priority or general lane when its line is free (R163). -/
def State.transmitNext (s : State) (d : DnPort) : State :=
  if !s.lineFree d then s
  else
    match s.nextOrder d with
    | some e => s.transmit d e
    | none => s

/-- A DN transmitter takes a copy from its repeat lane when its line is free, the priority lane being empty (R163). -/
def State.repeatNext (s : State) (d : DnPort) : State :=
  if !s.lineFree d then s
  else
    match s.lane d .priority, (s.port (.dn d)).repeatLane with
    | [], t :: rest => s.setPort (.dn d) { s.port (.dn d) with repeatLane := rest, line := some t }
    | _, _ => s

/-! ### The UP transmitter (R162) -/

/-- The classes of the UP transmit queue in the order the arbiter takes them, a reserved place and, without a notice
destination, a notice being passed over (R162). -/
def UpContent.rank (dest : Option Byte) : UpContent → Option Nat
  | .place => none
  | .response _ => some 0
  | .answer _ => some 1
  | .notice _ => if dest.isSome then some 2 else none
  | .report _ => some 3

/-- The place of the oldest telegram of one class. -/
def State.oldestOf (s : State) (k : Nat) : Option Nat :=
  s.upQueue.findIdx? (fun u => u.content.rank s.noticeDest == some k)

/-- The place of the telegram the arbiter takes: the oldest of the first non-empty class (R162). -/
def State.upNext (s : State) : Option Nat :=
  ((s.oldestOf 0).or (s.oldestOf 1)).or ((s.oldestOf 2).or (s.oldestOf 3))

/-- An optional field of a body: a presence byte, then its bytes, which are open where it is absent (R173). -/
def optField (width : Nat) : Option (List (Option Byte)) → List (Option Byte)
  | some bs => some 1 :: bs
  | none => some 0 :: List.replicate width none

/-- Known bytes of a body. -/
def known (bs : List Byte) : List (Option Byte) := bs.map some

/-- A body with its open bytes given free values (R173). -/
def fillBody (draw : Nat) (bs : List (Option Byte)) : List Byte :=
  bs.mapIdx (fun i b => b.getD (Config.padByte draw i))

/-- The four bytes of a part clock value, high byte first (R173). -/
def clockBytes (c : Clock) : List Byte :=
  [c.extractLsb' 24 8, c.extractLsb' 16 8, c.extractLsb' 8 8, c.extractLsb' 0 8]

/-- The two bytes of a number (R173). -/
def natBytes (n : Nat) : List Byte := wordBytes (BitVec.ofNat 16 n)

/-- The one byte of a number (R173). -/
def natByte (n : Nat) : Byte := BitVec.ofNat 8 n

/-- The body of a notice: section, logical point, cause and stamp (R177). -/
def Notice.body (n : Notice) : List (Option Byte) :=
  optField 1 (n.sect.map (fun k => known [natByte k])) ++ optField 2 (n.point.map (fun p => known (natBytes p))) ++
    known ([n.cause.codes.1, n.cause.codes.2] ++ clockBytes n.stamp)

/-- The NOTICE telegram of a notice, made when its transmission begins (R155, R177); its tag is a free value. -/
def State.noticeTel (s : State) (n : Notice) (dest : Byte) : MgmtTel :=
  ⟨dest, s.station, Config.noticeTag s.draws, NoticeKind.code n.kind, fillBody s.draws n.body⟩

/-- The telegram of a place of the UP transmit queue, as it goes on the line. -/
def State.upTelegram (s : State) : UpContent → Option Telegram
  | .place => none
  | .response t => some (.mgmt .response t)
  | .answer t => some t
  | .notice n => s.noticeDest.map (fun d => .mgmt .notice (s.noticeTel n d))
  | .report t => some (.point .report t)

/-- The queue after the telegram of place `i` begins its transmission: a report leaves, any other keeps its place (R162). -/
def upBegin (q : List UpItem) (i : Nat) (u : UpItem) : List UpItem :=
  if u.isReport then q.eraseIdx i else q.set i { u with sending := true }

/-- The UP transmitter begins a transmission when its line is free (R162). -/
def State.upStart (s : State) : State :=
  if s.inReset || (s.port .up).state != .up || (s.port .up).line.isSome then s
  else
    match s.upNext with
    | some i =>
      match s.upQueue[i]? with
      | some u =>
        ({ s with upQueue := upBegin s.upQueue i u, draws := if u.isNotice then s.draws + 1 else s.draws }).setPort .up
          { s.port .up with line := s.upTelegram u.content }
      | none => s
    | none => s

/-- The end of a transmission on UP: a non-report telegram leaves the queue (R162). -/
def State.upEnd (s : State) : State :=
  if s.inReset || (s.port .up).line.isNone then s
  else
    ({ s with upQueue := s.upQueue.filter (fun u => !u.sending) }).setPort .up { s.port .up with line := none }

end Sys2Proof.Machine
end

