-- ==== Sys2Proof/Machine/Operands.lean ====
section
/-! DEFINITION. The operands of management requests: how a body's fields are read and written, and the field ranges of the
tables (R1, R7, R20, R24, R80, R105, R173). -/
namespace Sys2Proof.Machine

/-! ### Reading the fields of a body (R173) -/

/-- A reader of fields: what it read and the bytes left, or nothing where the bytes cannot be read. -/
abbrev Reader (α : Type) := List Byte → Option (α × List Byte)

/-- One byte. -/
def getByte : Reader Byte
  | b :: rest => some (b, rest)
  | [] => none

/-- A number of one byte. -/
def getNat1 : Reader Nat
  | b :: rest => some (b.toNat, rest)
  | [] => none

/-- A two-byte field, high byte first. -/
def getWord : Reader Word
  | h :: l :: rest => some (wordOf h l, rest)
  | _ => none

/-- A number of two bytes. -/
def getNat2 : Reader Nat
  | h :: l :: rest => some ((wordOf h l).toNat, rest)
  | _ => none

/-- A flag: one byte, 0 or 1. -/
def getFlag : Reader Bool
  | b :: rest =>
    match b.toNat with
    | 0 => some (false, rest)
    | 1 => some (true, rest)
    | _ => none
  | [] => none

/-- An enumerated field: one byte, holding a code of its enumeration. -/
def getCode {α : Type} (ofCode : Byte → Option α) : Reader α
  | b :: rest => (ofCode b).map (fun x => (x, rest))
  | [] => none

/-- An optional field of a width: a presence byte, then its bytes, ignored where it is absent. -/
def getOpt {α : Type} (width : Nat) (get : Reader α) : Reader (Option α) := fun bs =>
  match getFlag bs with
  | some (true, rest) => (get rest).map (fun x => (some x.1, x.2))
  | some (false, rest) => if rest.length < width then none else some (none, rest.drop width)
  | none => none

/-- A run of `n` fields. -/
def getMany {α : Type} (get : Reader α) : Nat → Reader (List α)
  | 0, bs => some ([], bs)
  | n + 1, bs =>
    match get bs with
    | some (x, rest) => (getMany get n rest).map (fun y => (x :: y.1, y.2))
    | none => none

/-- A list of at most `most` entries of a width: a count byte, then as many entry places as the longest list allows; the
places beyond the count are ignored. With a count above `most` every place is carried and read, and the list is one of
`most + 1` entries, the last of them `dflt`, which no range allows (notes/assumptions/14.md). -/
def getList {α : Type} (most width : Nat) (dflt : α) (get : Reader α) : Reader (List α) := fun bs =>
  match getNat1 bs with
  | some (n, rest) =>
    if rest.length < most * width then none
    else
      (getMany get (min n most) rest).map
        (fun x => (if most < n then x.1 ++ [dflt] else x.1, rest.drop (most * width)))
  | none => none

/-! ### Table entries as read from a body -/

/-- A window (R1). -/
def getWindow : Reader Window := fun bs => do
  let (defined, bs) ← getFlag bs
  let (port, bs) ← getCode DnPort.ofCode bs
  let (station, bs) ← getNat1 bs
  let (first, bs) ← getNat2 bs
  let (last, bs) ← getNat2 bs
  let (base, bs) ← getNat2 bs
  let (guarded, bs) ← getFlag bs
  let (replyTimeout, bs) ← getNat1 bs
  let (staleLimit, bs) ← getNat1 bs
  pure (⟨defined, port, station, first, last, base, guarded, replyTimeout, staleLimit⟩, bs)

/-- A point static part (R7). -/
def getPointStatic : Reader PointStatic := fun bs => do
  let (cls, bs) ← getCode PointClass.ofCode bs
  let (sect, bs) ← getOpt 1 getNat1 bs
  let (ratedLoad, bs) ← getNat2 bs
  let (startCost, bs) ← getNat2 bs
  let (startLimit, bs) ← getNat1 bs
  let (deadband, bs) ← getNat2 bs
  pure (⟨cls, sect, ratedLoad, startCost, startLimit, deadband⟩, bs)

/-- A flow point (R20). -/
def getFlowPoint : Reader FlowPoint := fun bs => do
  let (point, bs) ← getNat2 bs
  let (threshold, bs) ← getWord bs
  pure (⟨point, threshold⟩, bs)

/-- A level point (R20). -/
def getLevelPoint : Reader LevelPoint := fun bs => do
  let (point, bs) ← getNat2 bs
  let (low, bs) ← getWord bs
  let (high, bs) ← getWord bs
  pure (⟨point, low, high⟩, bs)

/-- A trip action (R20). -/
def getTripAction : Reader TripAction := fun bs => do
  let (point, bs) ← getNat2 bs
  let (action, bs) ← getCode Action.ofCode bs
  let (value, bs) ← getWord bs
  pure (⟨point, action, value⟩, bs)

/-- A section record (R20). -/
def getSectionRec : Reader SectionRec := fun bs => do
  let (defined, bs) ← getFlag bs
  let (role, bs) ← getCode Role.ofCode bs
  let (profile, bs) ← getNat1 bs
  let (feeds, bs) ← getList 3 1 0 getNat1 bs
  let (needs, bs) ← getList 4 1 0 getNat1 bs
  let (warmSet, bs) ← getOpt 1 getNat1 bs
  let (runSet, bs) ← getOpt 1 getNat1 bs
  let (flushSet, bs) ← getOpt 1 getNat1 bs
  let (tripSet, bs) ← getOpt 1 getNat1 bs
  let (flowPoints, bs) ← getList 2 4 ⟨0, 0⟩ getFlowPoint bs
  let (confirmTime, bs) ← getNat1 bs
  let (level, bs) ← getOpt 6 getLevelPoint bs
  let (permitIn, bs) ← getOpt 1 getNat1 bs
  let (permitOut, bs) ← getOpt 1 getNat1 bs
  let (warmLimit, bs) ← getNat1 bs
  let (drainLimit, bs) ← getNat1 bs
  let (tripActions, bs) ← getList 4 5 ⟨0, .stop, 0⟩ getTripAction bs
  pure (⟨defined, role, profile, feeds, needs, warmSet, runSet, flushSet, tripSet, flowPoints, confirmTime, level,
    permitIn, permitOut, warmLimit, drainLimit, tripActions⟩, bs)

/-- The state test of a condition: its kind, then the list of ONE_OF (R24, R173). DESIGN CHOICE: for ANY, which R24 gives no list,
the nine bytes of a list follow and are ignored, whatever count or codes they hold (notes/assumptions/44.md). -/
def getStateTest : Reader StateTest := fun bs =>
  match getFlag bs with
  | some (false, rest) => if rest.length < 9 then none else some (.any, rest.drop 9)
  | some (true, rest) =>
    (getList 8 1 ReportState.stopped (getCode ReportState.ofCode) rest).map (fun x => (.oneOf x.1, x.2))
  | none => none

/-- A condition (R24). -/
def getCondition : Reader Condition := fun bs => do
  let (point, bs) ← getNat2 bs
  let (states, bs) ← getStateTest bs
  let (test, bs) ← getCode ValueTest.ofCode bs
  let (ref1, bs) ← getWord bs
  let (ref2, bs) ← getWord bs
  pure (⟨point, states, test, ref1, ref2⟩, bs)

/-- A condition set (R24). -/
def getConditionSet : Reader ConditionSet := fun bs => do
  let (defined, bs) ← getFlag bs
  let (combination, bs) ← getCode Combination.ofCode bs
  let (conditions, bs) ← getList 8 17 ⟨0, .any, .noTest, 0, 0⟩ getCondition bs
  pure (⟨defined, combination, conditions⟩, bs)

/-- A screen row (R80). -/
def getScreenRow : Reader ScreenRow := fun bs => do
  let (base, bs) ← getCode RowBase.ofCode bs
  let (condSet, bs) ← getOpt 1 getNat1 bs
  let (low, bs) ← getWord bs
  let (high, bs) ← getWord bs
  let (ramp, bs) ← getNat2 bs
  let (gates, bs) ← getWord bs
  let (holdLimit, bs) ← getNat1 bs
  pure (⟨base, condSet, low, high, ramp, gates, holdLimit⟩, bs)

/-- The budget record (R105). -/
def getBudgetRec : Reader BudgetRec := fun bs => do
  let (period, bs) ← getNat1 bs
  let (allowance, bs) ← getNat2 bs
  let (reserve, bs) ← getNat2 bs
  let (capacity, bs) ← getNat2 bs
  let (tallyInterval, bs) ← getNat1 bs
  pure (⟨period, allowance, reserve, capacity, tallyInterval⟩, bs)

/-- The entries of a WRITE_TABLE, all of one table. -/
inductive TableData where
  | windows (l : List Window)
  | points (l : List PointStatic)
  | sections (l : List SectionRec)
  | sets (l : List ConditionSet)
  | rows (l : List ScreenRow)
  | budget (l : List BudgetRec)
  deriving DecidableEq, Repr

/-- `n` entries of a table, with no byte left over. -/
def getEntries (t : TableId) (n : Nat) (bs : List Byte) : Option TableData :=
  match t with
  | .windows => (getMany getWindow n bs).bind (fun x => if x.2 = [] then some (.windows x.1) else none)
  | .points => (getMany getPointStatic n bs).bind (fun x => if x.2 = [] then some (.points x.1) else none)
  | .sections => (getMany getSectionRec n bs).bind (fun x => if x.2 = [] then some (.sections x.1) else none)
  | .sets => (getMany getConditionSet n bs).bind (fun x => if x.2 = [] then some (.sets x.1) else none)
  | .rows => (getMany getScreenRow n bs).bind (fun x => if x.2 = [] then some (.rows x.1) else none)
  | .budget => (getMany getBudgetRec n bs).bind (fun x => if x.2 = [] then some (.budget x.1) else none)

/-- The bytes one entry of a table takes in a body (R173). -/
def entryWidth : TableId → Nat
  | .windows => 12
  | .points => 10
  | .sections => 64
  | .sets => 139
  | .rows => 12
  | .budget => 8

/-- The entries of a table (R164). -/
def tableSize : TableId → Nat
  | .windows => 32
  | .points => 2048
  | .sections => 16
  | .sets => 64
  | .rows => 392
  | .budget => 1

/-! ### Writing the fields of a body (R173) -/

/-- A flag byte. -/
def flagByte (b : Bool) : Byte := if b then 1 else 0

/-- A list of entries of a width: its count, its entries, and open bytes in the places beyond the count. -/
def putList {α : Type} (most width : Nat) (put : α → List (Option Byte)) (l : List α) : List (Option Byte) :=
  some (natByte l.length) :: l.flatMap put ++ List.replicate ((most - l.length) * width) none

/-- A window (R1). -/
def putWindow (w : Window) : List (Option Byte) :=
  known ([flagByte w.defined, DnPort.code w.port, natByte w.station] ++ natBytes w.first ++ natBytes w.last ++
    natBytes w.base ++ [flagByte w.guarded, natByte w.replyTimeout, natByte w.staleLimit])

/-- An optional number of one byte. -/
def putOpt1 (o : Option Nat) : List (Option Byte) := optField 1 (o.map (fun n => known [natByte n]))

/-- A point static part (R7). -/
def putPointStatic (p : PointStatic) : List (Option Byte) :=
  known [PointClass.code p.cls] ++ putOpt1 p.sect ++ known (natBytes p.ratedLoad ++ natBytes p.startCost ++
    [natByte p.startLimit] ++ natBytes p.deadband)

/-- A section record (R20). -/
def putSectionRec (r : SectionRec) : List (Option Byte) :=
  known [flagByte r.defined, Role.code r.role, natByte r.profile] ++
  putList 3 1 (fun n => known [natByte n]) r.feeds ++ putList 4 1 (fun n => known [natByte n]) r.needs ++
  putOpt1 r.warmSet ++ putOpt1 r.runSet ++ putOpt1 r.flushSet ++ putOpt1 r.tripSet ++
  putList 2 4 (fun f => known (natBytes f.point ++ wordBytes f.threshold)) r.flowPoints ++
  known [natByte r.confirmTime] ++
  optField 6 (r.level.map (fun l => known (natBytes l.point ++ wordBytes l.low ++ wordBytes l.high))) ++
  putOpt1 r.permitIn ++ putOpt1 r.permitOut ++ known [natByte r.warmLimit, natByte r.drainLimit] ++
  putList 4 5 (fun a => known (natBytes a.point ++ [Action.code a.action] ++ wordBytes a.value)) r.tripActions

/-- The state test of a condition (R24): the list of ONE_OF is open for ANY (notes/assumptions/44.md). -/
def putStateTest : StateTest → List (Option Byte)
  | .any => some 0 :: List.replicate 9 none
  | .oneOf l => some 1 :: putList 8 1 (fun x => known [ReportState.code x]) l

/-- A condition (R24). -/
def putCondition (c : Condition) : List (Option Byte) :=
  known (natBytes c.point) ++ putStateTest c.states ++
    known (ValueTest.code c.test :: wordBytes c.ref1 ++ wordBytes c.ref2)

/-- A condition set (R24). -/
def putConditionSet (c : ConditionSet) : List (Option Byte) :=
  known [flagByte c.defined, Combination.code c.combination] ++ putList 8 17 putCondition c.conditions

/-- A screen row (R80). -/
def putScreenRow (r : ScreenRow) : List (Option Byte) :=
  known [RowBase.code r.base] ++ putOpt1 r.condSet ++
    known (wordBytes r.low ++ wordBytes r.high ++ natBytes r.ramp ++ wordBytes r.gates ++ [natByte r.holdLimit])

/-- The budget record (R105). -/
def putBudgetRec (b : BudgetRec) : List (Option Byte) :=
  known (natByte b.period :: natBytes b.allowance ++ natBytes b.reserve ++ natBytes b.capacity ++ [natByte b.tallyInterval])

/-- The bytes of an entry of a bank, by its stored content. -/
def Bank.putEntry (b : Bank) : EntryRef → List (Option Byte)
  | ⟨.windows, i⟩ => putWindow (b.window i).content
  | ⟨.points, i⟩ => putPointStatic (b.pointStatic i).content
  | ⟨.sections, i⟩ => putSectionRec (b.sectionRec i).content
  | ⟨.sets, i⟩ => putConditionSet (b.condSet i).content
  | ⟨.rows, i⟩ => putScreenRow (b.row i).content
  | ⟨.budget, _⟩ => putBudgetRec b.budget.content

/-! ### Field ranges (R166) -/

/-- An optional number below a bound. -/
def optBelow (bound : Nat) : Option Nat → Bool
  | some n => n < bound
  | none => true

/-- The fields of a window lie in their ranges (R1). -/
def Window.inRange (w : Window) : Bool :=
  1 ≤ w.station && w.station ≤ 239 && w.first ≤ 1023 && w.last ≤ 1023 && w.base ≤ 2047 &&
    1 ≤ w.replyTimeout && w.replyTimeout ≤ 255 && 1 ≤ w.staleLimit && w.staleLimit ≤ 255

/-- The fields of a static part lie in their ranges, the loads, costs and limits of a class other than DRIVE being 0 (R7). -/
def PointStatic.inRange (p : PointStatic) : Bool :=
  optBelow 16 p.sect && p.ratedLoad ≤ 4095 && p.startCost ≤ 4095 && p.startLimit ≤ 15 && p.deadband ≤ 32767 &&
    (p.cls == .drive || (p.ratedLoad == 0 && p.startCost == 0 && p.startLimit == 0))

/-- A list of section numbers of a length, no number twice (R20). -/
def sectionListOk (most : Nat) (l : List Nat) : Bool :=
  decide (l.length ≤ most) && l.all (fun n => n < 16) && decide l.Nodup

/-- The fields of a section record lie in their ranges (R20). -/
def SectionRec.inRange (r : SectionRec) : Bool :=
  r.profile ≤ 7 && sectionListOk 3 r.feeds && sectionListOk 4 r.needs && optBelow 64 r.warmSet && optBelow 64 r.runSet &&
  optBelow 64 r.flushSet && optBelow 64 r.tripSet && r.flowPoints.length ≤ 2 &&
  r.flowPoints.all (fun f => f.point ≤ 2047) && 1 ≤ r.confirmTime && r.confirmTime ≤ 255 &&
  (match r.level with | some l => l.point ≤ 2047 | none => true) && optBelow 4 r.permitIn && optBelow 4 r.permitOut &&
  r.warmLimit ≤ 255 && r.drainLimit ≤ 255 && r.tripActions.length ≤ 4 && r.tripActions.all (fun a => a.point ≤ 2047)

/-- A ONE_OF list holds 1 to 8 state codes (R24). -/
def StateTest.inRange : StateTest → Bool
  | .any => true
  | .oneOf l => 1 ≤ l.length && l.length ≤ 8

/-- The fields of a condition set lie in their ranges: at most 8 conditions, and at least one of a defined set (R24). -/
def ConditionSet.inRange (c : ConditionSet) : Bool :=
  c.conditions.length ≤ 8 && (!c.defined || 1 ≤ c.conditions.length) &&
    c.conditions.all (fun x => x.point ≤ 2047 && x.states.inRange)

/-- The fields of a screen row lie in their ranges (R80). -/
def ScreenRow.inRange (r : ScreenRow) : Bool := optBelow 64 r.condSet && r.ramp ≤ 32767 && r.holdLimit ≤ 255

/-- The fields of the budget record lie in their ranges (R105). -/
def BudgetRec.inRange (b : BudgetRec) : Bool :=
  1 ≤ b.period && b.period ≤ 100 && b.allowance ≤ 65535 && b.reserve ≤ 65535 && b.capacity ≤ 65535 &&
    1 ≤ b.tallyInterval && b.tallyInterval ≤ 255

/-- The place of the first carried entry with a field out of its range (R166). -/
def TableData.firstBad : TableData → Option Nat
  | .windows l => l.findIdx? (fun x => !x.inRange)
  | .points l => l.findIdx? (fun x => !x.inRange)
  | .sections l => l.findIdx? (fun x => !x.inRange)
  | .sets l => l.findIdx? (fun x => !x.inRange)
  | .rows l => l.findIdx? (fun x => !x.inRange)
  | .budget l => l.findIdx? (fun x => !x.inRange)

/-- Stores a run of entries in a table from an index, each with a good integrity code (R165, R166). -/
def writeRun {α : Type} [DecidableEq α] (d : α) (m : Store (Stored α)) : Nat → List α → Store (Stored α)
  | _, [] => m
  | i, x :: rest => writeRun d (Store.write ⟨d, true⟩ m i ⟨x, true⟩) (i + 1) rest

/-- A bank with a run of entries stored from an index (R166). -/
def Bank.store (b : Bank) (first : Nat) : TableData → Bank
  | .windows l => { b with windows := writeRun Window.empty b.windows first l }
  | .points l => { b with points := writeRun PointStatic.empty b.points first l }
  | .sections l => { b with sections := writeRun SectionRec.empty b.sections first l }
  | .sets l => { b with sets := writeRun ConditionSet.empty b.sets first l }
  | .rows l => { b with rows := writeRun ScreenRow.empty b.rows first l }
  | .budget l => match l with | x :: _ => { b with budget := ⟨x, true⟩ } | [] => b

end Sys2Proof.Machine
end

