-- ==== Sys2Proof/Machine/SwapCheck.lean ====
section
/-! DEFINITION. The check of the standby bank that precedes a bank swap (R21, R168, R169). -/
namespace Sys2Proof.Machine

/-- A failure of the swap check: its code and the entry reported (R169). -/
structure CheckFailure where
  code : Rejection
  entry : EntryRef
  deriving DecidableEq, Repr

/-- The first listed entry of a table whose read meets an integrity fault. -/
def firstFaulty {α : Type} (t : TableId) (m : Store (Stored α)) : Option EntryRef :=
  (m.find? (fun e => !e.2.good)).map (fun e => ⟨t, e.1⟩)

/-- The first faulty entry of a bank, tables in the order of R164 and entries in index order (R167, R168). -/
def Bank.firstFault (b : Bank) : Option EntryRef :=
  [firstFaulty .windows b.windows, firstFaulty .points b.points, firstFaulty .sections b.sections,
   firstFaulty .sets b.sets, firstFaulty .rows b.rows,
   if b.budget.good then none else some ⟨.budget, 0⟩].findSome? id

/-- The content of window `i`. -/
def Bank.win (b : Bank) (i : Nat) : Window := (b.window i).content
/-- The content of section record `n`. -/
def Bank.sec (b : Bank) (n : Nat) : SectionRec := (b.sectionRec n).content
/-- Section `n` is defined in the bank. -/
def Bank.isDefined (b : Bank) (n : Nat) : Bool := (b.sec n).defined

/-- The first index below `n` that fails a test. -/
def firstIndex (n : Nat) (fails : Nat → Bool) : Option Nat := (List.range n).find? fails

/-- The first entry of a table that fails a test, as a failure with a code. -/
def failing (c : Rejection) (t : TableId) (n : Nat) (fails : Nat → Bool) : Option CheckFailure :=
  (firstIndex n fails).map (fun i => ⟨c, ⟨t, i⟩⟩)

/-- The first section record that fails a test, its defined flag clear or set: R21 and R169 limit items 4 and 13 alone to
defined sections, DEDUCED (notes/assumptions/26.md). -/
def Bank.sectionFailing (b : Bank) (c : Rejection) (fails : Nat → SectionRec → Bool) : Option CheckFailure :=
  failing c .sections 16 (fun n => fails n (b.sec n))

/-- Two windows occupy overlapping logical ranges (R2, item 2). -/
def Window.overlaps (v w : Window) : Bool :=
  v.defined && w.defined && v.first ≤ v.last && w.first ≤ w.last &&
    v.base ≤ w.base + (w.last - w.first) && w.base ≤ v.base + (v.last - v.first)

/-- Item 2: a window that overlaps a higher-numbered one. -/
def Bank.overlapAt (b : Bank) (i : Nat) : Bool :=
  (List.range 32).any (fun j => i < j && (b.win i).overlaps (b.win j))

/-- A station point of window `i` is covered by a lower-numbered window (R3). -/
def Bank.shadowed (b : Bank) (i point : Nat) : Bool :=
  (List.range i).any (fun j => (b.win j).covers (b.win i).station point)

/-- Item 3: last below first, a logical range beyond 2047, or no station point reached by lookup. -/
def Bank.windowBad (b : Bank) (i : Nat) : Bool :=
  let w := b.win i
  w.defined && (decide (w.last < w.first) || decide (2047 < w.base + (w.last - w.first)) ||
    (List.range (w.last - w.first + 1)).all (fun k => b.shadowed i (w.first + k)))

/-- The defined sections fed by the defined sections of a list. -/
def Bank.fedBy (b : Bank) (l : List Nat) : List Nat :=
  (List.range 16).filter (fun m => b.isDefined m && l.any (fun n => b.isDefined n && m ∈ (b.sec n).feeds))

/-- The sections reached from section `n` along feeds in 1 to `k + 1` steps. -/
def Bank.reach (b : Bank) (n : Nat) : Nat → List Nat
  | 0 => b.fedBy [n]
  | k + 1 => b.fedBy (n :: b.reach n k)

/-- Item 4: section `n` is on a cycle of the feeds relation. -/
def Bank.onCycle (b : Bank) (n : Nat) : Bool := n ∈ b.reach n 16

/-- Item 5: a need that is the section itself, an undefined section, or not UTILITY. -/
def Bank.needBad (b : Bank) (n : Nat) (r : SectionRec) : Bool :=
  r.needs.any (fun m => m == n || !b.isDefined m || (b.sec m).role != .utility)

/-- Section `m` is a defined STORE. -/
def Bank.isStore (b : Bank) (m : Nat) : Bool := b.isDefined m && (b.sec m).role == .store

/-- Item 6: a STORE named in feeds together with a section that is not a STORE. -/
def Bank.storeFeedBad (b : Bank) (r : SectionRec) : Bool :=
  r.feeds.any b.isStore && r.feeds.any (fun m => !b.isStore m)

/-- A flow point or level point is unmapped or of class GATESET. -/
def Bank.flowBad (b : Bank) (p : Nat) : Bool := !b.isMapped p || (b.pointStatic p).content.cls == .gateset

/-- Item 7: a section field out of range (R21). -/
def Bank.sectionBad (b : Bank) (r : SectionRec) : Bool :=
  r.feeds.any (fun m => !b.isDefined m) || (r.role == .store) != r.level.isSome ||
    r.flowPoints.any (fun f => b.flowBad f.point) ||
    (match r.level with | some l => b.flowBad l.point | none => false) ||
    r.tripActions.any (fun a => a.action == .gates || a.action == .resetFault || !b.isMapped a.point)

/-- Item 8: a point whose class is not MEASURE with no section, or of an undefined one. -/
def Bank.pointBad (b : Bank) (p : Nat) : Bool :=
  let st := (b.pointStatic p).content
  st.cls != .measure && (match st.sect with | some n => !b.isDefined n | none => true)

/-- A named set that is not defined (R24). -/
def Bank.setMissing (b : Bank) : Option Nat → Bool
  | some k => !(b.condSet k).content.defined
  | none => false

/-- Item 9, a section record: it names a set that is not defined. -/
def Bank.sectionSetBad (b : Bank) (r : SectionRec) : Bool :=
  b.setMissing r.warmSet || b.setMissing r.runSet || b.setMissing r.flushSet || b.setMissing r.tripSet

/-- Item 9, a set: a condition names an unmapped point. R2, R24 and R169 say a condition without more, so that a set whose
defined flag is clear is looked at too, DEDUCED (notes/assumptions/26.md). -/
def Bank.setUnmapped (b : Bank) (k : Nat) : Bool := (b.condSet k).content.conditions.any (fun c => !b.isMapped c.point)

/-- Item 10, a level point with its low limit above its high limit. -/
def levelBad (r : SectionRec) : Bool :=
  match r.level with
  | some l => decide (l.high.toInt < l.low.toInt)
  | none => false

/-- Item 10, a BETWEEN or OUTSIDE condition of a set, defined or not, with its first reference above its second. -/
def Bank.setLowBad (b : Bank) (k : Nat) : Bool :=
  (b.condSet k).content.conditions.any (fun c =>
    (c.test == .between || c.test == .outside) && decide (c.ref2.toInt < c.ref1.toInt))

/-- Item 10, a screen row with low above high. -/
def Bank.rowLowBad (b : Bank) (i : Nat) : Bool := decide ((b.row i).content.high.toInt < (b.row i).content.low.toInt)

/-- Item 13: a defined section that names the PERMIT-OUT line of a higher-numbered defined section. -/
def Bank.permitShared (b : Bank) (n : Nat) (r : SectionRec) : Bool :=
  r.defined && r.permitOut.isSome && (List.range 16).any (fun m => n < m && b.isDefined m && (b.sec m).permitOut == r.permitOut)

/-- Items 2 to 8, which read the standby bank alone. -/
def Bank.relationFailure (b : Bank) : Option CheckFailure :=
  [failing .logicalOverlap .windows 32 b.overlapAt,
   failing .windowRange .windows 32 b.windowBad,
   b.sectionFailing .feedsCycle (fun n _ => b.onCycle n),
   b.sectionFailing .needNotUtility b.needBad,
   b.sectionFailing .storeFeed (fun _ r => b.storeFeedBad r),
   b.sectionFailing .sectionField (fun _ r => b.sectionBad r),
   failing .noSection .points 2048 b.pointBad].findSome? id

/-- Items 9 to 13, which read the standby bank alone. -/
def Bank.fieldFailure (b : Bank) : Option CheckFailure :=
  [b.sectionFailing .conditionUnmapped (fun _ r => b.sectionSetBad r),
   failing .conditionUnmapped .sets 64 b.setUnmapped,
   failing .conditionUnmapped .rows 392 (fun i => b.setMissing (b.row i).content.condSet),
   b.sectionFailing .lowAboveHigh (fun _ r => levelBad r),
   failing .lowAboveHigh .sets 64 b.setLowBad,
   failing .lowAboveHigh .rows 392 b.rowLowBad,
   failing .reserveAboveAllowance .budget 1 (fun _ => decide (b.budget.content.allowance < b.budget.content.reserve)),
   b.sectionFailing .startTripAction (fun _ r => r.tripActions.any (fun a => a.action == .start)),
   b.sectionFailing .permitOutShared b.permitShared].findSome? id

/-- Items 2 to 13, which read the standby bank alone. -/
def Bank.structureFailure (b : Bank) : Option CheckFailure := b.relationFailure.or b.fieldFailure

/-- Items 14 and 15, judged against the phases standing at the end of the check (R168): the part is TRANSPARENT and every
section IDLE, or the sections are held against the standby bank. They read the phases alone (R168): DEDUCED, a section that is
not IDLE is one the active bank defines (R22), so that item 14 reads no record of it (notes/assumptions/26.md). -/
def State.phaseFailure (s : State) (b : Bank) : Option CheckFailure :=
  (failing .sectionInUse .sections 16
    (fun n => s.phaseOf n != .idle && !b.isDefined n)).or
  (failing .needConflict .sections 16
    (fun n => (s.phaseOf n).working && (b.sec n).needs.any (fun m => s.phaseOf m != .running)))

/-- The failure that rejects a swap to a bank, if any: the items in the order of R169. -/
def State.swapFailure (s : State) (b : Bank) : Option CheckFailure :=
  match b.firstFault with
  | some e => some ⟨.integrity, e⟩
  | none => (b.structureFailure).or (s.phaseFailure b)

end Sys2Proof.Machine
end

