-- ==== Sys2Proof/Machine/Budget.lean ====
section
/-! DEFINITION. Timers that expire: stale, confirmation, overdue, period, tally decay, hold and reply timers (R15, R38,
R40, R101, R107, R129, R145). -/
namespace Sys2Proof.Machine

/-- The load account over a bank: the rated loads of the DRIVE points reported STARTING or RUNNING (R111). -/
def loadOver (b : Bank) (image : Store PointDyn) : Nat :=
  (image.map (fun e =>
    if (b.pointStatic e.1).content.cls == .drive && e.2.isOn then (b.pointStatic e.1).content.ratedLoad else 0)).sum

/-- While the reset is held every timer is stopped (R178). -/
def State.outOfReset (s : State) (f : State → State) : State := if s.inReset then s else f s

/-- A timer has run its length, counted in units of `unit` tenths. -/
def State.timerDue (s : State) (unit : Nat) (t : Timer) : Bool := unit * t.length ≤ s.elapsed t.start

/-- A period boundary with the budget record read (R107). -/
def State.boundary (s : State) (b : BudgetRec) : State :=
  ({ s with
    periodNumber := (s.periodNumber + 1) % 65536
    remaining := b.allowance
    unusedReserve := b.reserve
    periodTimer := some ⟨s.clock, b.period⟩ }).startScan

/-- A period boundary whose read of the budget record meets an integrity fault (R108). -/
def State.boundaryFault (s : State) (length : Nat) : State :=
  (({ s with
    periodNumber := (s.periodNumber + 1) % 65536
    periodTimer := some ⟨s.clock, length⟩ }).startScan).activeFault ⟨.budget, 0⟩

/-- The period timer expires (R107, R108); before its time it does not. -/
def State.periodExpires (s : State) : State :=
  match s.periodTimer with
  | some t =>
    if s.timerDue 1 t then
      match s.readBudget with
      | some b => s.boundary b
      | none => s.boundaryFault t.length
    else s
  | none => s

/-- The tally of a point one step lower (R101). -/
def State.lowerTally (s : State) (p : Nat) : State := s.setPoint p { s.point p with tally := (s.point p).tally - 1 }

/-- Every tally above 0 is lowered by one (R101). -/
def State.decay (s : State) : State := (s.image.map Prod.fst).foldl State.lowerTally s

/-- The tally decay timer expires (R101): with the budget record unreadable it makes no decay and starts again, DEDUCED with
the length it had, as R108 says of the period timer (notes/assumptions/33.md). -/
def State.tallyExpires (s : State) : State :=
  match s.tallyTimer with
  | some t =>
    if s.timerDue 600 t then
      match s.readBudget with
      | some b => { s.decay with tallyTimer := some ⟨s.clock, b.tallyInterval⟩ }
      | none => ({ s with tallyTimer := some ⟨s.clock, t.length⟩ }).activeFault ⟨.budget, 0⟩
    else s
  | none => s

/-- The stale timer of a point has expired: FRESH, and the stale limit of its window elapsed since its last report (R15). -/
def State.staleDue (s : State) (p : Nat) : Bool :=
  (s.point p).fresh &&
    match (s.point p).report, s.activeBank.storedWindowOf p with
    | some r, some w => 10 * w.staleLimit ≤ s.elapsed r.time
    | _, _ => false

/-- A point's stale timer expires (R15): the stale limit is read from the point's window, and a damaged window leaves the
point as it is and its fault is taken (R165, notes/assumptions/17.md). -/
def State.staleExpires (s : State) (p : Nat) : State :=
  match s.activeBank.storedIndexOf p with
  | some i => if s.staleDue p then s.ifReadable ⟨.windows, i⟩ (fun s => s.makeStale p) else s
  | none => s

/-- The confirmation timer of a section has expired: COUNTING, and the empty confirm time elapsed (R36, R38). -/
def State.confirmDue (s : State) (n : Nat) : Bool :=
  match (s.sect n).runEmpty with
  | .counting t => 10 * (s.activeBank.sec n).confirmTime ≤ s.elapsed t
  | _ => false

/-- A section is CONFIRMED, and re-examined (R38). -/
def State.confirm (s : State) (n : Nat) : State :=
  (s.setSect n { s.sect n with runEmpty := .confirmed }).addTask (.reexamine n)

/-- A section's confirmation timer expires (R38); with its record damaged the section stays as it is and the fault is taken
(R20). -/
def State.confirmExpires (s : State) (n : Nat) : State :=
  if s.confirmDue n then s.ifReadable ⟨.sections, n⟩ (fun s => s.confirm n) else s

/-- The limit of a section's stay in its phase, in minutes, 0 meaning none (R40). -/
def SectionRec.phaseLimit (r : SectionRec) : Phase → Nat
  | .warming => r.warmLimit
  | .draining => r.drainLimit
  | _ => 0

/-- The overdue timer of a section has expired with its flag clear, under a record (R40). -/
def State.overdueUnder (s : State) (r : SectionRec) (n : Nat) : Bool :=
  r.phaseLimit (s.phaseOf n) != 0 && !(s.sect n).overdue &&
    600 * r.phaseLimit (s.phaseOf n) ≤ s.elapsed (s.sect n).entryTime

/-- One PHASE_OVERDUE notice is queued and the overdue-noticed flag set (R40). -/
def State.noteOverdue (s : State) (n : Nat) : State :=
  (s.offerNotice .phaseOverdue (some n) none (.phase (s.phaseOf n))).setSect n { s.sect n with overdue := true }

/-- A section's overdue timer expires (R40); with its record damaged the section stays as it is and the fault is taken
(R20). -/
def State.overdueExpires (s : State) (n : Nat) : State :=
  if s.overdueUnder (s.activeBank.sec n) n then s.ifReadable ⟨.sections, n⟩ (fun s => s.noteOverdue n) else s

/-- A held record is for a station and station point. -/
def HeldRec.isFor (dest : Byte) (point : Word) (h : HeldRec) : Bool := h.tel.dest == dest && h.tel.point == point

/-- The deadline of a held record is reached (R129). -/
def State.holdDue (s : State) (h : HeldRec) : Bool := (h.deadline - h.arrival).toNat ≤ s.elapsed h.arrival

/-- The expiry timer of the record held for a destination expires: removed and refused HOLD_EXPIRED, without a scan
(R129). -/
def State.holdExpires (s : State) (dest : Byte) (point : Word) : State :=
  match s.held.find? (HeldRec.isFor dest point) with
  | some h =>
    if s.holdDue h then
      (s.setHeld (s.held.filter (fun x => !HeldRec.isFor dest point x))).refuse h.tel .holdExpired
    else s
  | none => s

/-- The reply timer of an entry has expired: SENT, and the reply timeout elapsed since the sent time (R140, R145). -/
def State.replyDue (s : State) (e : Entry) : Bool :=
  match e.lane with
  | .sent t => e.timeout ≤ s.elapsed t
  | .queued => false

/-- The reply timer of an entry expires (R145). -/
def State.replyExpires (s : State) (seq : Nat) : State :=
  match s.entries.find? (fun e => e.seq == seq) with
  | some e => if s.replyDue e then s.failEntry e .timeout else s
  | none => s

end Sys2Proof.Machine
end

