-- ==== Sys2Proof/Machine/Swap.lean ====
section
/-! DEFINITION. Management responses, the bank swap as every block takes it, and the resets (R19, R46, R71, R116, R131,
R148, R164, R170, R172, R174, R178, R179). -/
namespace Sys2Proof.Machine

/-! ### Responses (R174) -/

/-- Fills the reserved place of the request being answered with its MGMT_RESPONSE (R161, R174). -/
def State.respond (s : State) (src tag code : Byte) (body : List (Option Byte)) : State :=
  let s1 := if body.all Option.isSome then s else s.countDraw
  { s1 with upQueue := fillPlace s.upQueue ⟨src, s.station, tag, code, fillBody s.draws body⟩ }

/-- Answers a request ACCEPTED with the content it returns. -/
def State.accept (s : State) (r : MgmtTel) (content : List (Option Byte)) : State := s.respond r.src r.tag 0 content

/-- The body of a REJECTED response: the code, then the table and index of the entry concerned, or zeros (R174). -/
def rejectBody (c : Rejection) : Option EntryRef → List (Option Byte)
  | some e => known (Rejection.code c :: TableId.code e.table :: natBytes e.index)
  | none => known [Rejection.code c, 0, 0, 0]

/-- Answers a request REJECTED. -/
def State.reject (s : State) (r : MgmtTel) (c : Rejection) (e : Option EntryRef) : State :=
  s.respond r.src r.tag 1 (rejectBody c e)

/-! ### The image and the sections across a swap (R19, R46) -/

/-- The class of a point is unchanged from the old bank to the active one (R19). A damaged static part of the old bank is not
used (R165), and whether the class then counts as unchanged is a free value, DESIGN CHOICE (notes/assumptions/36.md). -/
def State.sameClass (s : State) (old : Bank) (p : Nat) : Bool :=
  match (old.pointStatic p).checked with
  | some st => st.cls == (s.activeBank.pointStatic p).content.cls
  | none => Config.sameClassOnFault s.draws p

/-- The dynamic part of a point carried from the old bank to the active one (R19). -/
def State.carried (s : State) (old : Bank) (p : Nat) : PointDyn :=
  let d := s.point p
  if !s.sameClass old p then { d with report := none, fresh := false, mark := true, setPoint := none }
  else if s.activeBank.isMapped p then { d with fresh := d.fresh && !s.staleDue p }
  else { d with fresh := false }

/-- Carries one point across the swap; an image change starts a scan (R13, R19). -/
def State.carryPoint (old : Bank) (s : State) (p : Nat) : State :=
  let d := s.carried old p
  let s1 := s.setPoint p d
  if (s.point p).imageDiffers d then s1.startScan else s1

/-- Carries the image across the swap (R19). -/
def State.carryImage (s : State) (old : Bank) : State := (List.range 2048).foldl (State.carryPoint old) s

/-- The dynamic state of a section shows that it is defined: an undefined section stays IDLE with both flags clear (R22). -/
def State.showsDefined (s : State) (n : Nat) : Bool :=
  s.phaseOf n != .idle || (s.sect n).mark || (s.sect n).overdue

/-- A section was defined in the old bank (R46). A damaged record of the old bank is not used (R165): a section whose dynamic
state shows that it is defined was then defined (R22), and whether an IDLE one with both flags clear counts as defined is a free
value, DESIGN CHOICE (notes/assumptions/36.md). -/
def State.wasDefined (s : State) (old : Bank) (n : Nat) : Bool :=
  match (old.sectionRec n).checked with
  | some r => r.defined
  | none => s.showsDefined n || Config.definedOnFault s.draws n

/-- The flow points of a section are those it had in the old bank (R46). DEDUCED: the lists are compared in their order, so that
the same two points the other way round differ (notes/assumptions/37.md). A damaged record of the old bank is not used (R165),
and whether the flow points then count as unchanged is a free value, DESIGN CHOICE (notes/assumptions/36.md). -/
def State.sameFlow (s : State) (old : Bank) (n : Nat) : Bool :=
  match (old.sectionRec n).checked with
  | some r => r.flowPoints == (s.activeBank.sec n).flowPoints
  | none => Config.sameFlowOnFault s.draws n

/-- The run-empty state of a DRAINING section defined in both banks, `same` saying that its flow points are unchanged (R46,
R37). DESIGN CHOICE: a flow point the swap makes STALE is taken before the new confirm time that has run, so that the section is
NOT_COUNTING and not CONFIRMED (notes/assumptions/40.md). -/
def State.carriedRunEmpty (s : State) (same : Bool) (new : SectionRec) (n : Nat) : RunEmpty :=
  if !same then s.drainEntry new.flowPoints
  else if new.flowPoints.any (fun f => !(s.point f.point).fresh) then .notCounting
  else if s.confirmDue n then .confirmed
  else (s.sect n).runEmpty

/-- The dynamic state of a section carried to the active bank (R46). -/
def State.carriedSection (s : State) (old : Bank) (n : Nat) : SectionDyn :=
  let d := s.sect n
  match s.wasDefined old n, s.activeBank.isDefined n with
  | true, true =>
    if d.phase = .draining then { d with runEmpty := s.carriedRunEmpty (s.sameFlow old n) (s.activeBank.sec n) n } else d
  | false, true => ⟨.idle, s.clock, none, .notCounting, false, false⟩
  | true, false => { d with mark := false }
  | false, false => d

/-- Carries one section across the swap, with the overdue timer against the new limit (R46). -/
def State.carrySection (old : Bank) (s : State) (n : Nat) : State :=
  let s1 := s.setSect n (s.carriedSection old n)
  if s1.activeBank.isDefined n && s1.overdueUnder (s1.activeBank.sec n) n then s1.noteOverdue n else s1

/-- Carries the sections across the swap (R46). -/
def State.carrySections (s : State) (old : Bank) : State := sectionNumbers.foldl (State.carrySection old) s

/-- The halt a swap makes at a defined section: TRIP, otherwise LOST_SIGNAL, otherwise PERMIT_LOST (R71). -/
def State.swapHalt (s : State) (n : Nat) : Option HaltCause :=
  match s.definedRec n with
  | some r =>
    if (s.phaseOf n).working && s.setHoldsOr false r.tripSet then some .trip
    else if haltReaches .lostSignal (s.phaseOf n) then
      if s.setHasStale r.tripSet then some .lostSignal else if !s.permitOk r then some .permitLost else none
    else none
  | none => none

/-- The halts of the swap (R71). -/
def State.swapHaltTasks (s : State) : List Task :=
  sectionNumbers.filterMap (fun n => (s.swapHalt n).map (Task.haltFirst n))

/-! ### Budget, load, held orders and entries across a swap (R101, R116, R131, R148) -/

/-- The period timer and the tally timer across the swap, against the new record; a time already elapsed is a boundary or a
decay at the swap (R101, R116). -/
def State.carryTimers (s : State) (b : BudgetRec) : State :=
  let s1 := { s with periodTimer := s.periodTimer.map (fun t : Timer => ⟨t.start, b.period⟩) }
  let s2 :=
    match s1.periodTimer with
    | some t => if s1.timerDue 1 t then s1.boundary b else s1
    | none => s1
  let s3 := { s2 with tallyTimer := s2.tallyTimer.map (fun t : Timer => ⟨t.start, b.tallyInterval⟩) }
  match s3.tallyTimer with
  | some t => if s3.timerDue 600 t then { s3.decay with tallyTimer := some ⟨s3.clock, b.tallyInterval⟩ } else s3
  | none => s3

/-- The budget figures and the load account across the swap (R116). -/
def State.carryBudget (s : State) (b : BudgetRec) : State :=
  let r := min s.remaining b.allowance
  let l := loadOver s.activeBank s.image
  let s1 := { s with remaining := r, unusedReserve := min s.unusedReserve (min b.reserve r), load := l }
  (if l < s.load then s1.startScan else s1).carryTimers b

/-- The logical point of a station point under the active bank, if it is covered. -/
def State.logicalOf (s : State) (station : Byte) (point : Word) : Option Nat :=
  match s.covering station point with
  | .window _ w => some (w.logicalOf point.toNat)
  | _ => none

/-- The logical points of the held records and of the general entries are set afresh (R131, R148). -/
def State.carryOrders (s : State) : State :=
  { s.setHeld (s.held.map (fun h => { h with point := s.logicalOf h.tel.dest h.tel.point })) with
    entries := s.entries.map (fun e : Entry =>
      if e.part == .general then { e with logical := s.logicalOf e.dest e.point } else e) }

/-! ### The swap (R170) -/

/-- The roles of the banks are exchanged and the part is SCREENING (R170). -/
def State.exchangeBanks (s : State) : State :=
  let next := match s.active with
    | some i => i.other
    | none => s.standby
  { s with active := some next, standby := next.other, mode := .screening, fault := false, standbyWritten := false }

/-- What every swap ends with: PERMIT-OUT by the new bank, every section re-examined, the completion test and the scan of
the swap (R42, R46, R59, R170). -/
def State.swapEnds (s : State) (halts : List Task) : State :=
  s.refreshPermitOut.addTasks (halts ++ reexamineAll ++ [.completion, .scan])

/-- A swap out of TRANSPARENT starts the first budget period and the tally decay timer (R101, R106). -/
def State.firstPeriod (s : State) (b : BudgetRec) : State :=
  { s with
    remaining := b.allowance
    unusedReserve := b.reserve
    periodNumber := 0
    periodTimer := some ⟨s.clock, b.period⟩
    tallyTimer := some ⟨s.clock, b.tallyInterval⟩ }

/-- A swap in SCREENING or FAIL_HOLD, as every block takes it (R170): the free values it draws are those of one draw. -/
def State.carryAcross (s : State) (old : Bank) : State :=
  let s1 := (((s.carryImage old).carrySections old).countDraw.carryBudget s.activeBank.budget.content).carryOrders
  s1.swapEnds s1.swapHaltTasks

/-- The swap is made (R170). -/
def State.makeSwap (s : State) (c : SwapCheck) : State :=
  let s1 := ((s.exchangeBanks.setSwapCheck none).respond c.src c.tag 0 []).offerNotice .bankSwapped none none
    (.partMode s.mode)
  if s.mode = .transparent then (s1.firstPeriod s1.activeBank.budget.content).swapEnds []
  else s1.carryAcross s.activeBank

/-- The bank a swap makes active: the standby bank (R164). -/
def State.standbyBank (s : State) : Bank := s.bank s.standby

/-- The end of the swap check: the swap is rejected at the first failing item, or made (R168 to R170). -/
def State.endCheck (s : State) (c : SwapCheck) : State :=
  match s.swapFailure s.standbyBank with
  | some f =>
    (s.setSwapCheck none).respond c.src c.tag 1 (rejectBody f.code (some f.entry))
  | none => s.makeSwap c

/-! ### Resets (R118, R134, R147, R172, R178, R179) -/

/-- Held orders refused and outstanding entries refused or dropped, with reason PART_RESET (R134, R147). DESIGN CHOICE: every held
order comes before every outstanding one (notes/assumptions/21.md). -/
def State.dropOrders (s : State) : State := (s.emptyHeld .partReset).emptyEntries

/-- The budget figures and the load account at RESET_PART and GO_TRANSPARENT (R118). -/
def State.zeroBudget (s : State) : State :=
  { s with remaining := 0, unusedReserve := 0, periodNumber := 0, load := 0, pledgeSum := 0 }

/-- A section at GO_TRANSPARENT: as at reset, its phase entry time unchanged (R22). -/
def State.clearSection (s : State) (n : Nat) : State :=
  s.setSect n { SectionDyn.clear with entryTime := (s.sect n).entryTime }

/-- RESET_PART sets a section to its reset values, its phase entry time to the clock value (R22). -/
def State.resetSection (s : State) (n : Nat) : State := s.setSect n { SectionDyn.clear with entryTime := s.clock }

/-- An accepted GO_TRANSPARENT (R172). -/
def State.goTransparent (s : State) : State :=
  let s1 := s.dropOrders
  let s2 := { s1.zeroBudget with image := [], periodTimer := none, tallyTimer := none }
  let s3 := (sectionNumbers.foldl State.clearSection s2).dropPermitOut
  { s3 with
    mode := .transparent
    active := none
    standby := s.active.getD s.standby
    standbyWritten := false
    fault := false }

/-- An accepted RESET_PART in SCREENING or TRANSPARENT (R179). -/
def State.resetPart (s : State) : State :=
  let s1 := { s.dropOrders.zeroBudget with image := [] }
  (sectionNumbers.foldl State.resetSection s1).dropPermitOut

/-- A port at the beginning of the reset: DOWN, with its line signal as it is (R150, R178). -/
def State.holdPort (s : State) (p : PortId) : State :=
  s.setPort p { Port.clear with signal := (s.port p).signal }

/-- While the reset is held every port is DOWN, the outputs are deasserted and no event is in progress (R178). DESIGN CHOICE:
the lanes and every other table keep what they hold until the reset ends (notes/assumptions/38.md). -/
def State.holdReset (s : State) : State :=
  { (allPorts.foldl State.holdPort s).dropPermitOut with fault := false, agenda := [] }

/-- A port whose line signal is already present begins PROVING (R150). -/
def State.startPort (s : State) (p : PortId) : State :=
  if (s.port p).signal then s.setPort p { s.port p with state := .proving, proving := some 0 } else s

/-- The end of the reset: every block at its power-on values, with the straps read and the levels the lines have (R178). -/
def State.beginOperation (s : State) (straps : BitVec 3) : State :=
  let s1 := { State.reset with
    pending := s.pending
    straps := straps
    permitIn := s.permitIn
    campaignHalt := s.campaignHalt
    ports := (allPorts.foldl State.holdPort s).ports
    draws := s.draws }
  allPorts.foldl State.startPort s1

end Sys2Proof.Machine
end

