-- ==== Sys2Proof/Machine/Manage.lean ====
section
/-! DEFINITION. The management handler: each request of R156, judged by its own rule (R43 to R51, R166, R167, R172 to R177,
R179). -/
namespace Sys2Proof.Machine

/-! ### Common handling (R174) -/

/-- The request the handler takes next: the oldest waiting, none while a swap check is in progress or in reset (R168,
R174, R178). -/
def State.nextRequest (s : State) : Option MgmtTel :=
  if s.inReset || s.swapCheck.isSome then none else s.requests.head?

/-- The handler takes the oldest waiting request, where it is one of a kind, and judges it. -/
def State.handle (s : State) (takes : MgmtTel → Bool) (judge : State → MgmtTel → State) : State :=
  match s.nextRequest with
  | some r => if takes r then judge (s.setRequests s.requests.tail) r else s
  | none => s

/-- A request carries a request code (enumeration 12). -/
def hasCode (n : Nat) (r : MgmtTel) : Bool := r.code.toNat == n

/-- A request whose body must be empty is judged, or rejected BAD_BODY (R174). -/
def State.withEmptyBody (s : State) (r : MgmtTel) (judge : State → MgmtTel → State) : State :=
  if r.body = [] then judge s r else s.reject r .badBody none

/-- A request whose body a reader reads is judged, or rejected BAD_BODY (R174). -/
def State.withBody {α : Type} (s : State) (r : MgmtTel) (read : List Byte → Option α)
    (judge : State → MgmtTel → α → State) : State :=
  match read r.body with
  | some x => judge s r x
  | none => s.reject r .badBody none

/-- The request code is none of enumeration 12 (R174). -/
def isUnknownRequest (r : MgmtTel) : Bool := r.code.toNat == 0 || decide (12 < r.code.toNat)

/-- An unknown request is rejected NOT_LEGAL (R174). -/
def State.rejectUnknown (s : State) (r : MgmtTel) : State := s.reject r .notLegal none

/-! ### Table requests (R166, R167) -/

/-- What the body of a WRITE_TABLE carries (R173). -/
structure WriteBody where
  table : TableId
  first : Nat
  count : Nat
  data : TableData
  deriving DecidableEq, Repr

/-- Reads the body of a WRITE_TABLE: table, first index, count and as many entries, all within 240 bytes (R173, R174). -/
def readWriteBody : List Byte → Option WriteBody
  | t :: h :: l :: c :: rest =>
    match TableId.ofCode t with
    | some t =>
      if 4 + c.toNat * entryWidth t ≤ 240 then
        (getEntries t c.toNat rest).map (fun d => ⟨t, (wordOf h l).toNat, c.toNat, d⟩)
      else none
    | none => none
  | _ => none

/-- The count is 1 to 16 and the last index named is an index of the table (R166). -/
def runInTable (t : TableId) (first count : Nat) : Bool :=
  decide (1 ≤ count) && decide (count ≤ 16) && decide (first + count - 1 < tableSize t)

/-- WRITE_TABLE (R166). -/
def State.judgeWrite (s : State) (r : MgmtTel) (b : WriteBody) : State :=
  if runInTable b.table b.first b.count then
    match b.data.firstBad with
    | some k => s.reject r .field (some ⟨b.table, b.first + k⟩)
    | none =>
      ((s.setBank s.standby ((s.bank s.standby).store b.first b.data)).setStandbyWritten true).accept r []
  else s.reject r .range none

/-- What the body of a READ_TABLE carries (R173). -/
structure ReadBody where
  bank : BankId
  table : TableId
  first : Nat
  count : Nat
  deriving DecidableEq, Repr

/-- Reads the body of a READ_TABLE, whose entries must fit a body of 240 bytes (R173, R174). -/
def readReadBody : List Byte → Option ReadBody
  | [b, t, h, l, c] =>
    match BankId.ofCode b, TableId.ofCode t with
    | some i, some t =>
      if c.toNat * entryWidth t ≤ 240 then some ⟨i, t, (wordOf h l).toNat, c.toNat⟩ else none
    | _, _ => none
  | _ => none

/-- A run of entries of a table. -/
def entryRun (t : TableId) (first count : Nat) : List EntryRef := (List.range count).map (fun i => ⟨t, first + i⟩)

/-- A fault met in a bank is an active fault where the bank is the active one (R165). -/
def State.bankFault (s : State) (i : BankId) (e : EntryRef) : State :=
  if s.active = some i then s.activeFault e else s

/-- READ_TABLE (R167). -/
def State.judgeRead (s : State) (r : MgmtTel) (b : ReadBody) : State :=
  if runInTable b.table b.first b.count then
    match (entryRun b.table b.first b.count).find? (fun e => !(s.bank b.bank).entryGood e) with
    | some e => (s.reject r .integrity (some e)).bankFault b.bank e
    | none => s.accept r ((entryRun b.table b.first b.count).flatMap (s.bank b.bank).putEntry)
  else s.reject r .range none

/-- COPY_TO_STANDBY (R167). DESIGN CHOICE: the active bank is read in the order of the tables of R164 and of the indices, which
R168 gives for the swap check alone, so that the faulty entry named is the first in that order (notes/assumptions/48.md). -/
def State.judgeCopy (s : State) (r : MgmtTel) : State :=
  if s.mode = .transparent then s.reject r .notLegal none
  else
    match s.activeBank.firstFault with
    | some e => (s.reject r .integrity (some e)).activeFault e
    | none => ((s.setBank s.standby s.activeBank).setStandbyWritten true).accept r []

/-! ### SWAP_BANKS and GO_TRANSPARENT (R168, R172) -/

/-- SWAP_BANKS: the check begins, and the response waits for its end (R168). -/
def State.judgeSwap (s : State) (r : MgmtTel) : State := s.setSwapCheck (some ⟨r.src, r.tag, 0⟩)

/-- The check in progress ends; without one nothing happens (R168 to R170). -/
def State.swapCheckEnds (s : State) : State :=
  if s.inReset then s
  else
    match s.swapCheck with
    | some c => s.endCheck c
    | none => s

/-- Every section is IDLE. -/
def State.allIdle (s : State) : Bool := sectionNumbers.all (fun n => s.phaseOf n == .idle)

/-- GO_TRANSPARENT (R172). -/
def State.judgeTransparent (s : State) (r : MgmtTel) : State :=
  if s.mode = .transparent then s.reject r .notLegal none
  else if s.campaign ≠ .outOfCampaign then s.reject r .notLegal none
  else if s.allIdle then (s.goTransparent).accept r []
  else s.reject r .inUse none

/-! ### PHASE (R43 to R45) -/

/-- Reads the body of a PHASE request: section and target phase (R173). -/
def readPhaseBody : List Byte → Option (Nat × Phase)
  | [n, t] => (Phase.ofCode t).map (fun t => (n.toNat, t))
  | _ => none

/-- One check of R43: what it reads, whether it passes, and what a failure is rejected with. -/
structure PhaseCheck where
  reads : List EntryRef
  passes : Bool
  code : Rejection
  deriving DecidableEq, Repr

/-- The checks in their order: what was read, and the first failure, after which none is applied (R43). -/
def runChecks : List PhaseCheck → List EntryRef × Option Rejection
  | [] => ([], none)
  | c :: rest => if c.passes then (c.reads ++ (runChecks rest).1, (runChecks rest).2) else (c.reads, some c.code)

/-- Checks 4 to 8 of R43. -/
def State.lineChecks (s : State) (n : Nat) (r : SectionRec) (q : Requirement) : List PhaseCheck :=
  [⟨[], !q.haltLine || !s.campaignHalt, .haltLine⟩,
   ⟨if q.dependents && r.role == .utility then sectionRefs else [],
    !q.dependents || r.role != .utility || (s.sectionsGood && s.dependentsFinished n), .inUse⟩,
   ⟨[], !q.needs || s.needsRunning r, .condition⟩,
   ⟨[], !q.permit || s.permitOk r, .permit⟩,
   ⟨if q.feeds then r.feeds.map (fun m => ⟨.sections, m⟩) else [], !q.feeds || s.feedsOpen r, .condition⟩]

/-- Checks 9 to 11 of R43. -/
def State.setChecks (s : State) (n : Nat) (r : SectionRec) (q : Requirement) : List PhaseCheck :=
  (match q.deciding with
   | some d =>
     [⟨s.optSetReads (r.deciding d), !s.staleBlocked r d, .stale⟩, ⟨[], s.decidingHolds r d, .condition⟩]
   | none => []) ++
  [⟨if q.drained then sectionRefs else [],
    !q.drained || (s.isConfirmed n && s.sectionsGood && s.feedersFinished n), .condition⟩]

/-- The requirement of a request that passes check 3 of R43, with the section's record. -/
def State.phaseLegal (s : State) (n : Nat) (t : Phase) : Option (SectionRec × Requirement) :=
  if n < 16 then
    match s.definedRec n with
    | some r =>
      match ladder (s.phaseOf n) t with
      | some q => if q.notWindDown && s.campaign == .windDown then none else some (r, q)
      | none => none
    | none => none
  else none

/-- Checks 4 to 11 of R43 for a legal request. -/
def State.phaseChecks (s : State) (n : Nat) (r : SectionRec) (q : Requirement) : List EntryRef × Option Rejection :=
  runChecks (s.lineChecks n r q ++ s.setChecks n r q)

/-- A rejected PHASE request; one rejected STALE sets the section's change mark (R44). -/
def State.rejectPhase (s : State) (r : MgmtTel) (n : Nat) (c : Rejection) : State :=
  (if c = .stale then s.markSection n else s).reject r c none

/-- PHASE (R43 to R45). The integrity faults its reads met are taken in the same event (R20, R24). -/
def State.judgePhase (s : State) (r : MgmtTel) (b : Nat × Phase) : State :=
  if s.mode = .transparent then s.reject r .notLegal none
  else if s.mode = .failHold then s.reject r .failHold none
  else
    match s.phaseLegal b.1 b.2 with
    | none => (if b.1 < 16 then s.checkReads [⟨.sections, b.1⟩] else s).reject r .notLegal none
    | some (rec, q) =>
      let checks := s.phaseChecks b.1 rec q
      match checks.2 with
      | some c => (s.checkReads checks.1).rejectPhase r b.1 c
      | none => ((s.checkReads checks.1).changePhase b.1 b.2 none).accept r []

/-! ### CAMPAIGN (R48 to R51) -/

/-- The three targets of a CAMPAIGN request, by the mode each asks for (R48, R173). -/
inductive CampaignTarget where
  | startUp | windDown | abandon
  deriving DecidableEq, Repr

/-- The mode a target asks for. -/
def CampaignTarget.mode : CampaignTarget → CampaignMode
  | .startUp => .startUp
  | .windDown => .windDown
  | .abandon => .outOfCampaign

/-- The body of a CAMPAIGN request: one campaign mode (R173). -/
def readCampaignBody : List Byte → Option CampaignMode
  | [b] => CampaignMode.ofCode b
  | _ => none

/-- The target a mode stands for in the body; IN_CAMPAIGN is none of the three. -/
def CampaignTarget.ofMode : CampaignMode → Option CampaignTarget
  | .startUp => some .startUp
  | .windDown => some .windDown
  | .outOfCampaign => some .abandon
  | .inCampaign => none

/-- The rejection of a CAMPAIGN request, if it is rejected (the table of R48). -/
def State.campaignRejection (s : State) : CampaignTarget → Option Rejection
  | .startUp =>
    match s.mode with
    | .transparent => some .notLegal
    | .failHold => some .failHold
    | .screening => if s.campaign = .outOfCampaign then none else some .notLegal
  | .windDown =>
    if s.mode ≠ .transparent ∧ (s.campaign = .startUp ∨ s.campaign = .inCampaign) then none else some .notLegal
  | .abandon => none

/-- A CAMPAIGN request for one of the three targets; an ABANDON in OUT_OF_CAMPAIGN changes no mode (R48, R51). -/
def State.judgeCampaignTarget (s : State) (r : MgmtTel) (t : CampaignTarget) : State :=
  match s.campaignRejection t with
  | some c => s.reject r c none
  | none => (if s.campaign = t.mode then s else s.changeCampaign t.mode).accept r []

/-- A CAMPAIGN request (R48, R174): a target other than the three is rejected NOT_LEGAL. -/
def State.judgeCampaign (s : State) (r : MgmtTel) (m : CampaignMode) : State :=
  match CampaignTarget.ofMode m with
  | some t => s.judgeCampaignTarget r t
  | none => s.reject r .notLegal none

/-- A request is a CAMPAIGN for a target, or a CAMPAIGN that names none of the three. -/
def isCampaign (t : CampaignTarget) (r : MgmtTel) : Bool :=
  hasCode 7 r &&
    match (readCampaignBody r.body).bind CampaignTarget.ofMode with
    | some u => u == t
    | none => true

/-! ### READ_STATUS (R175) -/

/-- An optional enumerated byte. -/
def putOptByte (o : Option Byte) : List (Option Byte) := optField 1 (o.map (fun x => known [x]))

/-- The four bytes of L or of F (R173). -/
def natBytes4 (n : Nat) : List Byte := clockBytes (BitVec.ofNat 32 n)

/-- The run-empty state, with its start time while COUNTING. -/
def putRunEmpty (e : RunEmpty) : List (Option Byte) :=
  known [RunEmpty.code e] ++
    optField 4 (match e with | .counting t => some (known (clockBytes t)) | _ => none)

/-- The accepting and delivering flags of a section: 0 for a section that is not a STORE (R33, R34). A damaged record is not used
(R165): of a RUNNING section the two flags are then free values, and of any other they are 0, DESIGN CHOICE
(notes/assumptions/45.md). -/
def State.storeFlags (s : State) (n : Nat) : List Byte :=
  match s.readSection n with
  | some r =>
    if r.defined && r.role == .store then [flagByte (s.accepting n r), flagByte (s.delivering n r)] else [0, 0]
  | none =>
    if s.phaseOf n = .running then
      [flagByte (Config.acceptingOnFault s.draws n), flagByte (Config.deliveringOnFault s.draws n)]
    else [0, 0]

/-- The items of one section. -/
def State.putSection (s : State) (n : Nat) : List (Option Byte) :=
  known [Phase.code (s.phaseOf n)] ++ putOptByte ((s.sect n).haltCause.map HaltCause.code) ++
    known [flagByte (s.sect n).mark] ++ putRunEmpty (s.sect n).runEmpty ++ known (s.storeFlags n)

/-- The items of one port. -/
def State.putPort (s : State) (p : PortId) : List (Option Byte) :=
  known [PortState.code (s.port p).state, flagByte (s.port p).linkLost, flagByte (s.port p).checkError,
    flagByte (s.port p).receiveRefused]

/-- The captured fields of R102. -/
def putCaptured (c : Captured) : List (Option Byte) :=
  known ([c.src, c.dest] ++ wordBytes c.point ++ [c.tag, c.action, RefusalReason.code c.reason] ++ clockBytes c.time)

/-- The refusal capture: present flag, MORE_REFUSALS and the captured fields, which are open where it is empty. -/
def State.putCapture (s : State) : List (Option Byte) :=
  known [flagByte s.capture.isSome, flagByte s.moreRefusals] ++
    match s.capture with
    | some c => putCaptured c
    | none => List.replicate 11 none

/-- The figures of the part: held count, entries in use, R, V, period number, L, F, answer debt and NOTICE_LOST. -/
def State.putFigures (s : State) : List (Option Byte) :=
  known ([natByte s.held.length, natByte (s.partCount .general), natByte (s.partCount .priority)] ++
    natBytes s.remaining ++ natBytes s.unusedReserve ++ natBytes s.periodNumber ++ natBytes4 s.load ++
    natBytes4 s.pledgeSum ++ [natByte s.debt, flagByte s.noticeLost])

/-- The content of the status response (R175). -/
def State.statusBody (s : State) : List (Option Byte) :=
  known [PartMode.code s.mode, CampaignMode.code s.campaign] ++ putOptByte (s.active.map BankId.code) ++
    known [flagByte s.standbyWritten] ++ sectionNumbers.flatMap s.putSection ++ allPorts.flatMap s.putPort ++
    s.putFigures ++ s.putCapture

/-- READ_STATUS (R175): the items as they stand, then the flags, NOTICE_LOST and the section marks cleared. The free flags of
damaged records are one draw. DESIGN CHOICE: the mark of a HALTED section is cleared with the other 15, by R23 and R175, where
R77 has it keep the mark until it leaves HALTED (notes/assumptions/49.md). -/
def State.judgeStatus (s : State) (r : MgmtTel) : State :=
  let s1 := s.countDraw.clearFlags.clearSectionMarks.setNoticeLost false
  (s1.accept r s.statusBody).checkReads sectionRefs

/-! ### READ_IMAGE and CLEAR_MARKS (R176) -/

/-- What the body of a READ_IMAGE carries. -/
structure ImageBody where
  first : Nat
  count : Nat
  clear : Bool
  deriving DecidableEq, Repr

/-- Reads the body of a READ_IMAGE (R173, R176). -/
def readImageBody : List Byte → Option ImageBody
  | [h, l, c, f] => (getFlag [f]).map (fun x => ⟨(wordOf h l).toNat, c.toNat, x.1⟩)
  | _ => none

/-- The items of one point (R176). -/
def putPoint (d : PointDyn) : List (Option Byte) :=
  (match d.report with
   | some r => known (ReportState.code r.state :: wordBytes r.value)
   | none => known [0xFF, 0, 0]) ++
  known [flagByte d.fresh, flagByte d.mark, natByte d.tally] ++
  optField 2 (d.setPoint.map (fun v => known (wordBytes v.1)))

/-- The content of a READ_IMAGE response. -/
def State.imageBody (s : State) (first count : Nat) : List (Option Byte) :=
  (List.range count).flatMap (fun i => putPoint (s.point (first + i)))

/-- A count of 1 to `most` points from `first` that does not run beyond logical point 2047. -/
def pointRun (most first count : Nat) : Bool :=
  decide (1 ≤ count) && decide (count ≤ most) && decide (first + count ≤ 2048)

/-- READ_IMAGE (R176). -/
def State.judgeImage (s : State) (r : MgmtTel) (b : ImageBody) : State :=
  if pointRun 26 b.first b.count then
    (if b.clear then s.clearPointMarks b.first b.count else s).accept r (s.imageBody b.first b.count)
  else s.reject r .range none

/-- What the body of a CLEAR_MARKS carries. -/
structure MarksBody where
  range : Bool
  first : Nat
  count : Nat
  capture : Bool
  deriving DecidableEq, Repr

/-- Reads the body of a CLEAR_MARKS (R173, R176). -/
def readMarksBody : List Byte → Option MarksBody
  | [f, h, l, c1, c0, g] =>
    match getFlag [f], getFlag [g] with
    | some f, some g => some ⟨f.1, (wordOf h l).toNat, (wordOf c1 c0).toNat, g.1⟩
    | _, _ => none
  | _ => none

/-- The capture is emptied and MORE_REFUSALS cleared (R103). -/
def State.emptyCapture (s : State) : State := { s with capture := none, moreRefusals := false }

/-- CLEAR_MARKS (R176). -/
def State.judgeMarks (s : State) (r : MgmtTel) (b : MarksBody) : State :=
  if !b.range && !b.capture then s.reject r .badBody none
  else if b.range && !pointRun 2048 b.first b.count then s.reject r .range none
  else
    let s1 := if b.range then s.clearPointMarks b.first b.count else s
    (if b.capture then s1.emptyCapture else s1).accept r []

/-! ### SET_NOTICES and RESET_PART (R177, R179) -/

/-- Reads the body of a SET_NOTICES: the seven mask flags in code order and the optional destination (R173, R177). -/
def readNoticesBody (bs : List Byte) : Option (List NoticeKind × Option Byte) :=
  match getMany getFlag 7 bs with
  | some (flags, rest) =>
    match getOpt 1 getByte rest with
    | some (dest, []) =>
      some (((allNoticeKinds.zip flags).filter Prod.snd).map Prod.fst, dest)
    | _ => none
  | none => none

/-- SET_NOTICES (R177). -/
def State.judgeNotices (s : State) (r : MgmtTel) (b : List NoticeKind × Option Byte) : State :=
  if b.2 = some 0 ∨ b.2 = some s.station then s.reject r .field none
  else ({ s with noticeMask := b.1, noticeDest := b.2 }).accept r []

/-- RESET_PART (R179). -/
def State.judgeReset (s : State) (r : MgmtTel) : State :=
  if s.mode = .failHold then s.reject r .failHold none
  else if s.campaign ≠ .outOfCampaign then s.reject r .notLegal none
  else s.resetPart.accept r []

end Sys2Proof.Machine
end

