-- ==== Sys2Proof/Machine/Lines.lean ====
section
/-! DEFINITION. The discrete lines: PERMIT-IN, CAMPAIGN-HALT and the two conditions of the reset (R41, R61, R66, R67,
R178). -/
namespace Sys2Proof.Machine

/-- The sections of the active bank that name PERMIT-IN line `k`. -/
def State.permitSections (s : State) (k : Nat) : List Nat :=
  sectionNumbers.filter (fun n =>
    match s.definedRec n with
    | some r => r.permitIn == some k
    | none => false)

/-- What a change of PERMIT-IN line `k` starts: at a deassertion the PERMIT_LOST halts, then the re-examinations and a scan
(R41, R66). -/
def State.permitTasks (s : State) (k : Nat) (level : Bool) : List Task :=
  (if level then [] else (s.permitSections k).map (fun n => Task.haltFirst n .permitLost)) ++
    (s.permitSections k).map Task.reexamine ++ [.scan]

/-- A change of level of PERMIT-IN line `k` (R41, R66). In TRANSPARENT and in reset the line has its level and no change is
taken. -/
def State.changePermitIn (s : State) (k : Nat) (level : Bool) : State :=
  if 4 ≤ k ∨ s.permitInLevel k = level then s
  else
    let s1 := { s with permitIn := Store.write false s.permitIn k level }
    if s.inReset || s.mode = .transparent then s1
    else
      let s2 := s1.checkReads sectionRefs
      s2.addTasks (s2.permitTasks k level)

/-- The assertion of CAMPAIGN-HALT: every section in WARMING, READY, RUNNING or DRAINING halts, and every section is
re-examined (R32, R67). In TRANSPARENT and in reset the line has its level and is not taken. -/
def State.assertHalt (s : State) : State :=
  if s.campaignHalt then s
  else
    let s1 := { s with campaignHalt := true }
    if s.inReset || s.mode = .transparent then s1
    else s1.addTasks (sectionNumbers.map (fun n => Task.halt n .externalHalt) ++ reexamineAll)

/-- The deassertion of CAMPAIGN-HALT: every section is re-examined (R61). -/
def State.deassertHalt (s : State) : State :=
  if s.campaignHalt then
    let s1 := { s with campaignHalt := false }
    if s.inReset || s.mode = .transparent then s1 else s1.addTasks reexamineAll
  else s

/-- A condition of the reset sets in: the part is held in reset (R178). -/
def State.assertReset (s : State) : ResetCause → State
  | .supply => { s with supplyBad := true }.holdReset
  | .line => { s with resetLine := true }.holdReset

/-- A condition of the reset ends. -/
def State.endCause (s : State) : ResetCause → State
  | .supply => { s with supplyBad := false }
  | .line => { s with resetLine := false }

/-- A condition of the reset ends; when neither is left the part begins operation, with the straps as they then are (R157,
R178). -/
def State.releaseReset (s : State) (c : ResetCause) (straps : BitVec 3) : State :=
  if s.inReset then
    if (s.endCause c).inReset then s.endCause c else (s.endCause c).beginOperation straps
  else s

end Sys2Proof.Machine
end

