-- ==== Sys2Proof/Machine/Telegrams.lean ====
section
/-! DEFINITION. The meanings of the telegram commands: what arrives at a port (R11, R82, R141, R153, R158, R159, R161). -/
namespace Sys2Proof.Machine

/-- ORDER (R82, R159, R161): an ORDER arrives on UP. -/
def execOrder (tel : PointTel) (s : State) : Host.Outcome State Fault Refusal :=
  .next (s.arriveUp (.point .order tel)).settled

/-- REPORT (R11, R159): a REPORT arrives on a DN port. -/
def execReport (d : DnPort) (tel : PointTel) (s : State) : Host.Outcome State Fault Refusal :=
  .next (s.arriveDn d (.point .report tel)).settled

/-- REPLY (R141, R159): a REPLY arrives on a DN port. -/
def execReply (d : DnPort) (tel : PointTel) (s : State) : Host.Outcome State Fault Refusal :=
  .next (s.arriveDn d (.point .reply tel)).settled

/-- TRANSPARENT_REPEAT (R158): a telegram arrives on UP, to be repeated in TRANSPARENT. -/
def execTransparentRepeat (tel : Telegram) (s : State) : Host.Outcome State Fault Refusal :=
  .next (s.arriveUp tel).settled

/-- TRANSPARENT_FORWARD (R158): a telegram arrives on a DN port, to be forwarded in TRANSPARENT. -/
def execTransparentForward (d : DnPort) (tel : Telegram) (s : State) : Host.Outcome State Fault Refusal :=
  .next (s.arriveDn d tel).settled

/-- TELEGRAM_DISCARDED (R150, R159): a telegram arrives on a port; one the port does not take is discarded. -/
def execTelegramDiscarded (p : PortId) (tel : Telegram) (s : State) : Host.Outcome State Fault Refusal :=
  .next (s.arrive p tel).settled

/-- CHECK_ERROR (R153, R154): a reception ends on a port. -/
def execCheckError (p : PortId) (rx : Reception) (s : State) : Host.Outcome State Fault Refusal :=
  .next (s.receive p rx).settled

/-- MGMT_REQUEST_INTAKE (R161): a MGMT_REQUEST arrives on UP. -/
def execMgmtRequestIntake (tel : MgmtTel) (s : State) : Host.Outcome State Fault Refusal :=
  .next (s.arriveUp (.mgmt .request tel)).settled

end Sys2Proof.Machine
end

