-- ==== Sys2Proof/Machine/Requests.lean ====
section
/-! DEFINITION. The meanings of the management commands: the handler takes the oldest waiting request (R174). -/
namespace Sys2Proof.Machine

/-- UNKNOWN_REQUEST (R174). -/
def execUnknownRequest (s : State) : Host.Outcome State Fault Refusal :=
  .next (s.handle isUnknownRequest State.rejectUnknown).settled

/-- WRITE_TABLE (R166). -/
def execWriteTable (s : State) : Host.Outcome State Fault Refusal :=
  .next (s.handle (hasCode 1) (fun s r => s.withBody r readWriteBody State.judgeWrite)).settled

/-- READ_TABLE (R167). -/
def execReadTable (s : State) : Host.Outcome State Fault Refusal :=
  .next (s.handle (hasCode 2) (fun s r => s.withBody r readReadBody State.judgeRead)).settled

/-- COPY_TO_STANDBY (R167). -/
def execCopyToStandby (s : State) : Host.Outcome State Fault Refusal :=
  .next (s.handle (hasCode 3) (fun s r => s.withEmptyBody r State.judgeCopy)).settled

/-- SWAP_BANKS (R168). -/
def execSwapBanks (s : State) : Host.Outcome State Fault Refusal :=
  .next (s.handle (hasCode 4) (fun s r => s.withEmptyBody r State.judgeSwap)).settled

/-- SWAP_CHECK_END (R168 to R170). -/
def execSwapCheckEnd (s : State) : Host.Outcome State Fault Refusal :=
  .next (s.swapCheckEnds).settled

/-- GO_TRANSPARENT (R172). -/
def execGoTransparent (s : State) : Host.Outcome State Fault Refusal :=
  .next (s.handle (hasCode 5) (fun s r => s.withEmptyBody r State.judgeTransparent)).settled

/-- PHASE (R43 to R45). -/
def execPhase (s : State) : Host.Outcome State Fault Refusal :=
  .next (s.handle (hasCode 6) (fun s r => s.withBody r readPhaseBody State.judgePhase)).settled

/-- CAMPAIGN_START_UP (R48, R49). -/
def execCampaignStartUp (s : State) : Host.Outcome State Fault Refusal :=
  .next (s.handle (isCampaign .startUp) (fun s r => s.withBody r readCampaignBody State.judgeCampaign)).settled

/-- CAMPAIGN_WIND_DOWN (R48, R50). -/
def execCampaignWindDown (s : State) : Host.Outcome State Fault Refusal :=
  .next (s.handle (isCampaign .windDown) (fun s r => s.withBody r readCampaignBody State.judgeCampaign)).settled

/-- CAMPAIGN_ABANDON (R48, R51). -/
def execCampaignAbandon (s : State) : Host.Outcome State Fault Refusal :=
  .next (s.handle (isCampaign .abandon) (fun s r => s.withBody r readCampaignBody State.judgeCampaign)).settled

/-- READ_STATUS (R175). -/
def execReadStatus (s : State) : Host.Outcome State Fault Refusal :=
  .next (s.handle (hasCode 8) (fun s r => s.withEmptyBody r State.judgeStatus)).settled

/-- READ_IMAGE (R176). -/
def execReadImage (s : State) : Host.Outcome State Fault Refusal :=
  .next (s.handle (hasCode 9) (fun s r => s.withBody r readImageBody State.judgeImage)).settled

/-- CLEAR_MARKS (R176). -/
def execClearMarks (s : State) : Host.Outcome State Fault Refusal :=
  .next (s.handle (hasCode 10) (fun s r => s.withBody r readMarksBody State.judgeMarks)).settled

/-- SET_NOTICES (R177). -/
def execSetNotices (s : State) : Host.Outcome State Fault Refusal :=
  .next (s.handle (hasCode 11) (fun s r => s.withBody r readNoticesBody State.judgeNotices)).settled

/-- RESET_PART (R179). -/
def execResetPart (s : State) : Host.Outcome State Fault Refusal :=
  .next (s.handle (hasCode 12) (fun s r => s.withEmptyBody r State.judgeReset)).settled

end Sys2Proof.Machine
end

