-- ==== Sys2Proof/Machine/Discrete.lean ====
section
/-! DEFINITION. The meanings of the discrete line commands (R41, R61, R66, R67, R178). -/
namespace Sys2Proof.Machine

/-- PERMIT_IN_CHANGE (R41, R66). -/
def execPermitInChange (line : Nat) (level : Bool) (s : State) : Host.Outcome State Fault Refusal :=
  .next (s.changePermitIn line level).settled

/-- CAMPAIGN_HALT_ASSERTED (R67). -/
def execCampaignHaltAsserted (s : State) : Host.Outcome State Fault Refusal :=
  .next (s.assertHalt).settled

/-- CAMPAIGN_HALT_DEASSERTED (R61). -/
def execCampaignHaltDeasserted (s : State) : Host.Outcome State Fault Refusal :=
  .next (s.deassertHalt).settled

/-- RESET_ASSERTED (R178). -/
def execResetAsserted (c : ResetCause) (s : State) : Host.Outcome State Fault Refusal :=
  .next (s.assertReset c).settled

/-- RESET_RELEASED (R178). -/
def execResetReleased (c : ResetCause) (straps : BitVec 3) (s : State) : Host.Outcome State Fault Refusal :=
  .next (s.releaseReset c straps).settled

end Sys2Proof.Machine
end

