-- ==== Sys2Proof/Machine/Signals.lean ====
section
/-! DEFINITION. The meanings of the line signal commands of the five ports (R150, R151). -/
namespace Sys2Proof.Machine

/-- LINE_SIGNAL_APPEARS (R150). -/
def execLineSignalAppears (p : PortId) (s : State) : Host.Outcome State Fault Refusal :=
  .next (s.signalOn p).settled

/-- PROVING_SIGNAL_ABSENT (R150). -/
def execProvingSignalAbsent (p : PortId) (s : State) : Host.Outcome State Fault Refusal :=
  .next (s.signalOff p).settled

/-- PROVING_TIMER_EXPIRY (R150, R151). -/
def execProvingTimerExpiry (p : PortId) (s : State) : Host.Outcome State Fault Refusal :=
  .next (s.provingExpires p).settled

/-- LINE_SIGNAL_LOST (R150). -/
def execLineSignalLost (p : PortId) (s : State) : Host.Outcome State Fault Refusal :=
  .next (s.signalOff p).settled

/-- LINE_SIGNAL_RETURNS (R150). -/
def execLineSignalReturns (p : PortId) (s : State) : Host.Outcome State Fault Refusal :=
  .next (s.signalOn p).settled

/-- LOSS_TIMER_EXPIRY (R150, R151). -/
def execLossTimerExpiry (p : PortId) (s : State) : Host.Outcome State Fault Refusal :=
  .next (s.lossExpires p).settled

end Sys2Proof.Machine
end

