-- ==== Sys2Proof/Machine/Timers.lean ====
section
/-! DEFINITION. The meanings of the timer commands (R15, R38, R40, R101, R107, R129, R145). -/
namespace Sys2Proof.Machine

/-- STALE_TIMER_EXPIRY (R15). -/
def execStaleTimerExpiry (point : Nat) (s : State) : Host.Outcome State Fault Refusal :=
  .next (s.outOfReset (fun s => s.staleExpires point)).settled

/-- CONFIRMATION_TIMER_EXPIRY (R38). -/
def execConfirmationTimerExpiry (sect : Nat) (s : State) : Host.Outcome State Fault Refusal :=
  .next (s.outOfReset (fun s => s.confirmExpires sect)).settled

/-- OVERDUE_TIMER_EXPIRY (R40). -/
def execOverdueTimerExpiry (sect : Nat) (s : State) : Host.Outcome State Fault Refusal :=
  .next (s.outOfReset (fun s => s.overdueExpires sect)).settled

/-- PERIOD_BOUNDARY (R107, R108). -/
def execPeriodBoundary (s : State) : Host.Outcome State Fault Refusal :=
  .next (s.outOfReset State.periodExpires).settled

/-- TALLY_DECAY (R101). -/
def execTallyDecay (s : State) : Host.Outcome State Fault Refusal :=
  .next (s.outOfReset State.tallyExpires).settled

/-- HOLD_EXPIRED (R129). -/
def execHoldExpired (dest : Byte) (point : Word) (s : State) : Host.Outcome State Fault Refusal :=
  .next (s.outOfReset (fun s => s.holdExpires dest point)).settled

/-- REPLY_TIMEOUT (R145). -/
def execReplyTimeout (seq : Nat) (s : State) : Host.Outcome State Fault Refusal :=
  .next (s.outOfReset (fun s => s.replyExpires seq)).settled

end Sys2Proof.Machine
end

