-- ==== Sys2Proof/Machine/Transmit.lean ====
section
/-! DEFINITION. The meanings of the transmitter commands (R140, R162, R163). -/
namespace Sys2Proof.Machine

/-- TRANSMISSION (R140, R163). -/
def execTransmission (d : DnPort) (s : State) : Host.Outcome State Fault Refusal :=
  .next (s.transmitNext d).settled

/-- REPEAT_LANE_SEND (R163). -/
def execRepeatLaneSend (d : DnPort) (s : State) : Host.Outcome State Fault Refusal :=
  .next (s.repeatNext d).settled

/-- UP_TRANSMIT_START (R162). -/
def execUpTransmitStart (s : State) : Host.Outcome State Fault Refusal :=
  .next (s.upStart).settled

/-- UP_TRANSMIT_END (R162). -/
def execUpTransmitEnd (s : State) : Host.Outcome State Fault Refusal :=
  .next (s.upEnd).settled

end Sys2Proof.Machine
end

