-- ==== Sys2Proof/Machine/Dispatch.lean ====
section
/-! DEFINITION. The one dispatch from a command to its meaning. -/
namespace Sys2Proof.Machine

def exec (i : Instr) (s : State) : Host.Outcome State Fault Refusal :=
  match i with
  | .order tel => Sys2Proof.Machine.execOrder tel s
  | .report d tel => Sys2Proof.Machine.execReport d tel s
  | .reply d tel => Sys2Proof.Machine.execReply d tel s
  | .transparentRepeat tel => Sys2Proof.Machine.execTransparentRepeat tel s
  | .transparentForward d tel => Sys2Proof.Machine.execTransparentForward d tel s
  | .telegramDiscarded p tel => Sys2Proof.Machine.execTelegramDiscarded p tel s
  | .checkError p rx => Sys2Proof.Machine.execCheckError p rx s
  | .mgmtRequestIntake tel => Sys2Proof.Machine.execMgmtRequestIntake tel s
  | .unknownRequest => Sys2Proof.Machine.execUnknownRequest s
  | .writeTable => Sys2Proof.Machine.execWriteTable s
  | .readTable => Sys2Proof.Machine.execReadTable s
  | .copyToStandby => Sys2Proof.Machine.execCopyToStandby s
  | .swapBanks => Sys2Proof.Machine.execSwapBanks s
  | .swapCheckEnd => Sys2Proof.Machine.execSwapCheckEnd s
  | .goTransparent => Sys2Proof.Machine.execGoTransparent s
  | .phase => Sys2Proof.Machine.execPhase s
  | .campaignStartUp => Sys2Proof.Machine.execCampaignStartUp s
  | .campaignWindDown => Sys2Proof.Machine.execCampaignWindDown s
  | .campaignAbandon => Sys2Proof.Machine.execCampaignAbandon s
  | .readStatus => Sys2Proof.Machine.execReadStatus s
  | .readImage => Sys2Proof.Machine.execReadImage s
  | .clearMarks => Sys2Proof.Machine.execClearMarks s
  | .setNotices => Sys2Proof.Machine.execSetNotices s
  | .resetPart => Sys2Proof.Machine.execResetPart s
  | .permitInChange line level => Sys2Proof.Machine.execPermitInChange line level s
  | .campaignHaltAsserted => Sys2Proof.Machine.execCampaignHaltAsserted s
  | .campaignHaltDeasserted => Sys2Proof.Machine.execCampaignHaltDeasserted s
  | .resetAsserted c => Sys2Proof.Machine.execResetAsserted c s
  | .resetReleased c straps => Sys2Proof.Machine.execResetReleased c straps s
  | .lineSignalAppears p => Sys2Proof.Machine.execLineSignalAppears p s
  | .provingSignalAbsent p => Sys2Proof.Machine.execProvingSignalAbsent p s
  | .provingTimerExpiry p => Sys2Proof.Machine.execProvingTimerExpiry p s
  | .lineSignalLost p => Sys2Proof.Machine.execLineSignalLost p s
  | .lineSignalReturns p => Sys2Proof.Machine.execLineSignalReturns p s
  | .lossTimerExpiry p => Sys2Proof.Machine.execLossTimerExpiry p s
  | .staleTimerExpiry point => Sys2Proof.Machine.execStaleTimerExpiry point s
  | .confirmationTimerExpiry sect => Sys2Proof.Machine.execConfirmationTimerExpiry sect s
  | .overdueTimerExpiry sect => Sys2Proof.Machine.execOverdueTimerExpiry sect s
  | .periodBoundary => Sys2Proof.Machine.execPeriodBoundary s
  | .tallyDecay => Sys2Proof.Machine.execTallyDecay s
  | .holdExpired dest point => Sys2Proof.Machine.execHoldExpired dest point s
  | .replyTimeout seq => Sys2Proof.Machine.execReplyTimeout seq s
  | .transmission d => Sys2Proof.Machine.execTransmission d s
  | .repeatLaneSend d => Sys2Proof.Machine.execRepeatLaneSend d s
  | .upTransmitStart => Sys2Proof.Machine.execUpTransmitStart s
  | .upTransmitEnd => Sys2Proof.Machine.execUpTransmitEnd s

end Sys2Proof.Machine
end

