-- ==== Sys2Proof/Machine/Clock.lean ====
section
/-! DEFINITION. What a millisecond does when no command waits: the part clock and the line timers count, and the timers that
have run their length expire (scope file, section 5.1; R150, R168). -/
namespace Sys2Proof.Machine

/-- The line timers of a port count a millisecond (R150). -/
def Port.tick (v : Port) : Port := { v with proving := v.proving.map (· + 1), loss := v.loss.map (· + 1) }

/-- The line timers of every port count a millisecond. -/
def State.tickPorts (s : State) : State := { s with ports := s.ports.map (fun e => (e.1, e.2.tick)) }

/-- A swap check in progress counts a millisecond (R168). -/
def State.tickSwap (s : State) : State :=
  { s with swapCheck := s.swapCheck.map (fun c : SwapCheck => { c with elapsed := c.elapsed + 1 }) }

/-- The part clock counts one at every hundredth millisecond (scope file, section 5.1). -/
def State.tickClock (s : State) : State :=
  if s.subMs + 1 < 100 then { s with subMs := s.subMs + 1 } else { s with subMs := 0, clock := s.clock + 1 }

/-- The telegram in transmission on a DN port may end in the millisecond, a free value, and the line is then free (R163,
notes/assumptions/20.md). -/
def State.freeLine (s : State) (d : DnPort) : State :=
  if (s.port (.dn d)).line.isNone then s
  else if Config.transmissionEnds s.draws then (s.setPort (.dn d) { s.port (.dn d) with line := none }).countDraw
  else s.countDraw

/-- The DN lines on which a transmission ends are freed. -/
def State.freeLines (s : State) : State := allDnPorts.foldl State.freeLine s

/-- The line timers that have expired, and the swap check at its longest (R150, R168). -/
def State.dueLines (s : State) : List Instr :=
  (allPorts.filter (fun p => (s.port p).provingDue)).map Instr.provingTimerExpiry ++
  (allPorts.filter (fun p => (s.port p).lossDue)).map Instr.lossTimerExpiry ++
  (match s.swapCheck with
   | some c => if Config.swapCheckMs ≤ c.elapsed then [.swapCheckEnd] else []
   | none => [])

/-- The timers of the points and sections that have expired (R15, R38, R40). -/
def State.duePoints (s : State) : List Instr :=
  ((s.image.map Prod.fst).filter s.staleDue).map Instr.staleTimerExpiry ++
  (sectionNumbers.filter s.confirmDue).map Instr.confirmationTimerExpiry ++
  (sectionNumbers.filter (fun n => s.overdueUnder (s.activeBank.sec n) n)).map Instr.overdueTimerExpiry

/-- The period and tally timers and the timers of orders that have expired (R101, R107, R129, R145). -/
def State.dueOrders (s : State) : List Instr :=
  (match s.periodTimer with
   | some t => if s.timerDue 1 t then [.periodBoundary] else []
   | none => []) ++
  (match s.tallyTimer with
   | some t => if s.timerDue 600 t then [.tallyDecay] else []
   | none => []) ++
  (s.held.filter s.holdDue).map (fun h => Instr.holdExpired h.tel.dest h.tel.point) ++
  (s.entries.filter s.replyDue).map (fun e => Instr.replyTimeout e.seq)

/-- Every timer that has expired, as its command. -/
def State.dueCommands (s : State) : List Instr := s.dueLines ++ s.duePoints ++ s.dueOrders

/-- The expiries of one instant are taken in an order the part does not state: they join the queue in a free order. -/
def State.queueDue (s : State) : State :=
  let r := shuffle s.dueCommands.length s.dueCommands s
  { r.2 with pending := r.2.pending ++ r.1 }

/-- A millisecond passes with no command waiting; in reset the clock and every timer stand (R178). -/
def State.idle (s : State) : State := if s.inReset then s else s.tickPorts.tickSwap.tickClock.freeLines.queueDue

end Sys2Proof.Machine
end

