-- ==== Sys2Proof/Safety.lean ====
section
/-! DEFINITION. What counts as a sound state, in the terms the statements use: the laws every step keeps, and the standing
conditions under which a command has its effect. -/
namespace Sys2Proof.Machine

/-! ### Standing conditions -/

/-- Between events and out of reset: nothing an event started is left to take. -/
def State.atRest (s : State) : Prop := s.inReset = false ∧ s.agenda = []

/-- A port takes telegrams and transmits: the part is at rest and the port UP (R150). -/
def State.portReady (s : State) (p : PortId) : Prop := s.atRest ∧ (s.port p).state = .up

/-- A bank is active: the part is in SCREENING or FAIL_HOLD (R164). -/
def State.banked (s : State) : Prop := s.mode ≠ .transparent

/-- Request `r` is the one the handler takes next, with `rest` waiting behind it (R174). -/
def State.turnOf (s : State) (r : MgmtTel) (rest : List MgmtTel) : Prop :=
  s.atRest ∧ s.swapCheck = none ∧ s.requests = r :: rest

/-- Request `r` has left the waiting requests, and its response with a code and a body fills the oldest reserved place
(R161, R174). -/
def State.answered (s : State) (r : MgmtTel) (rest : List MgmtTel) (code : Byte) (body : List Byte) : State :=
  { s with requests := rest, upQueue := fillPlace s.upQueue ⟨r.src, s.station, r.tag, code, body⟩ }

/-- Request `r` is answered REJECTED with a code, naming no entry (R174). -/
def State.rejectedWith (s : State) (r : MgmtTel) (rest : List MgmtTel) (c : Rejection) : State :=
  s.answered r rest 1 [Rejection.code c, 0, 0, 0]

/-- The state after the telegram of an order's REFUSAL has joined the UP transmit queue and the refusal capture has taken it
(R82, R102). -/
def State.refusedWith (s : State) (o : PointTel) (r : RefusalReason) : State :=
  { s with
    upQueue := upJoin s.upQueue (.answer (.point .refusal
      ⟨o.src, s.station, o.tag, o.point, RefusalReason.code r, 0, o.dest.setWidth 16⟩))
    capture := if s.capture.isSome then s.capture
      else some ⟨o.src, o.dest, o.point, o.tag, o.code, r, s.clock⟩
    moreRefusals := if s.capture.isSome then true else s.moreRefusals }

/-- An ORDER on UP is to be screened: a bank is active, the order is not addressed to the part, and the answer debt is below
its limit (R82, R159, R161). -/
structure State.Screens (s : State) (o : PointTel) : Prop where
  ready : s.portReady .up
  banked : s.banked
  elsewhere : o.dest ≠ s.station
  room : s.debt < 120

/-- Steps 1 and 2 hand the order on: its covering window `w` with the window's port UP and not PROTECTED, its static part
`st`, and its action `a`, which the class takes (R84, R85). -/
structure State.HandsOn (s : State) (o : PointTel) (w : Window) (st : PointStatic) (a : Action) : Prop where
  single : o.dest ≠ 255
  covered : ∃ i, s.covering o.dest o.point = .window i w
  portUp : (s.port (.dn w.port)).state = .up
  unguarded : w.guarded = false
  static : s.readPoint (w.logicalOf o.point.toNat) = some st
  action : Action.ofCode o.code = some a
  takes : st.cls.takes a = true

/-- No order is held for a logical point. -/
def State.noneHeld (s : State) (p : Nat) : Prop := ∀ h ∈ s.held, h.point ≠ some p

/-- Steps 4 to 8 hand an order of section `n` with record `r` on, with its row (R87 to R89). -/
structure State.RowPasses (s : State) (o : PointTel) (p : Nat) (st : PointStatic) (a : Action) (n : Nat) (r : SectionRec)
    (row : ScreenRow) : Prop where
  mode : s.mode = .screening
  newTag : ∀ e ∈ s.entries, ¬ (s.entrySource e = o.src ∧ e.dest = o.dest ∧ e.tag = o.tag ∧ e.point = o.point)
  sect : st.sect = some n
  record : s.readSection n = some r
  rowRead : s.readRow (rowIndex r.profile (s.phaseOf n) a) = some row
  pass : row.base = .pass
  good : ∀ e ∈ s.optSetReads row.condSet, s.activeBank.entryGood e = true
  holds : s.setHoldsOr true row.condSet = true
  free : ∀ e ∈ s.entries, ¬ (e.part = .general ∧ e.logical = some p)

/-- The outstanding entry made for a supervisory order (R86, R96). -/
def State.entryFor (s : State) (k : EntryPart) (o : PointTel) (w : Window) (a : Action) (v : Word) (pledge : Option Nat)
    (shaped : Bool) : Entry where
  seq := s.nextSeq
  part := k
  origin := .supervisory o.src
  dest := o.dest
  point := o.point
  tag := o.tag
  action := a
  value := v
  logical := some (w.logicalOf o.point.toNat)
  port := w.port
  lane := .queued
  timeout := w.replyTimeout
  pledge := pledge
  shaped := shaped

/-- The section records of the active bank all read good. -/
def State.recordsGood (s : State) : Prop := ∀ n < 16, (s.activeBank.sectionRec n).good = true

/-! ### Laws of the state -/

/-- The part mode, the markers and the outputs agree (R164, R170 to R172, R178). -/
structure State.ModeLaw (s : State) : Prop where
  transparent : s.mode = .transparent ↔ s.active = none
  standby : ∀ i, s.active = some i → s.standby = i.other
  fault : s.inReset = false → (s.fault = true ↔ s.mode = .failHold)
  held : s.inReset = true → s.fault = false ∧ s.agenda = [] ∧ (∀ k < 4, s.permitOutLevel k = false) ∧
    ∀ p, (s.port p).state = .down

/-- The halt cause is present exactly while a section is HALTED, and only a DRAINING section is counting or confirmed
(R22, section 2.6). -/
structure State.SectionLaw (s : State) : Prop where
  cause : ∀ n, (s.sect n).haltCause.isSome = true ↔ (s.sect n).phase = .halted
  empty : ∀ n, (s.sect n).phase ≠ .draining → (s.sect n).runEmpty = .notCounting

/-- Every tally lies in 0 to 15, and a FRESH point has a reported state (R9, R25). -/
structure State.PointLaw (s : State) : Prop where
  tally : ∀ p, (s.point p).tally ≤ 15
  fresh : ∀ p, (s.point p).fresh = true → (s.point p).report.isSome = true

/-- The pledge sum F is the sum of the pledges of the outstanding entries, which stand in their order of creation (R112,
R137). -/
structure State.PledgeLaw (s : State) : Prop where
  sum : s.pledgeSum = (s.entries.map Entry.pledged).sum
  order : s.entries.Pairwise (fun x y => x.seq < y.seq)
  next : ∀ e ∈ s.entries, e.seq < s.nextSeq

/-- V never exceeds R, R never exceeds the allowance of the active bank, and both are 0 in TRANSPARENT, where the empty bank's
allowance stands (R106); with what of the active bank this rests on: its reserve does not exceed its allowance (R169). -/
structure State.BudgetLaw (s : State) : Prop where
  reserve : s.unusedReserve ≤ s.remaining
  allowance : s.remaining ≤ s.activeBank.budget.content.allowance
  record : s.activeBank.budget.content.reserve ≤ s.activeBank.budget.content.allowance

/-- The load account L is the sum of the rated loads of the DRIVE points the image shows STARTING or RUNNING (R111), and in
TRANSPARENT every dynamic part has its reset values (R8). -/
structure State.LoadLaw (s : State) : Prop where
  account : s.load = loadOver s.activeBank s.image
  clear : s.mode = .transparent → s.image = []

/-- The Held Order Queue holds at most 32 orders, and none whose action is STOP or CLOSE (R122). -/
structure State.HeldLaw (s : State) : Prop where
  size : s.held.length ≤ 32
  kinds : ∀ h ∈ s.held, Action.ofCode h.tel.code ≠ some .stop ∧ Action.ofCode h.tel.code ≠ some .closePoint

/-- Two places of the UP transmit queue hold reports of one station and station point. -/
def sameReportKey (u v : UpItem) : Prop :=
  ∃ t, v.content = .report t ∧ UpItem.hasKey t.src t.point u = true

/-- The UP transmit queue holds at most 128 telegrams, of which at most 48 are reports, at most one report for each station
and station point, and the answer debt never exceeds 120 (R160). -/
structure State.QueueLaw (s : State) : Prop where
  size : s.upQueue.length ≤ 128
  reports : reportCount s.upQueue ≤ 48
  keys : s.upQueue.Pairwise (fun u v => ¬ sameReportKey u v)
  debt : s.debt ≤ 120

/-- No section is in WARMING, READY, RUNNING or DRAINING while a section it needs is in a phase other than RUNNING, unless
the event in progress has still to halt it NEED_LOST (R30, R68); with what of the active bank this rests on: its section
records read good, every need is a defined UTILITY (R21), and an undefined section is IDLE (R22). -/
structure State.NeedLaw (s : State) : Prop where
  records : s.recordsGood
  needs : ∀ n < 16, s.activeBank.isDefined n = true → ∀ m ∈ (s.activeBank.sec n).needs,
    s.activeBank.isDefined m = true ∧ (s.activeBank.sec m).role = .utility
  idle : ∀ n < 16, s.activeBank.isDefined n = false → s.phaseOf n = .idle
  law : s.inReset = false → ∀ n < 16, s.activeBank.isDefined n = true → (s.phaseOf n).working = true →
    ∀ m ∈ (s.activeBank.sec n).needs, s.phaseOf m = .running ∨ Task.halt n .needLost ∈ s.agenda

/-- The Outstanding Order Table and the lanes keep their limits: 48 general and 16 priority entries (R136), and at each DN port
16 general, 8 priority and 16 repeated telegrams waiting (R139, R158). -/
structure State.TableLaw (s : State) : Prop where
  general : s.partCount .general ≤ 48
  priority : s.partCount .priority ≤ 16
  generalLane : ∀ d, (s.lane d .general).length ≤ 16
  priorityLane : ∀ d, (s.lane d .priority).length ≤ 8
  repeatLane : ∀ d, (s.port (.dn d)).repeatLane.length ≤ 16

/-- The logical point of a station's station point, where it is covered under the active bank (R3). -/
def State.pointOf (s : State) (station : Byte) (point : Word) (p : Option Nat) : Prop :=
  match s.covering station point with
  | .window _ w => p = some (w.logicalOf point.toNat)
  | _ => p = none

/-- Held records and general entries stand each at the logical point of its station point (R121, R131, R148), no two held
records for one station point and no two general entries (R89, R122, R137), so that, the windows of the active bank occupying
disjoint logical ranges (R2, R169), no two of either are for one logical point; and in TRANSPARENT there is none (R172). -/
structure State.OrderLaw (s : State) : Prop where
  windows : ∀ i < 32, ∀ j < 32, ∀ p, (s.activeBank.win i).holds p = true → (s.activeBank.win j).holds p = true → i = j
  heldPoint : ∀ h ∈ s.held, s.pointOf h.tel.dest h.tel.point h.point
  heldPlace : s.held.Pairwise (fun x y => ¬ (x.tel.dest = y.tel.dest ∧ x.tel.point = y.tel.point))
  heldOnce : s.held.Pairwise (fun x y => x.point = none ∨ x.point ≠ y.point)
  entryPoint : ∀ e ∈ s.entries, e.part = .general → s.pointOf e.dest e.point e.logical
  entryPlace : s.entries.Pairwise (fun x y => x.part = .general → y.part = .general →
    ¬ (x.dest = y.dest ∧ x.point = y.point))
  entryOnce : s.entries.Pairwise (fun x y => x.part = .general → y.part = .general →
    x.logical = none ∨ x.logical ≠ y.logical)
  clear : s.mode = .transparent → s.held = [] ∧ s.entries = []

/-- Out of reset a PERMIT-OUT line is asserted exactly while the section that names it is RUNNING with the part in SCREENING or
FAIL_HOLD (R42); with what of the banks this rests on: no record beyond the 16 sections is defined, the section records of the
active bank read good, and no two of its defined sections name one line (R21, R169). -/
structure State.PermitLaw (s : State) : Prop where
  sections : ∀ i n, 16 ≤ n → (s.bank i).isDefined n = false
  records : s.recordsGood
  naming : ∀ n m k, s.activeBank.isDefined n = true → s.activeBank.isDefined m = true →
    (s.activeBank.sec n).permitOut = some k → (s.activeBank.sec m).permitOut = some k → n = m
  lines : s.inReset = false → ∀ k < 4, (s.permitOutLevel k = true ↔
    s.mode ≠ .transparent ∧ ∃ n < 16, ∃ c, s.definedRec n = some c ∧ c.permitOut = some k ∧ s.phaseOf n = .running)

/-- Every bank of tables is in canonical form. -/
def Bank.wf (b : Bank) : Bool :=
  Store.wf ⟨Window.empty, true⟩ b.windows && Store.wf ⟨PointStatic.empty, true⟩ b.points &&
    Store.wf ⟨SectionRec.empty, true⟩ b.sections && Store.wf ⟨ConditionSet.empty, true⟩ b.sets &&
    Store.wf ⟨ScreenRow.empty, true⟩ b.rows

/-- Every store of the state is in canonical form, so that equal contents are equal data. -/
structure State.StoreLaw (s : State) : Prop where
  image : Store.wf PointDyn.clear s.image = true
  sects : Store.wf SectionDyn.clear s.sects = true
  ports : Store.wf Port.clear s.ports = true
  permitIn : Store.wf false s.permitIn = true
  permitOut : Store.wf false s.permitOut = true
  bankA : s.bankA.wf = true
  bankB : s.bankB.wf = true

end Sys2Proof.Machine
end

