-- ==== Sys2Proof/WellFormed.lean ====
section
/-! DEFINITION. Which commands are well formed: the operand ranges that the types do not already force. -/
namespace Sys2Proof

/-- A management body holds at most 240 bytes (R155). -/
def MgmtTel.wf (t : MgmtTel) : Bool := t.body.length ≤ 240

/-- A telegram's fields are in the ranges its layout can carry (R155). -/
def Telegram.wf : Telegram → Bool
  | .point _ _ => true
  | .mgmt _ t => t.wf

/-- The operands of a command lie in the ranges the spec gives them: logical points 0 to 2047 (R2), sections 0 to 15
(R22), PERMIT-IN lines 0 to 3 (section 11.6), bodies of at most 240 bytes (R155). -/
def Instr.wf : Instr → Bool
  | .transparentRepeat t => t.wf
  | .transparentForward _ t => t.wf
  | .telegramDiscarded _ t => t.wf
  | .mgmtRequestIntake t => t.wf
  | .permitInChange k _ => k < 4
  | .staleTimerExpiry p => p < 2048
  | .confirmationTimerExpiry n => n < 16
  | .overdueTimerExpiry n => n < 16
  | .order _ | .report _ _ | .reply _ _ | .checkError _ _ | .unknownRequest | .writeTable | .readTable
  | .copyToStandby | .swapBanks | .swapCheckEnd | .goTransparent | .phase | .campaignStartUp | .campaignWindDown
  | .campaignAbandon | .readStatus | .readImage | .clearMarks | .setNotices | .resetPart | .campaignHaltAsserted
  | .campaignHaltDeasserted | .resetAsserted _ | .resetReleased _ _ | .lineSignalAppears _ | .provingSignalAbsent _
  | .provingTimerExpiry _ | .lineSignalLost _ | .lineSignalReturns _ | .lossTimerExpiry _ | .periodBoundary
  | .tallyDecay | .holdExpired _ _ | .replyTimeout _ | .transmission _ | .repeatLaneSend _ | .upTransmitStart
  | .upTransmitEnd => true

end Sys2Proof
end

