-- ==== Sys2Proof/Certificates/Slice0/Obligations.lean ====
section
/-! DEFINITION. The statements for the provers, by family of commands. -/
open Sys2Proof Sys2Proof.Machine

/-! ### The step and the queue -/

/-- A step takes the command at the front of the queue and runs it on the state with the queue's rest. -/
def Obligations.StepTakesTheFrontCommand : Prop :=
  ∀ (c : Instr) (s : State) (rest : List Instr), s.pending = c :: rest → step s = exec c { s with pending := rest }

/-- Every command answers a next state and leaves the queue of waiting commands as it is. -/
def Obligations.EveryCommandAnswersAndKeepsTheQueue : Prop :=
  ∀ (c : Instr) (s : State), ∃ t, exec c s = .next t ∧ t.pending = s.pending

/-- Window `i` is the window of logical point `p` in a bank: the first defined window, by stored content, whose logical range
holds it (R2). -/
def windowNumber (b : Bank) (p i : Nat) : Prop :=
  i < 32 ∧ (b.win i).holds p = true ∧ ∀ j < i, (b.win j).holds p = false

/-- The limit of a section's stay in its phase, in minutes, 0 meaning none (R40). -/
def stayLimit (r : SectionRec) (p : Phase) : Nat :=
  if p = .warming then r.warmLimit else if p = .draining then r.drainLimit else 0

/-- A timer has run its length, and the command is its expiry (R15, R38, R40, R101, R107, R129, R145, R150, R168). -/
def dueNow (s : State) : Instr → Prop
  | .provingTimerExpiry p =>
    (s.port p).state = .proving ∧ (s.port p).signal = true ∧ ∃ e, (s.port p).proving = some e ∧ 500 ≤ e
  | .lossTimerExpiry p => (s.port p).state = .up ∧ (s.port p).signal = false ∧ ∃ e, (s.port p).loss = some e ∧ 20 ≤ e
  | .swapCheckEnd => ∃ k, s.swapCheck = some k ∧ 20 ≤ k.elapsed
  | .staleTimerExpiry p =>
    (s.point p).fresh = true ∧ ∃ rep i, (s.point p).report = some rep ∧ windowNumber s.activeBank p i ∧
      10 * (s.activeBank.win i).staleLimit ≤ (s.clock - rep.time).toNat
  | .confirmationTimerExpiry n =>
    n < 16 ∧ ∃ t, (s.sect n).runEmpty = .counting t ∧ 10 * (s.activeBank.sec n).confirmTime ≤ (s.clock - t).toNat
  | .overdueTimerExpiry n =>
    n < 16 ∧ stayLimit (s.activeBank.sec n) (s.phaseOf n) ≠ 0 ∧ (s.sect n).overdue = false ∧
      600 * stayLimit (s.activeBank.sec n) (s.phaseOf n) ≤ (s.clock - (s.sect n).entryTime).toNat
  | .periodBoundary => ∃ t, s.periodTimer = some t ∧ t.length ≤ (s.clock - t.start).toNat
  | .tallyDecay => ∃ t, s.tallyTimer = some t ∧ 600 * t.length ≤ (s.clock - t.start).toNat
  | .holdExpired dest point =>
    ∃ h ∈ s.held, h.tel.dest = dest ∧ h.tel.point = point ∧ (h.deadline - h.arrival).toNat ≤ (s.clock - h.arrival).toNat
  | .replyTimeout n =>
    ∃ e ∈ s.entries, e.seq = n ∧ ∃ t, e.lane = .sent t ∧ e.timeout ≤ (s.clock - t).toNat
  | _ => False

/-- With no command waiting a millisecond passes: the clock counts at every hundredth, the line timers and a swap check count,
a telegram in transmission on a DN port may end, and the commands that then wait are exactly the expiries of the timers that
have run their length. In reset nothing changes. The tick, and the end of a transmission at one, are the model's choice, as
is that the lengths of stale, confirmation and overdue timers are those of the stored content (notes/assumptions/1.md,
notes/assumptions/17.md, notes/assumptions/20.md). -/
def Obligations.AMillisecondPassesWhenNothingWaits : Prop :=
  (∀ s : State, s.pending = [] → s.inReset = false →
    ∃ t, step s = .next t ∧
      (if s.subMs + 1 < 100 then t.subMs = s.subMs + 1 ∧ t.clock = s.clock
       else t.subMs = 0 ∧ t.clock = s.clock + 1) ∧
      (∀ p, ∃ l, (l = (s.port p).line ∨ (l = none ∧ ∃ d, p = .dn d)) ∧ t.port p =
        { s.port p with
          proving := (s.port p).proving.map (· + 1), loss := (s.port p).loss.map (· + 1), line := l }) ∧
      t.swapCheck = s.swapCheck.map (fun c : SwapCheck => ⟨c.src, c.tag, c.elapsed + 1⟩) ∧
      (∀ c, c ∈ t.pending ↔ dueNow t c) ∧
      t = { s with
        subMs := t.subMs
        clock := t.clock
        ports := t.ports
        swapCheck := t.swapCheck
        pending := t.pending
        draws := t.draws }) ∧
  (∀ s : State, s.pending = [] → s.inReset = true → step s = .next s)

/-! ### Orders -/

/-- The answer debt: the telegrams of the UP transmit queue that are no reports, reserved places included, the held orders and the
supervisory outstanding orders (R161). -/
def answerDebt (s : State) : Nat :=
  (s.upQueue.filter (fun x => match x.content with | .report _ => false | _ => true)).length + s.held.length +
    (s.entries.filter (fun e => match e.origin with | .supervisory _ => true | .part _ => false)).length

/-- At an answer debt of 120 an ORDER to be screened and a MGMT_REQUEST to the part are discarded with RECEIVE_REFUSED
latched on UP; below it a MGMT_REQUEST is taken in and reserves a response place. The debt is the telegrams of the UP queue that
are no reports, reserved places included, the held orders and the supervisory outstanding orders (R161). -/
def Obligations.IntakeUnderTheAnswerDebtLimit : Prop :=
  (∀ s : State, s.debt = answerDebt s) ∧
  (∀ (s : State) (o : PointTel), s.portReady .up → s.banked → o.dest ≠ s.station → 120 ≤ s.debt →
    exec (.order o) s = .next (s.setPort .up { s.port .up with receiveRefused := true })) ∧
  (∀ (s : State) (r : MgmtTel), s.portReady .up → r.dest = s.station →
    (s.debt < 120 → exec (.mgmtRequestIntake r) s =
      .next { s with requests := s.requests ++ [r], upQueue := upJoin s.upQueue .place }) ∧
    (120 ≤ s.debt → exec (.mgmtRequestIntake r) s =
      .next (s.setPort .up { s.port .up with receiveRefused := true })))

/-- Step 3: a STOP or CLOSE takes a free priority entry and a place of its port's priority lane, with value 0, no pledge and
SHAPED clear, whatever the part mode; without one it is refused NO_SLOT. Nothing else changes. -/
def Obligations.StopAndCloseTakeThePriorityPath : Prop :=
  ∀ (s : State) (o : PointTel) (w : Window) (st : PointStatic) (a : Action),
    s.Screens o → s.HandsOn o w st a → s.noneHeld (w.logicalOf o.point.toNat) → (a = .stop ∨ a = .closePoint) →
    (s.partCount .priority < 16 → (s.lane w.port .priority).length < 8 →
      exec (.order o) s = .next
        { s with
          entries := s.entries ++ [s.entryFor .priority o w a 0 none false]
          nextSeq := s.nextSeq + 1 }) ∧
    (16 ≤ s.partCount .priority ∨ 8 ≤ (s.lane w.port .priority).length →
      exec (.order o) s = .next (s.refusedWith o .noSlot))

/-- Step 14 for a START that passes steps 4 to 12: the cost is charged to R, and for UTILITY to V too, the rated load is
pledged unless the image shows STARTING or RUNNING, the tally rises by one up to 15, and a general entry is made. -/
def Obligations.AdmittedStartChargesPledgesAndCounts : Prop :=
  ∀ (s : State) (o : PointTel) (w : Window) (st : PointStatic) (n : Nat) (r : SectionRec) (row : ScreenRow)
    (b : BudgetRec),
    s.Screens o → s.HandsOn o w st .start → s.noneHeld (w.logicalOf o.point.toNat) →
    s.RowPasses o (w.logicalOf o.point.toNat) st .start n r row →
    (st.startLimit = 0 ∨ (s.point (w.logicalOf o.point.toNat)).tally < st.startLimit) →
    s.readBudget = some b → s.load + s.pledgeSum + st.ratedLoad ≤ b.capacity →
    (if r.role = .utility then st.startCost ≤ s.remaining else st.startCost + s.unusedReserve ≤ s.remaining) →
    (∀ h ∈ s.held, ¬ (h.reason = .budget ∧ h.cls = some (if r.role = .utility then .utility else .general))) →
    s.partCount .general < 48 → (s.lane w.port .general).length < 16 →
    exec (.order o) s = .next
      { s.setPoint (w.logicalOf o.point.toNat)
          { s.point (w.logicalOf o.point.toNat) with
            tally := min 15 ((s.point (w.logicalOf o.point.toNat)).tally + 1) } with
        remaining := s.remaining - st.startCost
        unusedReserve := if r.role = .utility then s.unusedReserve - st.startCost else s.unusedReserve
        pledgeSum := s.pledgeSum + if (s.point (w.logicalOf o.point.toNat)).isOn then 0 else st.ratedLoad
        entries := s.entries ++ [s.entryFor .general o w .start 0
          (if (s.point (w.logicalOf o.point.toNat)).isOn then none else some st.ratedLoad) false]
        nextSeq := s.nextSeq + 1 }

/-- The base and the allowance of a SET order at a point (R98). -/
def setBase (s : State) (p ramp : Nat) : Option (Int × Nat) :=
  match (s.point p).setPoint, (s.point p).report with
  | some (v, t0), _ => some (v.toInt, min (ramp * min ((s.clock - t0).toNat / 10) 65535 / 60) 65535)
  | none, some rep => if (s.point p).fresh then some (rep.value.toInt, ramp) else none
  | none, none => none

/-- A value clamped into a range: `lo` if below it, `hi` if above it, and the value otherwise (R98). -/
def clamped (lo hi v : Int) : Int := if v < lo then lo else if v > hi then hi else v

/-- Step 14 for a SET: the request is clamped to the ramp limits around its base, then to the row's band; the order is
entered and recorded with that value, and SHAPED where it differs from the request (R98). -/
def Obligations.AdmittedSetIsRampedThenBanded : Prop :=
  ∀ (s : State) (o : PointTel) (w : Window) (st : PointStatic) (n : Nat) (r : SectionRec) (row : ScreenRow),
    s.Screens o → s.HandsOn o w st .set → s.noneHeld (w.logicalOf o.point.toNat) →
    s.RowPasses o (w.logicalOf o.point.toNat) st .set n r row →
    s.partCount .general < 48 → (s.lane w.port .general).length < 16 →
    ∃ v : Word,
      v.toInt = clamped row.low.toInt row.high.toInt
        (match setBase s (w.logicalOf o.point.toNat) row.ramp with
         | some (b, a) =>
           if row.ramp = 0 then o.value.toInt
           else clamped (max (b - a) (-32768)) (min (b + a) 32767) o.value.toInt
         | none => o.value.toInt) ∧
      exec (.order o) s = .next
        { s.setPoint (w.logicalOf o.point.toNat)
            { s.point (w.logicalOf o.point.toNat) with setPoint := some (v, s.clock) } with
          entries := s.entries ++ [s.entryFor .general o w .set v none (decide (v ≠ o.value))]
          nextSeq := s.nextSeq + 1 }

/-- Steps 13 and 14 for GATES: a gate the row releases is as requested, any other as reported; a STALE point passes only a
row that releases all 16 gates, with the request as it is, and otherwise the order is refused STALE (R93, R99). -/
def Obligations.AdmittedGatesMoveOnlyReleasedGates : Prop :=
  ∀ (s : State) (o : PointTel) (w : Window) (st : PointStatic) (n : Nat) (r : SectionRec) (row : ScreenRow),
    s.Screens o → s.HandsOn o w st .gates → s.noneHeld (w.logicalOf o.point.toNat) →
    s.RowPasses o (w.logicalOf o.point.toNat) st .gates n r row →
    s.partCount .general < 48 → (s.lane w.port .general).length < 16 →
    (∀ rep, (s.point (w.logicalOf o.point.toNat)).fresh = true →
      (s.point (w.logicalOf o.point.toNat)).report = some rep →
      ∃ v : Word, (∀ i < 16, v.getLsbD i = if row.gates.getLsbD i then o.value.getLsbD i else rep.value.getLsbD i) ∧
        exec (.order o) s = .next
          { s with
            entries := s.entries ++ [s.entryFor .general o w .gates v none (decide (v ≠ o.value))]
            nextSeq := s.nextSeq + 1 }) ∧
    ((s.point (w.logicalOf o.point.toNat)).fresh = false → (∀ i < 16, row.gates.getLsbD i = true) →
      exec (.order o) s = .next
        { s with
          entries := s.entries ++ [s.entryFor .general o w .gates o.value none false]
          nextSeq := s.nextSeq + 1 }) ∧
    ((s.point (w.logicalOf o.point.toNat)).fresh = false → (∃ i < 16, row.gates.getLsbD i = false) →
      exec (.order o) s = .next (s.refusedWith o .stale))

/-- Step 14 for OPEN and RESET_FAULT: a general entry with value 0 and nothing else (R96, R97). -/
def Obligations.AdmittedOpenAndResetFaultCarryZero : Prop :=
  ∀ (s : State) (o : PointTel) (w : Window) (st : PointStatic) (a : Action) (n : Nat) (r : SectionRec) (row : ScreenRow),
    (a = .openPoint ∨ a = .resetFault) →
    s.Screens o → s.HandsOn o w st a → s.noneHeld (w.logicalOf o.point.toNat) →
    s.RowPasses o (w.logicalOf o.point.toNat) st a n r row →
    s.partCount .general < 48 → (s.lane w.port .general).length < 16 →
    exec (.order o) s = .next
      { s with
        entries := s.entries ++ [s.entryFor .general o w a 0 none false]
        nextSeq := s.nextSeq + 1 }

/-- A HOLD verdict: with a hold limit of 0 the order is refused with the hold reason; with 32 orders held it is refused
QUEUE_FULL; otherwise it joins the tail with its arrival time and deadline (R94). -/
def Obligations.HeldOrderJoinsTheTail : Prop :=
  ∀ (s : State) (o : PointTel) (w : Window) (st : PointStatic) (a : Action) (h : HoldReason) (limit : Nat)
    (c : Option BudgetClass),
    s.Screens o → s.HandsOn o w st a → s.noneHeld (w.logicalOf o.point.toNat) →
    s.judgeOrder o ⟨w.logicalOf o.point.toNat, w, st, a⟩ s.held = .hold h limit c →
    (limit = 0 → exec (.order o) s = .next (s.refusedWith o h.refusal)) ∧
    (limit ≠ 0 → 32 ≤ s.held.length → exec (.order o) s = .next (s.refusedWith o .queueFull)) ∧
    (limit ≠ 0 → s.held.length < 32 → exec (.order o) s = .next
      { s with held := s.held ++
          [⟨o, some (w.logicalOf o.point.toNat), s.clock, s.clock + BitVec.ofNat 32 (10 * limit), h, c⟩] })

/-- An order refused at steps 1 and 2, or at steps 3 to 13 without an integrity fault, is answered by one REFUSAL, which the
refusal capture takes, and nothing else changes (R82, R84, R85, R102). -/
def Obligations.RefusedOrderIsAnsweredAndCaptured : Prop :=
  (∀ (s : State) (o : PointTel) (r : RefusalReason), s.Screens o → s.judgeDestination o = .refused r none →
    exec (.order o) s = .next (s.refusedWith o r)) ∧
  (∀ (s : State) (o : PointTel) (w : Window) (st : PointStatic) (a : Action) (r : RefusalReason),
    s.Screens o → s.HandsOn o w st a → s.noneHeld (w.logicalOf o.point.toNat) →
    s.judgeOrder o ⟨w.logicalOf o.point.toNat, w, st, a⟩ s.held = .refuse r none →
    exec (.order o) s = .next (s.refusedWith o r))

/-- A new order that passes steps 1 and 2 removes the order held for its point, which is refused SUPERSEDED, and is then
judged with the queue as the removal left it: the event is that of the same order at the state without the record, whatever
its verdict. So a STOP or CLOSE takes a priority place, or is refused NO_SLOT after it superseded; an order that is held
again joins the tail; and one that is refused or admitted is so after the removal (R83, R86, R94 to R96). That the REFUSAL of a
new order refused with an integrity fault precedes what the fault does, the refusal of the orders held FAIL_HOLD, is the model's
reading (notes/assumptions/16.md). -/
def Obligations.NewOrderSupersedesTheHeldOrder : Prop :=
  ∀ (s : State) (o : PointTel) (w : Window) (st : PointStatic) (a : Action) (l1 l2 : List HeldRec) (h : HeldRec) (u : State),
    s.Screens o → s.HandsOn o w st a →
    s.held = l1 ++ h :: l2 → h.point = some (w.logicalOf o.point.toNat) →
    (∀ x ∈ l1 ++ l2, x.point ≠ some (w.logicalOf o.point.toNat)) →
    u = { s.refusedWith h.tel .superseded with held := l1 ++ l2 } →
    (exec (.order o) s = exec (.order o) u ∧ u.Screens o ∧ u.HandsOn o w st a ∧ u.noneHeld (w.logicalOf o.point.toNat)) ∧
    ((a = .stop ∨ a = .closePoint) →
      (s.partCount .priority < 16 → (s.lane w.port .priority).length < 8 →
        exec (.order o) s = .next
          { u with
            entries := s.entries ++ [s.entryFor .priority o w a 0 none false]
            nextSeq := s.nextSeq + 1 }) ∧
      (16 ≤ s.partCount .priority ∨ 8 ≤ (s.lane w.port .priority).length →
        exec (.order o) s = .next (u.refusedWith o .noSlot))) ∧
    (∀ r limit c, u.judgeOrder o ⟨w.logicalOf o.point.toNat, w, st, a⟩ (l1 ++ l2) = .hold r limit c →
      (limit = 0 → exec (.order o) s = .next (u.refusedWith o r.refusal)) ∧
      (limit ≠ 0 → (l1 ++ l2).length < 32 → exec (.order o) s = .next
        { u with held := l1 ++ l2 ++
            [⟨o, some (w.logicalOf o.point.toNat), s.clock, s.clock + BitVec.ofNat 32 (10 * limit), r, c⟩] })) ∧
    (∀ r, u.judgeOrder o ⟨w.logicalOf o.point.toNat, w, st, a⟩ (l1 ++ l2) = .refuse r none →
      exec (.order o) s = .next (u.refusedWith o r)) ∧
    (∀ r f, u.judgeOrder o ⟨w.logicalOf o.point.toNat, w, st, a⟩ (l1 ++ l2) = .refuse r (some f) →
      exec (.order o) s = .next ((u.refusedWith o r).activeFault f)) ∧
    (∀ row c, u.judgeOrder o ⟨w.logicalOf o.point.toNat, w, st, a⟩ (l1 ++ l2) = .admission row c →
      exec (.order o) s = .next (u.admitOrder o ⟨w.logicalOf o.point.toNat, w, st, a⟩ row c))

/-- A window covers a station's station point (R3). -/
def coversPoint (w : Window) (station : Byte) (point : Word) : Prop :=
  w.defined = true ∧ w.station = station.toNat ∧ w.first ≤ point.toNat ∧ point.toNat ≤ w.last

/-- A search reads the windows of the active bank from window 0: it finds the first that passes, meets the first damaged one,
or reads all 32 (R3). -/
def searchFinds (s : State) (passes : Window → Prop) (f : Found) : Prop :=
  (∀ i w, f = .window i w ↔
    i < 32 ∧ s.readWindow i = some w ∧ passes w ∧ ∀ j < i, ∃ v, s.readWindow j = some v ∧ ¬ passes v) ∧
  (∀ i, f = .faulty i ↔ i < 32 ∧ s.readWindow i = none ∧ ∀ j < i, ∃ v, s.readWindow j = some v ∧ ¬ passes v) ∧
  (f = .absent ↔ ∀ j < 32, ∃ v, s.readWindow j = some v ∧ ¬ passes v)

/-- The covering window is the lowest-numbered that covers the pair, and a lookup that meets a damaged window ends there as
not covered (R3). Steps 1 and 2: what refuses an order, in their order (R84, R85). That a damaged static part is met before an
unknown action code is refused is the model's choice (notes/assumptions/42.md). -/
def Obligations.DestinationAndClassAreJudgedFirst : Prop :=
  (∀ (s : State) (station : Byte) (point : Word),
    searchFinds s (fun w => coversPoint w station point) (s.covering station point)) ∧
  ∀ (s : State) (o : PointTel),
    (o.dest = 255 → s.judgeDestination o = .refused .broadcast none) ∧
    (o.dest ≠ 255 → s.covering o.dest o.point = .absent → s.judgeDestination o = .refused .noRoute none) ∧
    (∀ i, o.dest ≠ 255 → s.covering o.dest o.point = .faulty i →
      s.judgeDestination o = .refused .noRoute (some ⟨.windows, i⟩)) ∧
    (∀ i w, o.dest ≠ 255 → s.covering o.dest o.point = .window i w →
      ((s.port (.dn w.port)).state ≠ .up → s.judgeDestination o = .refused .noRoute none) ∧
      ((s.port (.dn w.port)).state = .up → w.guarded = true → s.judgeDestination o = .refused .isProtected none) ∧
      ((s.port (.dn w.port)).state = .up → w.guarded = false →
        (∀ st, s.readPoint (w.logicalOf o.point.toNat) = some st →
          (∀ a, Action.ofCode o.code = some a →
            st.cls.takes a = decide ((st.cls, a) ∈
              [(PointClass.drive, Action.start), (.drive, .stop), (.drive, .resetFault), (.valve, .openPoint),
               (.valve, .closePoint), (.valve, .resetFault), (.setpoint, .set), (.gateset, .gates),
               (.gateset, .resetFault)]) ∧
            (st.cls.takes a = false → s.judgeDestination o = .refused .wrongAction none) ∧
            (st.cls.takes a = true →
              s.judgeDestination o = .known ⟨w.logicalOf o.point.toNat, w, st, a⟩)) ∧
          (6 < o.code.toNat → s.judgeDestination o = .refused .wrongAction none)) ∧
        (s.readPoint (w.logicalOf o.point.toNat) = none →
          s.judgeDestination o = .refused .noRoute (some ⟨.points, w.logicalOf o.point.toNat⟩))))

/-- The budget class of a section: UTILITY for a UTILITY, GENERAL for any other role (R109). -/
def budgetClassOf (r : SectionRec) : BudgetClass := if r.role = .utility then .utility else .general

/-- Steps 4 to 13 for an order that is neither STOP nor CLOSE: each failing step gives its verdict where every step before
it passes, a HOLD of a START with the budget class of its section and of any other action with none, a GATES order of a STALE
point under a row that does not release all 16 gates the refusal STALE, and a read that meets an integrity fault the refusal
FAIL_HOLD with that fault (R87 to R95). Which static parts the evaluation of a condition set reads is the model's choice
(notes/assumptions/43.md). -/
def Obligations.VerdictIsThatOfTheFirstFailingStep : Prop :=
  ∀ (s : State) (o : PointTel) (w : Window) (p : Nat) (st : PointStatic) (a : Action) (ahead : List HeldRec),
    a ≠ .stop → a ≠ .closePoint →
    (s.mode = .failHold → s.judgeOrder o ⟨p, w, st, a⟩ ahead = .refuse .failHold none) ∧
    (s.mode = .screening →
      (∃ e ∈ s.entries, s.entrySource e = o.src ∧ e.dest = o.dest ∧ e.tag = o.tag ∧ e.point = o.point) →
      s.judgeOrder o ⟨p, w, st, a⟩ ahead = .refuse .duplicateTag none) ∧
    (∀ n, s.mode = .screening →
      (∀ e ∈ s.entries, ¬ (s.entrySource e = o.src ∧ e.dest = o.dest ∧ e.tag = o.tag ∧ e.point = o.point)) →
      st.sect = some n →
      (s.readSection n = none → s.judgeOrder o ⟨p, w, st, a⟩ ahead = .refuse .failHold (some ⟨.sections, n⟩)) ∧
      (∀ r, s.readSection n = some r → s.readRow (rowIndex r.profile (s.phaseOf n) a) = none →
        s.judgeOrder o ⟨p, w, st, a⟩ ahead =
          .refuse .failHold (some ⟨.rows, rowIndex r.profile (s.phaseOf n) a⟩)) ∧
      (∀ r row, s.readSection n = some r → s.readRow (rowIndex r.profile (s.phaseOf n) a) = some row →
        (row.base = .refuse → s.judgeOrder o ⟨p, w, st, a⟩ ahead = .refuse .phase none) ∧
        (∀ l1 f l2, row.base = .pass → s.optSetReads row.condSet = l1 ++ f :: l2 →
          (∀ e ∈ l1, s.activeBank.entryGood e = true) → s.activeBank.entryGood f = false →
          s.judgeOrder o ⟨p, w, st, a⟩ ahead = .refuse .failHold (some f)) ∧
        (row.base = .pass → (∀ e ∈ s.optSetReads row.condSet, s.activeBank.entryGood e = true) →
          s.setHoldsOr true row.condSet = false →
          s.judgeOrder o ⟨p, w, st, a⟩ ahead =
            .hold .condition row.holdLimit (if a = .start then some (budgetClassOf r) else none)) ∧
        (row.base = .pass → (∀ e ∈ s.optSetReads row.condSet, s.activeBank.entryGood e = true) →
          s.setHoldsOr true row.condSet = true →
          (∃ e ∈ s.entries, e.part = .general ∧ e.logical = some p) →
          s.judgeOrder o ⟨p, w, st, a⟩ ahead =
            .hold .busy row.holdLimit (if a = .start then some (budgetClassOf r) else none)))) ∧
    (∀ n r row, s.RowPasses o p st a n r row → a = .start →
      (st.startLimit ≠ 0 → st.startLimit ≤ (s.point p).tally →
        s.judgeOrder o ⟨p, w, st, a⟩ ahead = .refuse .startLimit none) ∧
      ((st.startLimit = 0 ∨ (s.point p).tally < st.startLimit) →
        (s.readBudget = none → s.judgeOrder o ⟨p, w, st, a⟩ ahead = .refuse .failHold (some ⟨.budget, 0⟩)) ∧
        (∀ b, s.readBudget = some b →
          (b.capacity < s.load + s.pledgeSum + st.ratedLoad →
            s.judgeOrder o ⟨p, w, st, a⟩ ahead = .hold .load row.holdLimit (some (budgetClassOf r))) ∧
          (s.load + s.pledgeSum + st.ratedLoad ≤ b.capacity →
            ((if r.role = .utility then s.remaining < st.startCost else s.remaining < st.startCost + s.unusedReserve) ∨
              (∃ h ∈ ahead, h.reason = .budget ∧ h.cls = some (budgetClassOf r))) →
            s.judgeOrder o ⟨p, w, st, a⟩ ahead = .hold .budget row.holdLimit (some (budgetClassOf r))) ∧
          (s.load + s.pledgeSum + st.ratedLoad ≤ b.capacity →
            (if r.role = .utility then st.startCost ≤ s.remaining else st.startCost + s.unusedReserve ≤ s.remaining) →
            (∀ h ∈ ahead, ¬ (h.reason = .budget ∧ h.cls = some (budgetClassOf r))) →
            (48 ≤ s.partCount .general ∨ 16 ≤ (s.lane w.port .general).length) →
            s.judgeOrder o ⟨p, w, st, a⟩ ahead = .hold .noSlot row.holdLimit (some (budgetClassOf r)))))) ∧
    (∀ n r row, s.RowPasses o p st a n r row → a ≠ .start →
      (48 ≤ s.partCount .general ∨ 16 ≤ (s.lane w.port .general).length) →
      s.judgeOrder o ⟨p, w, st, a⟩ ahead = .hold .noSlot row.holdLimit none) ∧
    (∀ n r row, s.RowPasses o p st a n r row → a = .gates →
      s.partCount .general < 48 → (s.lane w.port .general).length < 16 →
      (s.point p).fresh = false → (∃ i < 16, row.gates.getLsbD i = false) →
      s.judgeOrder o ⟨p, w, st, a⟩ ahead = .refuse .stale none)

/-! ### Reports and replies -/

/-- What the consequences of an event may change with no order held: every table, marker, port, timer, budget figure, request
and notice setting stands, and so does the queue of held orders. The agenda is the model's own (notes/assumptions/6.md). -/
def sameButCascade (s t : State) : Prop :=
  t = { s with
    image := t.image
    sects := t.sects
    permitOut := t.permitOut
    fault := t.fault
    mode := t.mode
    campaign := t.campaign
    load := t.load
    pledgeSum := t.pledgeSum
    entries := t.entries
    nextSeq := t.nextSeq
    tagCounter := t.tagCounter
    upQueue := t.upQueue
    noticeLost := t.noticeLost
    agenda := t.agenda
    draws := t.draws }

/-- A report in a state `rs` of the point's class is covered by window `w` on its port, and the point's static part `st` reads
good: it is imaged (R11). -/
structure IsImaged (s : State) (d : DnPort) (r : PointTel) (w : Window) (st : PointStatic) (rs : ReportState) : Prop where
  ready : s.portReady (.dn d)
  banked : s.banked
  covered : ∃ i, s.covering r.src r.point = .window i w
  port : w.port = d
  static : s.readPoint (w.logicalOf r.point.toNat) = some st
  code : ReportState.ofCode r.code = some rs
  cls : rs.cls = st.cls

/-- The dynamic part of a point after a report is imaged: state, value and report time stored, the point FRESH, and the mark
set by the conditions of R12. -/
def imagedPoint (s : State) (p : Nat) (st : PointStatic) (rs : ReportState) (v : Word) : PointDyn :=
  { s.point p with
    report := some ⟨rs, v, s.clock⟩
    fresh := true
    mark := (s.point p).mark ||
      match (s.point p).report with
      | none => true
      | some old => decide (old.state ≠ rs) ||
          (if st.cls = .gateset then decide (old.value ≠ v) else decide (st.deadband < (v.toInt - old.value.toInt).natAbs)) }

/-- The report is an image change: it does not repeat a FRESH point's state and value (R13). -/
def imageChanges (s : State) (p : Nat) (rs : ReportState) (v : Word) : Prop :=
  ¬ ((s.point p).fresh = true ∧ ∃ old, (s.point p).report = some old ∧ old.state = rs ∧ old.value = v)

/-- A condition of an optional set names a point. -/
def setNamesPoint (s : State) (o : Option Nat) (p : Nat) : Prop :=
  ∃ k cs, o = some k ∧ s.readSet k = some cs ∧ ∃ x ∈ cs.conditions, x.point = p

/-- A condition of a section's trip set names a point. -/
def tripNames (s : State) (c : SectionRec) (p : Nat) : Prop := setNamesPoint s c.tripSet p

/-- An image change of point `p` re-examines section `n`: a condition of its warm, run or flush set names the point, or it is one
of its flow points, or the level point of a STORE the section feeds (R32). -/
def reexaminedAt (s : State) (n p : Nat) : Prop :=
  n < 16 ∧ ∃ c, s.definedRec n = some c ∧
    ((∃ o ∈ [c.warmSet, c.runSet, c.flushSet], setNamesPoint s o p) ∨ (∃ f ∈ c.flowPoints, f.point = p) ∨
      ∃ m ∈ c.feeds, ∃ f l, s.definedRec m = some f ∧ f.role = .store ∧ f.level = some l ∧ l.point = p)

/-- An imaged report that is an image change of a point of a section's trip set leaves the set holding: a TRIP (R64). -/
def trips (s u : State) (n p : Nat) (rs : ReportState) (v : Word) : Prop :=
  n < 16 ∧ imageChanges s p rs v ∧
    ∃ c, s.definedRec n = some c ∧ tripNames s c p ∧ u.setHoldsOr false c.tripSet = true

/-- An imaged report shows a RUNNING STORE that the section feeds at or above its high limit: a STORE_FULL (R70). -/
def storeFills (s : State) (n p : Nat) (v : Word) : Prop :=
  n < 16 ∧ ∃ c m f l, s.definedRec n = some c ∧ m ∈ c.feeds ∧ m < 16 ∧ s.definedRec m = some f ∧ f.role = .store ∧
    s.phaseOf m = .running ∧ f.level = some l ∧ l.point = p ∧ l.high.toInt ≤ v.toInt

/-- A flow point is FRESH and reports at or below its threshold. -/
def flowIsLow (s : State) (f : FlowPoint) : Prop :=
  (s.point f.point).fresh = true ∧ ∃ rep, (s.point f.point).report = some rep ∧ rep.value.toInt ≤ f.threshold.toInt

/-- A report of point `p`, with the image then `u`, takes the run-empty state of a DRAINING section from `e` to `e'`:
NOT_COUNTING starts a count where the report is an image change that leaves every flow point FRESH and at or below its threshold,
and a count or a confirmation is lost where the point is above its threshold, image change or not (R36, R37). -/
def flowAfter (change : Prop) (u : State) (c : SectionRec) (p : Nat) (e e' : RunEmpty) : Prop :=
  (e = .notCounting → (change → (∀ f ∈ c.flowPoints, flowIsLow u f) → e' = .counting u.clock) ∧
    ((¬ change ∨ ∃ f ∈ c.flowPoints, ¬ flowIsLow u f) → e' = .notCounting)) ∧
  (e ≠ .notCounting → ((∃ f ∈ c.flowPoints, f.point = p ∧ ¬ flowIsLow u f) → e' = .notCounting) ∧
    ((∀ f ∈ c.flowPoints, f.point = p → flowIsLow u f) → e' = e))

/-- A section is DRAINING and names a point as a flow point. -/
def drainsBy (s : State) (n : Nat) (c : SectionRec) (p : Nat) : Prop :=
  n < 16 ∧ s.definedRec n = some c ∧ s.phaseOf n = .draining ∧ ∃ f ∈ c.flowPoints, f.point = p

/-- Section `n` is HALTED with a cause, by an entry of this event (R63). -/
def nowHalted (s t : State) (n : Nat) (h : HaltCause) : Prop := t.sect n = ⟨.halted, s.clock, some h, .notCounting, false, true⟩

/-- The load account, the entries and the pledge sum from `s` to `u` at a report of state `rs` for point `p` with static part
`st`: a DRIVE's entry to STARTING or RUNNING adds its rated load and releases the pledge of its outstanding START, its exit from
them takes its rated load off, and any other report changes none of the three (R111, R113). -/
def loadMoves (s u : State) (p : Nat) (st : PointStatic) (rs : ReportState) : Prop :=
  if st.cls = .drive ∧ (s.point p).isOn = false ∧ (rs = .starting ∨ rs = .running) then
    u.load = s.load + st.ratedLoad ∧
      u.entries = s.entries.map (fun e =>
        if e.part = .general ∧ e.logical = some p then { e with pledge := none } else e) ∧
      u.pledgeSum = s.pledgeSum -
        ((s.entries.filter (fun e => decide (e.part = .general ∧ e.logical = some p))).map
          (fun e => e.pledge.getD 0)).sum
  else if st.cls = .drive ∧ (s.point p).isOn = true ∧ ¬ (rs = .starting ∨ rs = .running) then
    u.load = s.load - st.ratedLoad ∧ u.entries = s.entries ∧ u.pledgeSum = s.pledgeSum
  else u.load = s.load ∧ u.entries = s.entries ∧ u.pledgeSum = s.pledgeSum

/-- A report covered on its port, with a state of the point's class, is imaged, and the report and freshness of every other
point stay (R11, R12). With the bank reading good the event's own change is the image, a DRIVE's entry to and exit from
STARTING and RUNNING in the load account with the pledge of its outstanding START released at the entry (R111, R113), the
run-empty states, a repeated report above its threshold ending a count as a new one does (R36, R37), the report forwarded on UP
(R14), TRIP halts at sections whose trip set the image change leaves holding (R64), STORE_FULL halts at the feeders of a full
RUNNING STORE (R70), and the re-examination of exactly the sections the image change reaches (R32). In the end every section so reached
in a phase its cause halts is HALTED, and so are the feeders of a tripped section that are READY or RUNNING and no STORE
(R69), outside WIND_DOWN. With no order held nothing else of the image changes. That the forwarded report joins the UP queue
before what the consequences of the report queue is the model's choice: R14 orders no such telegram with respect to it
(notes/assumptions/21.md). Where the point's static part is damaged, either nothing is imaged or the report is imaged by the
stored class with the load account moved by the stored rated load, whether and with which deadband being free values; the fault of
the static part is taken in both cases, after the imaging, and the report is forwarded (R111, R165). That the stored class
judges, that the fault is taken after the imaging, and that what it queues stands before the report, is the model's choice
(notes/assumptions/5.md, notes/assumptions/21.md). -/
def Obligations.CoveredReportIsImaged : Prop :=
  (∀ (s : State) (d : DnPort) (r : PointTel) (w : Window) (st : PointStatic) (rs : ReportState) (p : Nat) (v : State),
    IsImaged s d r w st rs → p = w.logicalOf r.point.toNat → v = s.setPoint p (imagedPoint s p st rs r.value) →
    ((∀ e, s.activeBank.entryGood e = true) →
      ∃ u : State, exec (.report d r) s = .next u.settled ∧
        loadMoves s u p st rs ∧
        (∀ n, ∃ e, u.sect n = { s.sect n with runEmpty := e } ∧
          ((∃ c, drainsBy s n c p ∧ flowAfter (imageChanges s p rs r.value) v c p (s.sect n).runEmpty e) ∨
           (¬ (∃ c, drainsBy s n c p) ∧ e = (s.sect n).runEmpty))) ∧
        (∀ n c, Task.halt n c ∈ u.agenda ↔
          (c = .trip ∧ trips s v n p rs r.value) ∨ (c = .storeFull ∧ storeFills s n p r.value)) ∧
        (∀ n, Task.reexamine n ∈ u.agenda ↔ imageChanges s p rs r.value ∧ reexaminedAt s n p) ∧
        (Task.scan ∈ u.agenda ↔ imageChanges s p rs r.value) ∧
        (∀ x ∈ u.agenda, x = .scan ∨ (∃ n, x = .reexamine n) ∨ ∃ n c, x = .halt n c) ∧
        u = { v with
          load := u.load
          entries := u.entries
          pledgeSum := u.pledgeSum
          sects := u.sects
          upQueue := upReport s.upQueue r
          agenda := u.agenda }) ∧
    ∃ t, exec (.report d r) s = .next t ∧
      (t.point p).report = some ⟨rs, r.value, s.clock⟩ ∧ (t.point p).fresh = true ∧
      (t.point p).mark = (imagedPoint s p st rs r.value).mark ∧
      (∀ q, q ≠ p → (t.point q).report = (s.point q).report ∧
        (t.point q).fresh = (s.point q).fresh ∧ (t.point q).mark = (s.point q).mark) ∧
      (∀ n, trips s v n p rs r.value → (s.phaseOf n).working = true →
        (∃ h ∈ [HaltCause.trip, .needLost, .feedStop, .storeFull], nowHalted s t n h) ∧
        (∀ m < 16, ∀ c, s.definedRec m = some c → n ∈ c.feeds → c.role ≠ .store →
          (s.phaseOf m = .ready ∨ s.phaseOf m = .running) → s.campaign ≠ .windDown → ∃ h, nowHalted s t m h)) ∧
      (∀ n, storeFills s n p r.value → s.phaseOf n = .running →
        ∃ h ∈ [HaltCause.storeFull, .trip, .needLost, .feedStop], nowHalted s t n h) ∧
      (s.held = [] → sameButCascade s t ∧ t.point p = imagedPoint s p st rs r.value ∧
        (∀ q, q ≠ p → t.point q = s.point q) ∧
        t.load =
          (if st.cls = .drive ∧ (s.point p).isOn = false ∧ (rs = .starting ∨ rs = .running) then s.load + st.ratedLoad
          else if st.cls = .drive ∧ (s.point p).isOn = true ∧ ¬ (rs = .starting ∨ rs = .running) then
            s.load - st.ratedLoad
          else s.load))) ∧
  (∀ (s : State) (d : DnPort) (r : PointTel) (i : Nat) (w : Window) (p : Nat) (stored : PointStatic),
    s.portReady (.dn d) → s.banked → s.covering r.src r.point = .window i w → w.port = d →
    p = w.logicalOf r.point.toNat → (s.activeBank.pointStatic p).good = false →
    stored = (s.activeBank.pointStatic p).content →
    ∃ v u : State, exec (.report d r) s = .next u.settled ∧
      u = { v.activeFault ⟨.points, p⟩ with upQueue := upReport (v.activeFault ⟨.points, p⟩).upQueue r } ∧
      u.mode = .failHold ∧
      (v = { s with draws := s.draws + 1 } ∨
       ∃ rs k, ReportState.ofCode r.code = some rs ∧ rs.cls = stored.cls ∧
        v.point p = imagedPoint s p { stored with deadband := k } rs r.value ∧
        (∀ q, q ≠ p → v.point q = s.point q) ∧
        (∀ n, ∃ e, v.sect n = { s.sect n with runEmpty := e }) ∧
        loadMoves s v p stored rs))

/-- A place of the UP queue holds a report. -/
def holdsReport (x : UpItem) : Prop := ∃ t, x.content = .report t

/-- A place of the UP queue holds a report of the source station and station point of `r`. -/
def sameKey (r : PointTel) (x : UpItem) : Prop := ∃ t, x.content = .report t ∧ t.src = r.src ∧ t.point = r.point

/-- The reports of a queue. -/
def reportsIn (q : List UpItem) : Nat := (q.filter (fun x => match x.content with | .report _ => true | _ => false)).length

/-- `q'` is the queue `q` with its oldest report discarded (R160). -/
def oldestGivesWay (q q' : List UpItem) : Prop :=
  ∃ l1 x l2, q = l1 ++ x :: l2 ∧ holdsReport x ∧ (∀ y ∈ l1, ¬ holdsReport y) ∧ q' = l1 ++ l2

/-- A report that is not covered, is covered on another port, or has a state that is none of the point's class is forwarded
on UP and changes nothing else (R11, R14). Forwarded, a report replaces in its place the queued report of its station and
station point, and otherwise joins at the tail, where beyond 48 reports or 128 telegrams the oldest report gives way. A telegram
that is no report joins at the tail, the oldest report giving way beyond 128 (R160). A response fills the oldest reserved place
(R161). -/
def Obligations.UncoveredReportIsOnlyForwarded : Prop :=
  (∀ (s : State) (d : DnPort) (r : PointTel), s.portReady (.dn d) → s.banked →
    (s.covering r.src r.point = .absent ∨
     (∃ i w, s.covering r.src r.point = .window i w ∧ w.port ≠ d) ∨
     (∃ i w st, s.covering r.src r.point = .window i w ∧ s.readPoint (w.logicalOf r.point.toNat) = some st ∧
       ∀ rs, ReportState.ofCode r.code = some rs → rs.cls ≠ st.cls)) →
    exec (.report d r) s = .next { s with upQueue := upReport s.upQueue r }) ∧
  (∀ (q l1 l2 : List UpItem) (x : UpItem) (r : PointTel), q = l1 ++ x :: l2 → sameKey r x →
    (∀ y ∈ l1 ++ l2, ¬ sameKey r y) → upReport q r = l1 ++ { x with content := .report r } :: l2) ∧
  (∀ (q : List UpItem) (r : PointTel), (∀ y ∈ q, ¬ sameKey r y) →
    (reportsIn q < 48 → q.length < 128 → upReport q r = q ++ [⟨.report r, false⟩]) ∧
    (48 ≤ reportsIn q ∨ 128 ≤ q.length → oldestGivesWay (q ++ [⟨.report r, false⟩]) (upReport q r))) ∧
  (∀ (q : List UpItem) (c : UpContent), (∀ r, c ≠ .report r) →
    (q.length < 128 → upJoin q c = q ++ [⟨c, false⟩]) ∧
    (128 ≤ q.length → (∃ y ∈ q, holdsReport y) → oldestGivesWay (q ++ [⟨c, false⟩]) (upJoin q c))) ∧
  (∀ (q l1 l2 : List UpItem) (x : UpItem) (m : MgmtTel), q = l1 ++ x :: l2 → x.content = .place →
    (∀ y ∈ l1, y.content ≠ .place) → fillPlace q m = l1 ++ { x with content := .response m } :: l2)

/-- The scans a removal of an entry that had left its lane starts: its own, and one more where it released a pledge
(R115, R142). -/
def removalScansOf (e : Entry) : List Task := if e.pledged = 0 then [.scan] else [.scan, .scan]

/-- A reply that matches an entry removes the oldest such entry and releases its pledge, and the removal starts release
scans; a supervisory order's is forwarded with SHAPED as the entry carries it and LATE clear, a trip action's DONE is
consumed and any other outcome queues a TRIP_ACTION_FAILED notice. With nothing held nothing else changes (R75, R142,
R143). A reply matches an entry that is SENT, where its destination is the entry's source, the part's own station for a trip
action, and its source, station point and tag are the entry's destination, station point and tag; the port, the action and the
part are not compared (R141). -/
def Obligations.MatchedReplyRemovesTheOldestEntry : Prop :=
  (∀ (s : State) (t : PointTel) (e : Entry), s.replyMatches t e = true ↔
    (∃ k, e.lane = .sent k) ∧ t.dest = (match e.origin with | .supervisory src => src | .part _ => s.station) ∧
      t.src = e.dest ∧ t.point = e.point ∧ t.tag = e.tag) ∧
  (∀ (s : State) (d : DnPort) (t : PointTel) (o : ReplyOutcome) (l1 l2 : List Entry) (e : Entry),
    s.portReady (.dn d) → s.banked → s.PledgeLaw → ReplyOutcome.ofCode t.code = some o →
    s.entries = l1 ++ e :: l2 → s.replyMatches t e = true → (∀ x ∈ l1, s.replyMatches t x = false) →
    ∃ u : State,
      (∀ src, e.origin = .supervisory src →
        u = { s with
          entries := l1 ++ l2
          pledgeSum := s.pledgeSum - e.pledged
          upQueue := upJoin s.upQueue
            (.answer (.point .reply { t with flags := (if e.shaped then 1 else 0) })) }) ∧
      (∀ n, e.origin = .part n → o = .done →
        u = { s with entries := l1 ++ l2, pledgeSum := s.pledgeSum - e.pledged }) ∧
      (∀ n, e.origin = .part n → o ≠ .done →
        u = ({ s with entries := l1 ++ l2, pledgeSum := s.pledgeSum - e.pledged } : State).offerNotice .tripActionFailed
          (some n) e.logical (.outcome o)) ∧
      exec (.reply d t) s = .next ({ u with agenda := removalScansOf e } : State).settled ∧
      (s.held = [] → exec (.reply d t) s = .next u))

/-- A reply that matches no entry, as MatchedReplyRemovesTheOldestEntry says when it does, is forwarded with LATE set and its SHAPED bit as the station sent it; at an answer debt of
120 it is discarded with RECEIVE_REFUSED latched on its port (R144, R161). That the six other flag bits go out as 0, as R155
has the part send them, where R144 has the other fields as the station sent them, is the model's reading
(notes/assumptions/22.md). -/
def Obligations.UnmatchedReplyIsForwardedLate : Prop :=
  ∀ (s : State) (d : DnPort) (t : PointTel), s.portReady (.dn d) → s.banked →
    (ReplyOutcome.ofCode t.code = none ∨ ∀ e ∈ s.entries, s.replyMatches t e = false) →
    (s.debt < 120 → exec (.reply d t) s = .next
      { s with
        upQueue := upJoin s.upQueue
          (.answer (.point .reply { t with flags := (if t.flags.getLsbD 0 then 3 else 2) })) }) ∧
    (120 ≤ s.debt → exec (.reply d t) s = .next
      (s.setPort (.dn d) { s.port (.dn d) with receiveRefused := true }))

/-! ### Telegrams in TRANSPARENT, discarded, and in error -/

/-- In TRANSPARENT a telegram from UP not addressed to the part is copied to the repeat lane of every DN port that is UP with
fewer than 16 copies, and to no other. Every telegram from a DN port is forwarded on UP: a report in the class of reports,
any other in the class of answers while the answer debt is below 120, and otherwise discarded with RECEIVE_REFUSED latched
(R158, R161). -/
def Obligations.TransparentTelegramsAreRepeatedAndForwarded : Prop :=
  (∀ (s : State) (t : Telegram), s.portReady .up → s.mode = .transparent → destOf t ≠ s.station →
    ∃ u, exec (.transparentRepeat t) s = .next u ∧ u = { s with ports := u.ports } ∧ u.port .up = s.port .up ∧
      ∀ d, u.port (.dn d) =
        if (s.port (.dn d)).state = .up ∧ (s.port (.dn d)).repeatLane.length < 16 then
          { s.port (.dn d) with repeatLane := (s.port (.dn d)).repeatLane ++ [t] }
        else s.port (.dn d)) ∧
  (∀ (s : State) (d : DnPort), s.portReady (.dn d) → s.mode = .transparent →
    (∀ r, exec (.transparentForward d (.point .report r)) s = .next { s with upQueue := upReport s.upQueue r }) ∧
    (∀ t : Telegram, (∀ r, t ≠ .point .report r) →
      (s.debt < 120 → exec (.transparentForward d t) s =
        .next { s with upQueue := upJoin s.upQueue (.answer t) }) ∧
      (120 ≤ s.debt → exec (.transparentForward d t) s =
        .next (s.setPort (.dn d) { s.port (.dn d) with receiveRefused := true }))))

/-- A telegram on a port that is not UP, and one of a kind or address its port does not take, is discarded: nothing changes
(R150, R158, R159). A reception on an UP port that ends without its end delimiter, is malformed, or fails its check code is
discarded and CHECK_ERROR is latched, and one that does not is the arrival of its telegram (R153, R154). The part's own station
number, by which it tells what is addressed to it, is 240 and the value of the straps (R157). -/
def Obligations.UntakenTelegramsAndBadReceptionsAreDiscarded : Prop :=
  (∀ s : State, s.station.toNat = 240 + s.straps.toNat) ∧
  (∀ (s : State) (t : Telegram), s.atRest →
    (∀ p, (s.port p).state ≠ .up → exec (.telegramDiscarded p t) s = .next s) ∧
    ((∀ m, t ≠ .mgmt .request m) → destOf t = s.station → exec (.telegramDiscarded .up t) s = .next s) ∧
    (s.banked → (∀ o, t ≠ .point .order o) → destOf t ≠ s.station → exec (.telegramDiscarded .up t) s = .next s) ∧
    (∀ d, s.banked → (∀ r, t ≠ .point .report r) → (∀ r, t ≠ .point .reply r) →
      exec (.telegramDiscarded (.dn d) t) s = .next s)) ∧
  (∀ (s : State) (p : PortId) (rx : Reception), s.portReady p →
    (rx.ending ≠ .endDelimiter ∨ decodeTelegram rx.bytes = none →
      exec (.checkError p rx) s = .next (s.setPort p { s.port p with checkError := true })) ∧
    (∀ t, rx.ending = .endDelimiter → decodeTelegram rx.bytes = some t →
      exec (.checkError p rx) s = exec (.telegramDiscarded p t) s))

/-! ### Management: common handling and tables -/

/-- A request with an unknown code is rejected NOT_LEGAL, and one whose body cannot be read BAD_BODY; nothing else changes
(R174). A body is read where it is its fields in the order of R173, each an enumeration's code, a flag 0 or 1, a number high
byte first or an optional field behind its presence byte, and nothing more; a table's entries fit 240 bytes. That a
presence byte other than 0 and 1 cannot be read, and is rejected BAD_BODY, is the model's reading (notes/assumptions/15.md). -/
def Obligations.UnreadableRequestsAreRejected : Prop :=
  (∀ (s : State) (r : MgmtTel) (rest : List MgmtTel), s.turnOf r rest →
    (r.code.toNat = 0 ∨ 12 < r.code.toNat → exec .unknownRequest s = .next (s.rejectedWith r rest .notLegal)) ∧
    (∀ x ∈ [(Instr.copyToStandby, 3), (.swapBanks, 4), (.goTransparent, 5), (.readStatus, 8), (.resetPart, 12)],
      r.code.toNat = x.2 → r.body ≠ [] → exec x.1 s = .next (s.rejectedWith r rest .badBody)) ∧
    (r.code.toNat = 1 → readWriteBody r.body = none → exec .writeTable s = .next (s.rejectedWith r rest .badBody)) ∧
    (r.code.toNat = 2 → readReadBody r.body = none → exec .readTable s = .next (s.rejectedWith r rest .badBody)) ∧
    (r.code.toNat = 6 → readPhaseBody r.body = none → exec .phase s = .next (s.rejectedWith r rest .badBody)) ∧
    (∀ c ∈ [Instr.campaignStartUp, .campaignWindDown, .campaignAbandon],
      r.code.toNat = 7 → readCampaignBody r.body = none → exec c s = .next (s.rejectedWith r rest .badBody)) ∧
    (r.code.toNat = 9 → readImageBody r.body = none → exec .readImage s = .next (s.rejectedWith r rest .badBody)) ∧
    (r.code.toNat = 10 → readMarksBody r.body = none → exec .clearMarks s = .next (s.rejectedWith r rest .badBody)) ∧
    (r.code.toNat = 11 → readNoticesBody r.body = none → exec .setNotices s = .next (s.rejectedWith r rest .badBody))) ∧
  (∀ (body : List Byte) (b : ReadBody), readReadBody body = some b ↔
    b.first < 65536 ∧ b.count * entryWidth b.table ≤ 240 ∧
      body = [BankId.code b.bank, TableId.code b.table, BitVec.ofNat 8 (b.first / 256), BitVec.ofNat 8 b.first,
        BitVec.ofNat 8 b.count]) ∧
  (∀ (body : List Byte) (n : Nat) (p : Phase),
    readPhaseBody body = some (n, p) ↔ n < 256 ∧ body = [BitVec.ofNat 8 n, Phase.code p]) ∧
  (∀ (body : List Byte) (m : CampaignMode), readCampaignBody body = some m ↔ body = [CampaignMode.code m]) ∧
  (∀ (body : List Byte) (b : ImageBody), readImageBody body = some b ↔
    b.first < 65536 ∧ b.count < 256 ∧
      body = [BitVec.ofNat 8 (b.first / 256), BitVec.ofNat 8 b.first, BitVec.ofNat 8 b.count, if b.clear then 1 else 0]) ∧
  (∀ (body : List Byte) (b : MarksBody), readMarksBody body = some b ↔
    b.first < 65536 ∧ b.count < 65536 ∧
      body = [if b.range then 1 else 0, BitVec.ofNat 8 (b.first / 256), BitVec.ofNat 8 b.first,
        BitVec.ofNat 8 (b.count / 256), BitVec.ofNat 8 b.count, if b.capture then 1 else 0]) ∧
  (∀ body : List Byte, readNoticesBody body = none ↔
    ¬ ∃ (f : List Bool) (x : Bool) (d : Byte), f.length = 7 ∧
      body = f.map (fun b => if b then (1 : Byte) else 0) ++ [if x then 1 else 0, d]) ∧
  (∀ (t h l c : Byte) (bytes : List Byte),
    (TableId.ofCode t = none ∨ (∃ k, TableId.ofCode t = some k ∧
        (bytes.length ≠ c.toNat * entryWidth k ∨ 240 < 4 + bytes.length)) →
      readWriteBody (t :: h :: l :: c :: bytes) = none)) ∧
  (∀ body : List Byte, body.length < 4 → readWriteBody body = none) ∧
  (∀ t, entryWidth t = match t with
    | .windows => 12 | .points => 10 | .sections => 64 | .sets => 139 | .rows => 12 | .budget => 8)

/-- A flag of a body. -/
def flagItem (b : Bool) : Option Byte := some (if b then 1 else 0)
/-- A number of one byte in a body. -/
def byteItem (n : Nat) : Option Byte := some (BitVec.ofNat 8 n)
/-- A number of two bytes in a body, high byte first. -/
def twoItems (n : Nat) : List (Option Byte) := [some (BitVec.ofNat 8 (n / 256)), some (BitVec.ofNat 8 n)]
/-- A set-point, reference or gate set in a body, high byte first. -/
def wordItems (v : Word) : List (Option Byte) := [some (v.extractLsb' 8 8), some (v.extractLsb' 0 8)]
/-- An optional field of `k` bytes: its presence byte, then its bytes, open where it is absent. -/
def optItems (k : Nat) : Option (List (Option Byte)) → List (Option Byte)
  | some l => some 1 :: l
  | none => some 0 :: List.replicate k none
/-- A list of at most `most` entries of `k` bytes: its count byte, its entries, and open bytes in the places beyond. -/
def listItems (most k : Nat) (l : List (List (Option Byte))) : List (Option Byte) :=
  byteItem l.length :: l.flatten ++ List.replicate ((most - l.length) * k) none
/-- An optional number of one byte. -/
def optByte (o : Option Nat) : List (Option Byte) := optItems 1 (o.map (fun n => [byteItem n]))

/-- The 12 bytes of a window in a body (R1, R173). -/
def windowItems (w : Window) : List (Option Byte) :=
  [flagItem w.defined, some (DnPort.code w.port), byteItem w.station] ++ twoItems w.first ++ twoItems w.last ++
    twoItems w.base ++ [flagItem w.guarded, byteItem w.replyTimeout, byteItem w.staleLimit]
/-- The 10 bytes of a point static part in a body (R7, R173). -/
def staticItems (p : PointStatic) : List (Option Byte) :=
  some (PointClass.code p.cls) :: optByte p.sect ++ twoItems p.ratedLoad ++ twoItems p.startCost ++
    byteItem p.startLimit :: twoItems p.deadband
/-- The 64 bytes of a section record in a body (R20, R173). -/
def sectionItems (r : SectionRec) : List (Option Byte) :=
  [flagItem r.defined, some (Role.code r.role), byteItem r.profile] ++
    listItems 3 1 (r.feeds.map (fun n => [byteItem n])) ++ listItems 4 1 (r.needs.map (fun n => [byteItem n])) ++
    optByte r.warmSet ++ optByte r.runSet ++ optByte r.flushSet ++ optByte r.tripSet ++
    listItems 2 4 (r.flowPoints.map (fun f => twoItems f.point ++ wordItems f.threshold)) ++ [byteItem r.confirmTime] ++
    optItems 6 (r.level.map (fun l => twoItems l.point ++ wordItems l.low ++ wordItems l.high)) ++
    optByte r.permitIn ++ optByte r.permitOut ++ [byteItem r.warmLimit, byteItem r.drainLimit] ++
    listItems 4 5 (r.tripActions.map (fun a => twoItems a.point ++ some (Action.code a.action) :: wordItems a.value))
/-- The 17 bytes of a condition in a body (R24, R173): the list of a state test ANY is open (notes/assumptions/44.md). -/
def conditionItems (c : Condition) : List (Option Byte) :=
  twoItems c.point ++
    (match c.states with
     | .any => some 0 :: List.replicate 9 none
     | .oneOf l => some 1 :: listItems 8 1 (l.map (fun x => [some (ReportState.code x)]))) ++
    some (ValueTest.code c.test) :: wordItems c.ref1 ++ wordItems c.ref2
/-- The 139 bytes of a condition set in a body (R24, R173). -/
def setItems (c : ConditionSet) : List (Option Byte) :=
  flagItem c.defined :: some (Combination.code c.combination) :: listItems 8 17 (c.conditions.map conditionItems)
/-- The 12 bytes of a screen row in a body (R80, R173). -/
def rowItems (r : ScreenRow) : List (Option Byte) :=
  some (RowBase.code r.base) :: optByte r.condSet ++ wordItems r.low ++ wordItems r.high ++ twoItems r.ramp ++
    wordItems r.gates ++ [byteItem r.holdLimit]
/-- The 8 bytes of the budget record in a body (R105, R173). -/
def budgetItems (b : BudgetRec) : List (Option Byte) :=
  byteItem b.period :: twoItems b.allowance ++ twoItems b.reserve ++ twoItems b.capacity ++ [byteItem b.tallyInterval]

/-- An optional number is below a bound. -/
def isBelow (bound : Nat) (o : Option Nat) : Prop := ∀ n, o = some n → n < bound
/-- The ranges of a window's fields (R1). -/
def windowOk (w : Window) : Prop :=
  1 ≤ w.station ∧ w.station ≤ 239 ∧ w.first ≤ 1023 ∧ w.last ≤ 1023 ∧ w.base ≤ 2047 ∧
    1 ≤ w.replyTimeout ∧ w.replyTimeout ≤ 255 ∧ 1 ≤ w.staleLimit ∧ w.staleLimit ≤ 255
/-- The ranges of a static part's fields, the loads, costs and limits of a class other than DRIVE being 0 (R7). -/
def staticOk (p : PointStatic) : Prop :=
  isBelow 16 p.sect ∧ p.ratedLoad ≤ 4095 ∧ p.startCost ≤ 4095 ∧ p.startLimit ≤ 15 ∧ p.deadband ≤ 32767 ∧
    (p.cls ≠ .drive → p.ratedLoad = 0 ∧ p.startCost = 0 ∧ p.startLimit = 0)
/-- The ranges of a section record's fields (R20). -/
def sectionOk (r : SectionRec) : Prop :=
  r.profile ≤ 7 ∧ r.feeds.length ≤ 3 ∧ (∀ n ∈ r.feeds, n < 16) ∧ r.feeds.Nodup ∧
    r.needs.length ≤ 4 ∧ (∀ n ∈ r.needs, n < 16) ∧ r.needs.Nodup ∧
    isBelow 64 r.warmSet ∧ isBelow 64 r.runSet ∧ isBelow 64 r.flushSet ∧ isBelow 64 r.tripSet ∧
    r.flowPoints.length ≤ 2 ∧ (∀ f ∈ r.flowPoints, f.point ≤ 2047) ∧ 1 ≤ r.confirmTime ∧ r.confirmTime ≤ 255 ∧
    (∀ l, r.level = some l → l.point ≤ 2047) ∧ isBelow 4 r.permitIn ∧ isBelow 4 r.permitOut ∧
    r.warmLimit ≤ 255 ∧ r.drainLimit ≤ 255 ∧ r.tripActions.length ≤ 4 ∧ ∀ a ∈ r.tripActions, a.point ≤ 2047
/-- The ranges of a condition set's fields: a defined set has 1 to 8 conditions and a ONE_OF list 1 to 8 states (R24). -/
def setOk (c : ConditionSet) : Prop :=
  c.conditions.length ≤ 8 ∧ (c.defined = true → c.conditions ≠ []) ∧
    ∀ x ∈ c.conditions, x.point ≤ 2047 ∧ ∀ l, x.states = .oneOf l → 1 ≤ l.length ∧ l.length ≤ 8
/-- The ranges of a screen row's fields (R80). -/
def rowOk (r : ScreenRow) : Prop := isBelow 64 r.condSet ∧ r.ramp ≤ 32767 ∧ r.holdLimit ≤ 255
/-- The ranges of the budget record's fields (R105). -/
def budgetOk (b : BudgetRec) : Prop :=
  1 ≤ b.period ∧ b.period ≤ 100 ∧ b.allowance ≤ 65535 ∧ b.reserve ≤ 65535 ∧ b.capacity ≤ 65535 ∧
    1 ≤ b.tallyInterval ∧ b.tallyInterval ≤ 255

/-- The place of the first entry of a list that is out of its ranges. -/
def firstOut {α : Type} (ok : α → Prop) (l : List α) : Option Nat → Prop
  | some k => ∃ l1 x l2, l = l1 ++ x :: l2 ∧ l1.length = k ∧ ¬ ok x ∧ ∀ y ∈ l1, ok y
  | none => ∀ x ∈ l, ok x

/-- Data is a run of `n` entries of table `t`, carried as `items`, every entry in its ranges. -/
def dataIs (t : TableId) (n : Nat) (items : List (Option Byte)) : TableData → Prop
  | .windows l => t = .windows ∧ l.length = n ∧ items = l.flatMap windowItems ∧ ∀ x ∈ l, windowOk x
  | .points l => t = .points ∧ l.length = n ∧ items = l.flatMap staticItems ∧ ∀ x ∈ l, staticOk x
  | .sections l => t = .sections ∧ l.length = n ∧ items = l.flatMap sectionItems ∧ ∀ x ∈ l, sectionOk x
  | .sets l => t = .sets ∧ l.length = n ∧ items = l.flatMap setItems ∧ ∀ x ∈ l, setOk x
  | .rows l => t = .rows ∧ l.length = n ∧ items = l.flatMap rowItems ∧ ∀ x ∈ l, rowOk x
  | .budget l => t = .budget ∧ l.length = n ∧ items = l.flatMap budgetItems ∧ ∀ x ∈ l, budgetOk x

/-- The body of a REJECTED response that names an entry: the code, the table code and the index, high byte first (R173,
R174). -/
def rejectedEntry (c : Rejection) (e : EntryRef) : List Byte :=
  [Rejection.code c, TableId.code e.table, BitVec.ofNat 8 (e.index / 256), BitVec.ofNat 8 e.index]

/-- A body carries a content: the same length, and every byte the content gives; the bytes it leaves open are free values in
a response (notes/assumptions/3.md) and are ignored in a request. -/
def carries (body : List Byte) (content : List (Option Byte)) : Prop :=
  body.length = content.length ∧ ∀ (i : Nat) (v : Byte), content[i]? = some (some v) → body[i]? = some v

/-- WRITE_TABLE outside the table is rejected RANGE, with a field out of range FIELD naming the first such entry, and
otherwise stores the run in the standby bank with good integrity codes and sets the standby-written flag; a stored run reads
back in its table and leaves every other entry as it was (R166). An entry is out of range by the ranges of R1, R7, R20, R24,
R80 and R105. A body of at most 240 bytes that carries a run of entries in range, laid out by R173, reads as that run, and
only such a body does. That the list bytes of a state test ANY are ignored and free is the model's choice
(notes/assumptions/44.md). -/
def Obligations.WriteTableStoresInTheStandbyBank : Prop :=
  (∀ (s : State) (r : MgmtTel) (rest : List MgmtTel) (b : WriteBody),
    s.turnOf r rest → r.code.toNat = 1 → readWriteBody r.body = some b →
    (b.count = 0 ∨ 16 < b.count ∨ tableSize b.table < b.first + b.count →
      exec .writeTable s = .next (s.rejectedWith r rest .range)) ∧
    (1 ≤ b.count → b.count ≤ 16 → b.first + b.count ≤ tableSize b.table →
      (∀ k, b.data.firstBad = some k →
        exec .writeTable s = .next (s.answered r rest 1 (rejectedEntry .field ⟨b.table, b.first + k⟩))) ∧
      (b.data.firstBad = none →
        exec .writeTable s = .next
          { (s.setBank s.standby ((s.bank s.standby).store b.first b.data)).answered r rest 0 [] with
            standbyWritten := true }))) ∧
  (∀ l, firstOut windowOk l (TableData.firstBad (.windows l))) ∧
  (∀ l, firstOut staticOk l (TableData.firstBad (.points l))) ∧
  (∀ l, firstOut sectionOk l (TableData.firstBad (.sections l))) ∧
  (∀ l, firstOut setOk l (TableData.firstBad (.sets l))) ∧
  (∀ l, firstOut rowOk l (TableData.firstBad (.rows l))) ∧
  (∀ l, firstOut budgetOk l (TableData.firstBad (.budget l))) ∧
  (∀ t, tableSize t = match t with
    | .windows => 32 | .points => 2048 | .sections => 16 | .sets => 64 | .rows => 392 | .budget => 1) ∧
  (∀ (body : List Byte) (b : WriteBody), b.data.firstBad = none →
    (readWriteBody body = some b ↔
      b.first < 65536 ∧ ∃ bytes items, dataIs b.table b.count items b.data ∧ carries bytes items ∧
        4 + bytes.length ≤ 240 ∧
        body = [TableId.code b.table, BitVec.ofNat 8 (b.first / 256), BitVec.ofNat 8 b.first, BitVec.ofNat 8 b.count] ++
          bytes)) ∧
  (∀ (k : Bank) (first : Nat),
    (∀ l j, (k.store first (.windows l)).window j =
      if h : first ≤ j ∧ j - first < l.length then ⟨l[j - first]'h.2, true⟩ else k.window j) ∧
    (∀ l j, (k.store first (.points l)).pointStatic j =
      if h : first ≤ j ∧ j - first < l.length then ⟨l[j - first]'h.2, true⟩ else k.pointStatic j) ∧
    (∀ l j, (k.store first (.sections l)).sectionRec j =
      if h : first ≤ j ∧ j - first < l.length then ⟨l[j - first]'h.2, true⟩ else k.sectionRec j) ∧
    (∀ l j, (k.store first (.sets l)).condSet j =
      if h : first ≤ j ∧ j - first < l.length then ⟨l[j - first]'h.2, true⟩ else k.condSet j) ∧
    (∀ l j, (k.store first (.rows l)).row j =
      if h : first ≤ j ∧ j - first < l.length then ⟨l[j - first]'h.2, true⟩ else k.row j) ∧
    (∀ x l, (k.store first (.budget (x :: l))).budget = ⟨x, true⟩) ∧
    (∀ d, ∃ w p c e f g, k.store first d = ⟨w, p, c, e, f, g⟩ ∧
      ((∃ l, d = .windows l) ∨ w = k.windows) ∧ ((∃ l, d = .points l) ∨ p = k.points) ∧
      ((∃ l, d = .sections l) ∨ c = k.sections) ∧ ((∃ l, d = .sets l) ∨ e = k.sets) ∧
      ((∃ l, d = .rows l) ∨ f = k.rows) ∧ ((∃ l, d = .budget l) ∨ g = k.budget)))

/-- Request `r` is answered ACCEPTED with a body that carries a content. -/
def acceptedWith (s t : State) (r : MgmtTel) (rest : List MgmtTel) (content : List (Option Byte)) : Prop :=
  ∃ body, carries body content ∧ t = { s.answered r rest 0 body with draws := t.draws }

/-- The bytes of an entry of a bank in a body (R173). -/
def entryItems (b : Bank) (e : EntryRef) : List (Option Byte) :=
  match e.table with
  | .windows => windowItems (b.window e.index).content
  | .points => staticItems (b.pointStatic e.index).content
  | .sections => sectionItems (b.sectionRec e.index).content
  | .sets => setItems (b.condSet e.index).content
  | .rows => rowItems (b.row e.index).content
  | .budget => budgetItems b.budget.content

/-- READ_TABLE outside the table is rejected RANGE; with a faulty entry it is rejected INTEGRITY naming the first, an active
fault where the bank is the active one; and otherwise it returns the entries in index order, laid out by R173 as a
WRITE_TABLE carries them, and changes nothing (R167). That the list bytes of a state test ANY are free is the model's choice
(notes/assumptions/44.md). -/
def Obligations.ReadTableReturnsTheEntries : Prop :=
  ∀ (s : State) (r : MgmtTel) (rest : List MgmtTel) (b : ReadBody),
    s.turnOf r rest → r.code.toNat = 2 → readReadBody r.body = some b →
    (b.count = 0 ∨ 16 < b.count ∨ tableSize b.table < b.first + b.count →
      exec .readTable s = .next (s.rejectedWith r rest .range)) ∧
    (1 ≤ b.count → b.count ≤ 16 → b.first + b.count ≤ tableSize b.table →
      (∀ k < b.count, (∀ j < k, (s.bank b.bank).entryGood ⟨b.table, b.first + j⟩ = true) →
        (s.bank b.bank).entryGood ⟨b.table, b.first + k⟩ = false →
        exec .readTable s = .next
          (if s.active = some b.bank then
            (s.answered r rest 1 (rejectedEntry .integrity ⟨b.table, b.first + k⟩)).activeFault ⟨b.table, b.first + k⟩
          else s.answered r rest 1 (rejectedEntry .integrity ⟨b.table, b.first + k⟩))) ∧
      ((∀ k < b.count, (s.bank b.bank).entryGood ⟨b.table, b.first + k⟩ = true) →
        ∃ t, exec .readTable s = .next t ∧
          acceptedWith s t r rest
            ((List.range b.count).flatMap (fun k => entryItems (s.bank b.bank) ⟨b.table, b.first + k⟩))))

/-- Entry `e` comes before entry `f` in table and index order (R164, R168). -/
def entryBefore (e f : EntryRef) : Prop :=
  (TableId.code e.table).toNat < (TableId.code f.table).toNat ∨ (e.table = f.table ∧ e.index < f.index)

/-- COPY_TO_STANDBY is rejected NOT_LEGAL in TRANSPARENT; with a faulty entry in the active bank it is rejected INTEGRITY
naming the first, an active fault; and otherwise the standby bank receives every entry of the active bank (R164, R167). That the
first is so in the order of the tables and indices, which R168 gives for the swap check alone, is the model's choice
(notes/assumptions/48.md). -/
def Obligations.CopyToStandbyCopiesTheActiveBank : Prop :=
  (∀ (s : State) (r : MgmtTel) (rest : List MgmtTel), s.turnOf r rest → r.code.toNat = 3 → r.body = [] →
    (s.mode = .transparent → exec .copyToStandby s = .next (s.rejectedWith r rest .notLegal)) ∧
    (s.banked → s.activeBank.firstFault = none →
      exec .copyToStandby s = .next
        { (s.setBank s.standby s.activeBank).answered r rest 0 [] with standbyWritten := true }) ∧
    (∀ e, s.banked → s.activeBank.firstFault = some e →
      exec .copyToStandby s = .next ((s.answered r rest 1 (rejectedEntry .integrity e)).activeFault e))) ∧
  (∀ b : Bank, b.wf = true →
    (b.firstFault = none ↔ ∀ e, b.entryGood e = true) ∧
    (∀ e, b.firstFault = some e → b.entryGood e = false ∧ ∀ f, entryBefore f e → b.entryGood f = true))

/-! ### The swap, and leaving the active bank -/

/-- One item of the swap check over one table: its code, its table with its size, and the entries it fails on (R169). -/
structure CheckItem where
  code : Rejection
  table : TableId
  size : Nat
  fails : Nat → Prop

/-- Section `n` of a bank is defined and feeds the defined section `m`. -/
def feedsSection (b : Bank) (n m : Nat) : Prop :=
  n < 16 ∧ m < 16 ∧ b.isDefined n = true ∧ b.isDefined m = true ∧ m ∈ (b.sec n).feeds

/-- Section `m` of a bank is a defined STORE. -/
def storeSection (b : Bank) (m : Nat) : Prop := b.isDefined m = true ∧ (b.sec m).role = .store

/-- A logical point lies in no defined window's logical range (R2). -/
def unmapped (b : Bank) (p : Nat) : Prop := ∀ i < 32, (b.win i).holds p = false

/-- A flow point or level point is unmapped, or of class GATESET (R21). -/
def badFlow (b : Bank) (p : Nat) : Prop := unmapped b p ∨ (b.pointStatic p).content.cls = .gateset

/-- An optional set is named and not defined. -/
def setUndefined (b : Bank) (o : Option Nat) : Prop := ∃ k, o = some k ∧ (b.condSet k).content.defined = false

/-- Items 2 to 15 of the swap check in their order, each by the table it reports from; items 9 and 10 look at section records,
sets and rows in the order of the tables (R168, R169). That items 5 to 7, 9, 10 and 12 look at records and sets whose defined
flag is clear too, and that item 14 reads the phases alone, is notes/assumptions/26.md. -/
def checkItems (s : State) (b : Bank) : List CheckItem :=
  [⟨.logicalOverlap, .windows, 32, fun i => ∃ j < 32, i < j ∧ ∃ p, (b.win i).holds p = true ∧ (b.win j).holds p = true⟩,
   ⟨.windowRange, .windows, 32, fun i => (b.win i).defined = true ∧
     ((b.win i).last < (b.win i).first ∨ 2047 < (b.win i).base + ((b.win i).last - (b.win i).first) ∨
      ∀ x, (b.win i).first ≤ x → x ≤ (b.win i).last → ∃ j < i, (b.win j).covers (b.win i).station x = true)⟩,
   ⟨.feedsCycle, .sections, 16, fun n => Relation.TransGen (feedsSection b) n n⟩,
   ⟨.needNotUtility, .sections, 16, fun n =>
     ∃ m ∈ (b.sec n).needs, m = n ∨ b.isDefined m = false ∨ (b.sec m).role ≠ .utility⟩,
   ⟨.storeFeed, .sections, 16, fun n =>
     (∃ m ∈ (b.sec n).feeds, storeSection b m) ∧ ∃ m ∈ (b.sec n).feeds, ¬ storeSection b m⟩,
   ⟨.sectionField, .sections, 16, fun n =>
     (∃ m ∈ (b.sec n).feeds, b.isDefined m = false) ∨ ((b.sec n).role = .store ∧ (b.sec n).level = none) ∨
     ((b.sec n).role ≠ .store ∧ (b.sec n).level ≠ none) ∨ (∃ f ∈ (b.sec n).flowPoints, badFlow b f.point) ∨
     (∃ l, (b.sec n).level = some l ∧ badFlow b l.point) ∨
     ∃ a ∈ (b.sec n).tripActions, a.action = .gates ∨ a.action = .resetFault ∨ unmapped b a.point⟩,
   ⟨.noSection, .points, 2048, fun p => (b.pointStatic p).content.cls ≠ .measure ∧
     ∀ n, (b.pointStatic p).content.sect = some n → b.isDefined n = false⟩,
   ⟨.conditionUnmapped, .sections, 16, fun n => setUndefined b (b.sec n).warmSet ∨ setUndefined b (b.sec n).runSet ∨
     setUndefined b (b.sec n).flushSet ∨ setUndefined b (b.sec n).tripSet⟩,
   ⟨.conditionUnmapped, .sets, 64, fun k => ∃ x ∈ (b.condSet k).content.conditions, unmapped b x.point⟩,
   ⟨.conditionUnmapped, .rows, 392, fun i => setUndefined b (b.row i).content.condSet⟩,
   ⟨.lowAboveHigh, .sections, 16, fun n => ∃ l, (b.sec n).level = some l ∧ l.high.toInt < l.low.toInt⟩,
   ⟨.lowAboveHigh, .sets, 64, fun k => ∃ x ∈ (b.condSet k).content.conditions,
     (x.test = .between ∨ x.test = .outside) ∧ x.ref2.toInt < x.ref1.toInt⟩,
   ⟨.lowAboveHigh, .rows, 392, fun i => (b.row i).content.high.toInt < (b.row i).content.low.toInt⟩,
   ⟨.reserveAboveAllowance, .budget, 1, fun _ => b.budget.content.allowance < b.budget.content.reserve⟩,
   ⟨.startTripAction, .sections, 16, fun n => ∃ a ∈ (b.sec n).tripActions, a.action = .start⟩,
   ⟨.permitOutShared, .sections, 16, fun n => b.isDefined n = true ∧ (b.sec n).permitOut ≠ none ∧
     ∃ m < 16, n < m ∧ b.isDefined m = true ∧ (b.sec m).permitOut = (b.sec n).permitOut⟩,
   ⟨.sectionInUse, .sections, 16, fun n =>
     s.phaseOf n ≠ .idle ∧ b.isDefined n = false⟩,
   ⟨.needConflict, .sections, 16, fun n =>
     (s.phaseOf n).working = true ∧ ∃ m ∈ (b.sec n).needs, s.phaseOf m ≠ .running⟩]

/-- SWAP_BANKS starts a check; while it runs no request is taken. A check that ends at a failing item is answered with its
code and entry and changes nothing else; with no check in progress its end is nothing (R168, R169, R174). The failure is the
first damaged entry, INTEGRITY; with none, the lowest-numbered entry of the first item that fails on any; and there is none
where every entry is good and every item passes. That items 5 to 7, 9, 10 and 12 look also at section records and condition sets
whose defined flag is clear, and that item 14 takes a section that is not IDLE as one of the active bank, whose record it does not
read, are the model's readings (notes/assumptions/26.md). -/
def Obligations.SwapCheckRunsAndRejects : Prop :=
  (∀ (s : State) (r : MgmtTel) (rest : List MgmtTel), s.turnOf r rest → r.code.toNat = 4 → r.body = [] →
    exec .swapBanks s = .next { s with requests := rest, swapCheck := some ⟨r.src, r.tag, 0⟩ }) ∧
  (∀ (s : State) (k : SwapCheck), s.atRest → s.swapCheck = some k →
    (∀ c ∈ [Instr.unknownRequest, .writeTable, .readTable, .copyToStandby, .swapBanks, .goTransparent, .phase,
        .campaignStartUp, .campaignWindDown, .campaignAbandon, .readStatus, .readImage, .clearMarks, .setNotices,
        .resetPart], exec c s = .next s) ∧
    (∀ f, s.swapFailure (s.bank s.standby) = some f →
      exec .swapCheckEnd s = .next
        { s with
          swapCheck := none
          upQueue := fillPlace s.upQueue ⟨k.src, s.station, k.tag, 1, rejectedEntry f.code f.entry⟩ })) ∧
  (∀ s : State, s.atRest → s.swapCheck = none → exec .swapCheckEnd s = .next s) ∧
  (∀ (s : State) (b : Bank), b.wf = true →
    (∀ f, s.swapFailure b = some f →
      (f.code = .integrity ∧ b.entryGood f.entry = false ∧ ∀ e, entryBefore e f.entry → b.entryGood e = true) ∨
      ((∀ e, b.entryGood e = true) ∧
        ∃ l1 x l2 i, checkItems s b = l1 ++ x :: l2 ∧ f = ⟨x.code, ⟨x.table, i⟩⟩ ∧ i < x.size ∧ x.fails i ∧
          (∀ j < i, ¬ x.fails j) ∧ ∀ y ∈ l1, ∀ j < y.size, ¬ y.fails j)) ∧
    (s.swapFailure b = none ↔
      (∀ e, b.entryGood e = true) ∧ ∀ x ∈ checkItems s b, ∀ j < x.size, ¬ x.fails j))

/-- A swap out of TRANSPARENT, with every section IDLE and nothing held: the markers, the mode and the flag change, the
response and then the BANK_SWAPPED notice are queued, the first budget period and the tally timer start from the new record,
every PERMIT-OUT is deasserted, and nothing else changes (R101, R106, R170). -/
def Obligations.SwapOutOfTransparentStartsTheFirstPeriod : Prop :=
  ∀ (s : State) (k : SwapCheck), s.atRest → s.mode = .transparent → s.active = none → s.swapCheck = some k →
    s.swapFailure (s.bank s.standby) = none → s.held = [] → s.campaign = .outOfCampaign →
    (∀ n < 16, s.phaseOf n = .idle) →
    ∃ t, exec .swapCheckEnd s = .next t ∧
      (∀ i < 4, t.permitOutLevel i = false) ∧
      t = { ({ s with
              swapCheck := none
              upQueue := fillPlace s.upQueue ⟨k.src, s.station, k.tag, 0, []⟩ } : State).offerNotice .bankSwapped none none
              (.partMode .transparent) with
        active := some s.standby
        standby := s.standby.other
        mode := .screening
        fault := false
        standbyWritten := false
        remaining := (s.bank s.standby).budget.content.allowance
        unusedReserve := (s.bank s.standby).budget.content.reserve
        periodNumber := 0
        periodTimer := some ⟨s.clock, (s.bank s.standby).budget.content.period⟩
        tallyTimer := some ⟨s.clock, (s.bank s.standby).budget.content.tallyInterval⟩
        permitOut := t.permitOut }

/-- What a swap from bank `old` to bank `new` takes of the old bank, by point or section: whether the class of a point is
unchanged, whether a section was defined, and whether its flow points are unchanged. It is what the old entry says where that
reads good. A damaged entry is not used (R165): a section that is not IDLE, or has its change mark or its
overdue-noticed flag set, was then defined (R22), and everything else is open (notes/assumptions/36.md). -/
def oldBankSays (s : State) (old new : Bank) (same was flow : Nat → Bool) : Prop :=
  (∀ p, (old.pointStatic p).good = true →
    (same p = true ↔ (old.pointStatic p).content.cls = (new.pointStatic p).content.cls)) ∧
  (∀ n, (old.sectionRec n).good = true →
    was n = old.isDefined n ∧ (flow n = true ↔ (old.sec n).flowPoints = (new.sec n).flowPoints)) ∧
  (∀ n, (old.sectionRec n).good = false →
    (s.phaseOf n ≠ .idle ∨ (s.sect n).mark = true ∨ (s.sect n).overdue = true) → was n = true)

/-- The dynamic part of point `p` carried across a swap to bank `new` (R19). -/
def pointCarried (s : State) (new : Bank) (same : Nat → Bool) (p : Nat) : PointDyn :=
  if same p = false then
    { s.point p with report := none, fresh := false, mark := true, setPoint := none }
  else
    match new.storedWindowOf p, (s.point p).report with
    | none, _ => { s.point p with fresh := false }
    | some w, some rep => { s.point p with fresh := (s.point p).fresh && !decide (10 * w.staleLimit ≤ s.elapsed rep.time) }
    | some _, none => s.point p

/-- The run-empty state on entry to DRAINING: CONFIRMED with no flow point, COUNTING from the clock value with every flow point
FRESH and at or below its threshold, and otherwise NOT_COUNTING (R35). -/
def emptyOnEntry (s : State) (flow : List FlowPoint) : RunEmpty :=
  if flow = [] then .confirmed
  else if flow.all (fun f =>
      match (s.point f.point).report with
      | some rep => (s.point f.point).fresh && decide (rep.value.toInt ≤ f.threshold.toInt)
      | none => false) then .counting s.clock
  else .notCounting

/-- The run-empty state of a section carried across a swap (R46): of a DRAINING section, set as on entry where the flow points
differ, and otherwise kept, a count being lost at a STALE flow point (R37) before it is confirmed where the new confirm time has
run (notes/assumptions/40.md). `u` is the state with the image carried. -/
def runEmptyCarried (s u : State) (new : SectionRec) (same : Bool) (n : Nat) : RunEmpty :=
  if s.phaseOf n ≠ .draining then (s.sect n).runEmpty
  else if same = false then emptyOnEntry u new.flowPoints
  else if new.flowPoints.any (fun f => !(u.point f.point).fresh) then .notCounting
  else
    match (s.sect n).runEmpty with
    | .counting t => if 10 * new.confirmTime ≤ s.elapsed t then .confirmed else .counting t
    | e => e

/-- The new limit of a section's stay has run with its overdue flag clear (R40, R46). -/
def overdueAtSwap (s : State) (new : Bank) (was : Nat → Bool) (n : Nat) : Bool :=
  was n && new.isDefined n && stayLimit (new.sec n) (s.phaseOf n) != 0 && !(s.sect n).overdue &&
    decide (600 * stayLimit (new.sec n) (s.phaseOf n) ≤ s.elapsed (s.sect n).entryTime)

/-- The dynamic state of a section carried across a swap (R46). -/
def sectionCarried (s u : State) (new : Bank) (was flow : Nat → Bool) (n : Nat) : SectionDyn :=
  if was n then
    if new.isDefined n then
      { s.sect n with
        runEmpty := runEmptyCarried s u (new.sec n) (flow n) n
        overdue := (s.sect n).overdue || overdueAtSwap s new was n }
    else { s.sect n with mark := false }
  else if new.isDefined n then ⟨.idle, s.clock, none, .notCounting, false, false⟩
  else s.sect n

/-- The halt the swap makes at a section: TRIP by its new trip set, otherwise LOST_SIGNAL by a STALE point of it, otherwise
PERMIT_LOST (R71). -/
def haltAtSwap (u : State) (n : Nat) : Option HaltCause :=
  match u.definedRec n with
  | none => none
  | some c =>
    if (u.phaseOf n).working && u.setHoldsOr false c.tripSet then some .trip
    else if u.phaseOf n = .ready ∨ u.phaseOf n = .running then
      if u.setHasStale c.tripSet then some .lostSignal else if u.permitOk c then none else some .permitLost
    else none

/-- The logical point of a station's station point under the active bank, where it is covered (R3). -/
def pointUnder (u : State) (dest : Byte) (point : Word) : Option Nat :=
  match u.covering dest point with
  | .window _ w => some (w.logicalOf point.toNat)
  | _ => none

/-- A swap in service. The banks change roles with their contents kept, the part is SCREENING with FAULT deasserted, and the
BANK_SWAPPED notice follows the response (R170). Every point is kept, made STALE or cleared by its class and mapping (R19);
every section keeps its state by R46, and one whose new limit has run queues its PHASE_OVERDUE notice, after the response and the
BANK_SWAPPED notice and in the order of the sections (notes/assumptions/21.md); R and V are clamped, L is the new sum over the image, and the timers run against the new lengths, a boundary or a decay being made at the
swap where its time has run (R101, R116); held records and general entries take their logical point under the new bank (R131,
R148); PERMIT-OUT follows the new naming (R42). The event goes on with the halts of R71, which end HALTED, the re-examination
of every section, the completion test and a scan. With no order held nothing else of this is changed. What a damaged entry of the
old bank stands for is free (notes/assumptions/36.md); that flow points are compared as ordered lists, and that staleness at the
swap is taken before a confirm time that has run, are the model's readings (notes/assumptions/37.md,
notes/assumptions/40.md). -/
def Obligations.SwapInServiceCarriesTheImageAndBudget : Prop :=
  ∀ (s : State) (k : SwapCheck) (i : BankId) (p q : Timer) (b : BudgetRec), s.atRest → s.banked → s.active = some i →
    s.standby = i.other → s.swapCheck = some k → s.swapFailure (s.bank i.other) = none →
    b = (s.bank i.other).budget.content → s.periodTimer = some p → s.tallyTimer = some q →
    Store.wf PointDyn.clear s.image = true →
    ∃ (u v x t : State) (same was flow : Nat → Bool), exec .swapCheckEnd s = .next t ∧ t = u.settled ∧
      oldBankSays s (s.bank i) (s.bank i.other) same was flow ∧
      v = ({ s with
          swapCheck := none
          upQueue := fillPlace s.upQueue ⟨k.src, s.station, k.tag, 0, []⟩ } : State).offerNotice .bankSwapped none none
        (.partMode s.mode) ∧
      (∀ n, u.point n =
        { (if n < 2048 then pointCarried s (s.bank i.other) same n else s.point n) with
          tally := if 600 * b.tallyInterval ≤ s.elapsed q.start then (s.point n).tally - 1 else (s.point n).tally }) ∧
      (∀ n, u.sect n = if n < 16 then sectionCarried s u (s.bank i.other) was flow n else s.sect n) ∧
      x = ((List.range 16).filter (overdueAtSwap s (s.bank i.other) was)).foldl
        (fun y n => y.offerNotice .phaseOverdue (some n) none (.phase (s.phaseOf n))) v ∧
      (∀ j < 4, u.permitOutLevel j = true ↔
        ∃ n < 16, ∃ c, u.definedRec n = some c ∧ c.permitOut = some j ∧ u.phaseOf n = .running) ∧
      (∀ j, 4 ≤ j → u.permitOutLevel j = s.permitOutLevel j) ∧
      (∃ m, u.agenda = List.replicate m .scan ++
        (List.range 16).filterMap (fun n => (haltAtSwap u n).map (fun h => Task.haltFirst n h)) ++
        (List.range 16).map Task.reexamine ++ [.completion, .scan]) ∧
      u = { s with
        active := some i.other
        standby := i
        mode := .screening
        fault := false
        standbyWritten := false
        swapCheck := none
        image := u.image
        sects := u.sects
        remaining := if b.period ≤ s.elapsed p.start then b.allowance else min s.remaining b.allowance
        unusedReserve := if b.period ≤ s.elapsed p.start then b.reserve
          else min s.unusedReserve (min b.reserve (min s.remaining b.allowance))
        periodNumber := if b.period ≤ s.elapsed p.start then (s.periodNumber + 1) % 65536 else s.periodNumber
        periodTimer := some ⟨if b.period ≤ s.elapsed p.start then s.clock else p.start, b.period⟩
        tallyTimer := some ⟨if 600 * b.tallyInterval ≤ s.elapsed q.start then s.clock else q.start, b.tallyInterval⟩
        load := loadOver (s.bank i.other) u.image
        held := s.held.map (fun h => { h with point := pointUnder u h.tel.dest h.tel.point })
        entries := s.entries.map (fun e => if e.part = .general then { e with logical := pointUnder u e.dest e.point } else e)
        upQueue := x.upQueue
        noticeLost := x.noticeLost
        permitOut := u.permitOut
        agenda := u.agenda
        draws := u.draws } ∧
      (∀ n < 16, ∀ h, haltAtSwap u n = some h → ∃ h' ∈ [h, .needLost, .feedStop], nowHalted s t n h') ∧
      (s.held = [] → t = { u with
        sects := t.sects
        permitOut := t.permitOut
        campaign := t.campaign
        entries := t.entries
        nextSeq := t.nextSeq
        tagCounter := t.tagCounter
        upQueue := t.upQueue
        noticeLost := t.noticeLost
        agenda := t.agenda
        draws := t.draws })

/-- The state after every held order and every supervisory outstanding order has been refused PART_RESET, oldest first, and
every entry has gone (R134, R147). DESIGN CHOICE: every held order comes before every outstanding one
(notes/assumptions/21.md). -/
def ordersDropped (s : State) : State :=
  let u := s.held.foldl (fun u h => u.refusedWith h.tel .partReset) { s with held := [] }
  { s.entries.foldl (fun u e => if e.isSupervisory then u.refusedWith (s.entryTel e) .partReset else u) u with
    entries := [] }

/-- GO_TRANSPARENT is rejected NOT_LEGAL in TRANSPARENT or inside a campaign, and IN_USE with a section that is not IDLE;
accepted, it refuses every order PART_RESET, then answers, returns the image, sections, budget and outputs to their reset
values and leaves both banks as they are (R8, R22, R42, R118, R172). That the held orders are refused before the outstanding
ones is the model's choice: R134, R147 and R172 list the two without an order (notes/assumptions/21.md). -/
def Obligations.GoTransparentEndsTheUseOfTheBank : Prop :=
  ∀ (s : State) (r : MgmtTel) (rest : List MgmtTel), s.turnOf r rest → r.code.toNat = 5 → r.body = [] →
    (s.mode = .transparent ∨ s.campaign ≠ .outOfCampaign →
      exec .goTransparent s = .next (s.rejectedWith r rest .notLegal)) ∧
    (s.banked → s.campaign = .outOfCampaign → (∃ n < 16, s.phaseOf n ≠ .idle) →
      exec .goTransparent s = .next (s.rejectedWith r rest .inUse)) ∧
    (∀ i, s.banked → s.active = some i → s.campaign = .outOfCampaign → (∀ n < 16, s.phaseOf n = .idle) →
      ∃ t, exec .goTransparent s = .next t ∧
        (∀ n < 16, t.sect n = ⟨.idle, (s.sect n).entryTime, none, .notCounting, false, false⟩) ∧
        (∀ n, 16 ≤ n → t.sect n = s.sect n) ∧
        (∀ k < 4, t.permitOutLevel k = false) ∧ (∀ k, 4 ≤ k → t.permitOutLevel k = s.permitOutLevel k) ∧
        t = { (ordersDropped s).answered r rest 0 [] with
          remaining := 0
          unusedReserve := 0
          periodNumber := 0
          load := 0
          pledgeSum := 0
          image := []
          periodTimer := none
          tallyTimer := none
          sects := t.sects
          permitOut := t.permitOut
          mode := .transparent
          active := none
          standby := i
          standbyWritten := false
          fault := false })

/-- RESET_PART is rejected FAIL_HOLD in FAIL_HOLD and otherwise NOT_LEGAL inside a campaign; accepted, it refuses every order
PART_RESET, then answers, returns the image, sections, budget figures and PERMIT-OUT to their reset values, and keeps
everything else (R8, R22, R42, R118, R179). That the held orders are refused before the outstanding ones is the model's choice:
R134, R147 and R179 list the two without an order (notes/assumptions/21.md). -/
def Obligations.ResetPartReturnsTheDynamicState : Prop :=
  ∀ (s : State) (r : MgmtTel) (rest : List MgmtTel), s.turnOf r rest → r.code.toNat = 12 → r.body = [] →
    (s.mode = .failHold → exec .resetPart s = .next (s.rejectedWith r rest .failHold)) ∧
    (s.mode ≠ .failHold → s.campaign ≠ .outOfCampaign → exec .resetPart s = .next (s.rejectedWith r rest .notLegal)) ∧
    (s.mode ≠ .failHold → s.campaign = .outOfCampaign →
      ∃ t, exec .resetPart s = .next t ∧
        (∀ n < 16, t.sect n = ⟨.idle, s.clock, none, .notCounting, false, false⟩) ∧
        (∀ n, 16 ≤ n → t.sect n = s.sect n) ∧
        (∀ k < 4, t.permitOutLevel k = false) ∧ (∀ k, 4 ≤ k → t.permitOutLevel k = s.permitOutLevel k) ∧
        t = { (ordersDropped s).answered r rest 0 [] with
          remaining := 0
          unusedReserve := 0
          periodNumber := 0
          load := 0
          pledgeSum := 0
          image := []
          sects := t.sects
          permitOut := t.permitOut })

/-! ### PHASE and CAMPAIGN -/

/-- The checks 4 to 11 of a PHASE request that its state fails, in their order, with their codes (R43). -/
def phaseFailures (s : State) (n : Nat) (r : SectionRec) (q : Requirement) : List Rejection :=
  (if q.haltLine ∧ s.campaignHalt then [.haltLine] else []) ++
  (if q.dependents ∧ r.role = .utility ∧ ∃ m ∈ s.dependents n, (s.phaseOf m).finished = false then [.inUse] else []) ++
  (if q.needs ∧ ∃ m ∈ r.needs, s.phaseOf m ≠ .running then [.condition] else []) ++
  (if q.permit ∧ s.permitOk r = false then [.permit] else []) ++
  (if q.feeds ∧ s.feedsOpen r = false then [.condition] else []) ++
  (if q.deciding.any (s.staleBlocked r) then [.stale] else []) ++
  (if q.deciding.any (fun d => !s.decidingHolds r d) then [.condition] else []) ++
  (if q.drained ∧ ((s.sect n).runEmpty ≠ .confirmed ∨ ∃ m ∈ s.feeders n, (s.phaseOf m).finished = false)
    then [.condition] else [])

/-- A phase change of section `n` with record `c` concerns section `m`: it is `n` itself, or one of the two needs or feeds the
other (R32). -/
def concerns (s : State) (n : Nat) (c : SectionRec) (m : Nat) : Prop :=
  m < 16 ∧ (m = n ∨ m ∈ c.needs ∨ m ∈ c.feeds ∨ ∃ f, s.definedRec m = some f ∧ (n ∈ f.needs ∨ n ∈ f.feeds))

/-- What a phase change of section `n` with record `c` into phase `p`, other than HALTED, starts: TRIP where the section works in
`p` and its trip set holds, otherwise LOST_SIGNAL where `p` is READY or RUNNING and the trip set names a STALE point (R64, R65);
the re-examination of the sections it concerns (R32), the completion test (R59) and a release scan
(R124). -/
def startedBy (s : State) (n : Nat) (c : SectionRec) (p : Phase) (l : List Task) : Prop :=
  ∃ (h : List Task) (re : List Nat), l = h ++ re.map Task.reexamine ++ [.completion, .scan] ∧
    (∀ m, m ∈ re ↔ concerns s n c m) ∧
    h =
      if p ∈ [Phase.warming, .ready, .running, .draining] ∧ s.setHoldsOr false c.tripSet = true then [.halt n .trip]
      else if p ∈ [Phase.ready, .running] ∧ s.setHasStale c.tripSet = true then [.halt n .lostSignal]
      else []

/-- A phase change of section `n` with record `c` into phase `p`, other than HALTED, makes `t` of `s`: the entry time, cleared
flag, run-empty state and mark are set, the halt cause goes, the PHASE_CHANGED notice is offered, PERMIT-OUT follows, and what
the change starts joins the event (R27, R35, R39, R42, R63). -/
def phaseChanged (s : State) (n : Nat) (c : SectionRec) (p : Phase) (t : State) : Prop :=
  ∃ (v u : State) (l : List Task),
    v = (s.setSect n
        ⟨p, s.clock, none, (if p = .draining then emptyOnEntry s c.flowPoints else .notCounting), false, true⟩).offerNotice
      .phaseChanged (some n) none (.phase p) ∧
    (c.permitOut = none → u = v) ∧ (∀ k, c.permitOut = some k → u = v.setPermitOut k (p == .running)) ∧
    startedBy u n c p l ∧ t = { u with agenda := s.agenda ++ l }

/-- A PHASE request that fails no check makes the phase change: the entry time, cleared flag, run-empty state and mark are
set, the halt cause goes, the PHASE_CHANGED notice is queued and the response fills its place, PERMIT-OUT follows, and the
event goes on with what the change starts: a halt by its own trip set, the re-examination of the sections it concerns, the
completion test and a scan (R27, R32, R35, R39, R42, R43, R45, R59, R64, R65). -/
def Obligations.AcceptedPhaseRequestMakesTheChange : Prop :=
  ∀ (s : State) (r : MgmtTel) (rest : List MgmtTel) (n : Nat) (p : Phase) (c : SectionRec) (q : Requirement),
    s.turnOf r rest → r.code.toNat = 6 → readPhaseBody r.body = some (n, p) → s.mode = .screening →
    (∀ e, s.activeBank.entryGood e = true) → n < 16 → s.definedRec n = some c → ladder (s.phaseOf n) p = some q →
    (q.notWindDown = true → s.campaign ≠ .windDown) → phaseFailures s n c q = [] →
    ∃ t, phaseChanged s n c p t ∧ exec .phase s = .next (t.answered r rest 0 []).settled

/-- A PHASE request is rejected NOT_LEGAL in TRANSPARENT, FAIL_HOLD in FAIL_HOLD, NOT_LEGAL where the pair is no transition of
the ladder for a defined section or WIND_DOWN bars it, and otherwise with the code of the first check it fails; STALE alone
sets the section's mark. Nothing else changes (R43, R44). -/
def Obligations.RejectedPhaseRequestChangesNothing : Prop :=
  ∀ (s : State) (r : MgmtTel) (rest : List MgmtTel) (n : Nat) (p : Phase),
    s.turnOf r rest → r.code.toNat = 6 → readPhaseBody r.body = some (n, p) →
    (s.mode = .transparent → exec .phase s = .next (s.rejectedWith r rest .notLegal)) ∧
    (s.mode = .failHold → exec .phase s = .next (s.rejectedWith r rest .failHold)) ∧
    (s.mode = .screening → (∀ e, s.activeBank.entryGood e = true) →
      (16 ≤ n → exec .phase s = .next (s.rejectedWith r rest .notLegal)) ∧
      (s.definedRec n = none → exec .phase s = .next (s.rejectedWith r rest .notLegal)) ∧
      (ladder (s.phaseOf n) p = none → exec .phase s = .next (s.rejectedWith r rest .notLegal)) ∧
      (s.phaseOf n = .draining → p = .running → s.campaign = .windDown →
        exec .phase s = .next (s.rejectedWith r rest .notLegal)) ∧
      (∀ c q k l, n < 16 → s.definedRec n = some c → ladder (s.phaseOf n) p = some q →
        (q.notWindDown = true → s.campaign ≠ .windDown) → phaseFailures s n c q = k :: l →
        exec .phase s = .next ((if k = .stale then s.setSect n { s.sect n with mark := true } else s).rejectedWith r rest k)))

/-- CAMPAIGN by the table of R48: what rejects each target; an accepted one sets the mode, queues the CAMPAIGN_MODE notice and
the response, and goes on with the re-examination of every section and, for START_UP and WIND_DOWN, the completion test;
ABANDON outside a campaign changes no mode. The test succeeds, every record reading good, in START_UP with every defined section
RUNNING, for IN_CAMPAIGN, and in WIND_DOWN with every defined section IDLE, for OUT_OF_CAMPAIGN; it then changes the mode with its
notice and re-examinations, and otherwise nothing, the first damaged record being taken as a fault. A START_UP or WIND_DOWN that
finds its test so passes on at once, and changes nothing else (R48 to R52, R57 to R59). That a test which meets a damaged record
does not succeed is the model's reading (notes/assumptions/16.md). -/
def Obligations.CampaignRequestsFollowTheirTable : Prop :=
  (∀ (s : State) (m : CampaignMode), s.completionMode = some m ↔
    s.recordsGood ∧
      ((s.campaign = .startUp ∧ m = .inCampaign ∧ ∀ n < 16, ∀ c, s.definedRec n = some c → s.phaseOf n = .running) ∨
       (s.campaign = .windDown ∧ m = .outOfCampaign ∧ ∀ n < 16, ∀ c, s.definedRec n = some c → s.phaseOf n = .idle))) ∧
  (∀ s : State,
    (s.campaign ≠ .startUp → s.campaign ≠ .windDown → s.testCompletion = s) ∧
    (s.recordsGood → s.completionMode = none → s.testCompletion = s) ∧
    (∀ m, s.completionMode = some m → s.testCompletion =
      { ({ s with campaign := m } : State).offerNotice .campaignMode none none (.campaign m) with
        agenda := s.agenda ++ (List.range 16).map Task.reexamine }) ∧
    (∀ n < 16, (s.campaign = .startUp ∨ s.campaign = .windDown) → (s.activeBank.sectionRec n).good = false →
      (∀ m < n, (s.activeBank.sectionRec m).good = true) → s.testCompletion = s.activeFault ⟨.sections, n⟩)) ∧
  ∀ (s : State) (r : MgmtTel) (rest : List MgmtTel), s.turnOf r rest → r.code.toNat = 7 →
    (readCampaignBody r.body = some .startUp →
      (s.mode = .transparent → exec .campaignStartUp s = .next (s.rejectedWith r rest .notLegal)) ∧
      (s.mode = .failHold → exec .campaignStartUp s = .next (s.rejectedWith r rest .failHold)) ∧
      (s.mode = .screening → s.campaign ≠ .outOfCampaign →
        exec .campaignStartUp s = .next (s.rejectedWith r rest .notLegal)) ∧
      (s.mode = .screening → s.campaign = .outOfCampaign →
        exec .campaignStartUp s = .next
          ({ (({ s with campaign := .startUp } : State).offerNotice .campaignMode none none
                (.campaign .startUp)).answered r rest 0 [] with
            agenda := (List.range 16).map Task.reexamine ++ [.completion] } : State).settled) ∧
      (s.mode = .screening → s.campaign = .outOfCampaign → s.recordsGood →
        (∀ n < 16, ∀ c, s.definedRec n = some c → s.phaseOf n = .running) →
        exec .campaignStartUp s = .next
          { ((({ s with campaign := .startUp } : State).offerNotice .campaignMode none none
                (.campaign .startUp)).answered r rest 0 []).offerNotice .campaignMode none none (.campaign .inCampaign) with
            campaign := .inCampaign })) ∧
    (readCampaignBody r.body = some .windDown →
      (s.mode = .transparent ∨ s.campaign = .outOfCampaign ∨ s.campaign = .windDown →
        exec .campaignWindDown s = .next (s.rejectedWith r rest .notLegal)) ∧
      (s.banked → (s.campaign = .startUp ∨ s.campaign = .inCampaign) →
        exec .campaignWindDown s = .next
          ({ (({ s with campaign := .windDown } : State).offerNotice .campaignMode none none
                (.campaign .windDown)).answered r rest 0 [] with
            agenda := (List.range 16).map Task.reexamine ++ [.completion] } : State).settled) ∧
      (s.banked → (s.campaign = .startUp ∨ s.campaign = .inCampaign) → s.recordsGood →
        (∀ n < 16, ∀ c, s.definedRec n = some c → s.phaseOf n = .idle) →
        exec .campaignWindDown s = .next
          { ((({ s with campaign := .windDown } : State).offerNotice .campaignMode none none
                (.campaign .windDown)).answered r rest 0 []).offerNotice .campaignMode none none
                  (.campaign .outOfCampaign) with
            campaign := .outOfCampaign })) ∧
    (readCampaignBody r.body = some .outOfCampaign →
      (s.campaign = .outOfCampaign → exec .campaignAbandon s = .next (s.answered r rest 0 [])) ∧
      (s.campaign ≠ .outOfCampaign →
        exec .campaignAbandon s = .next
          ({ (({ s with campaign := .outOfCampaign } : State).offerNotice .campaignMode none none
                (.campaign .outOfCampaign)).answered r rest 0 [] with
            agenda := (List.range 16).map Task.reexamine } : State).settled)) ∧
    (readCampaignBody r.body = some .inCampaign →
      ∀ c ∈ [Instr.campaignStartUp, .campaignWindDown, .campaignAbandon],
        exec c s = .next (s.rejectedWith r rest .notLegal))

/-! ### Status, image and notice requests -/

/-- A STORE is accepting: RUNNING, its level point FRESH and below the high limit (R33). -/
def isAccepting (s : State) (m : Nat) (f : SectionRec) : Prop :=
  s.phaseOf m = .running ∧ ∃ l rep, f.level = some l ∧ (s.point l.point).fresh = true ∧
    (s.point l.point).report = some rep ∧ rep.value.toInt < l.high.toInt

/-- A STORE is delivering: RUNNING with a reported level, FRESH or STALE, above the low limit (R34). -/
def isDelivering (s : State) (m : Nat) (f : SectionRec) : Prop :=
  s.phaseOf m = .running ∧ ∃ l rep, f.level = some l ∧ (s.point l.point).report = some rep ∧ l.low.toInt < rep.value.toInt

/-- `acc` and `del` say of each section whether it is an accepting STORE and a delivering STORE (R33, R34, R175). -/
def storesAre (s : State) (acc del : Nat → Bool) : Prop :=
  ∀ n < 16, (acc n = true ↔ ∃ f, s.definedRec n = some f ∧ f.role = .store ∧ isAccepting s n f) ∧
    (del n = true ↔ ∃ f, s.definedRec n = some f ∧ f.role = .store ∧ isDelivering s n f)

/-- A part clock value, L or F in a body, in four bytes, high byte first (R173). -/
def fourItems (v : Clock) : List (Option Byte) :=
  [some (v.extractLsb' 24 8), some (v.extractLsb' 16 8), some (v.extractLsb' 8 8), some (v.extractLsb' 0 8)]

/-- The items of one section in a status body: phase, halt cause, change mark, run-empty state with its start time while
COUNTING, accepting and delivering (R175). -/
def sectionStatus (s : State) (acc del : Nat → Bool) (n : Nat) : List (Option Byte) :=
  some (Phase.code (s.phaseOf n)) :: optItems 1 ((s.sect n).haltCause.map (fun h => [some (HaltCause.code h)])) ++
    flagItem (s.sect n).mark ::
    (match (s.sect n).runEmpty with
     | .notCounting => some 0 :: optItems 4 none
     | .counting t => some 1 :: optItems 4 (some (fourItems t))
     | .confirmed => some 2 :: optItems 4 none) ++
    [flagItem (acc n), flagItem (del n)]

/-- The items of one port in a status body: its state and its three flags (R152, R175). -/
def portStatus (s : State) (p : PortId) : List (Option Byte) :=
  [some (PortState.code (s.port p).state), flagItem (s.port p).linkLost, flagItem (s.port p).checkError,
    flagItem (s.port p).receiveRefused]

/-- The items of R175 in their order: the modes, the bank and its flag; the sections; the ports, UP first; the held count, the
entries in use, R, V, the period number, L, F, the answer debt and NOTICE_LOST; and the refusal capture (R102). -/
def statusItems (s : State) (acc del : Nat → Bool) : List (Option Byte) :=
  [some (PartMode.code s.mode), some (CampaignMode.code s.campaign)] ++
    optItems 1 (s.active.map (fun i => [some (BankId.code i)])) ++ [flagItem s.standbyWritten] ++
    (List.range 16).flatMap (sectionStatus s acc del) ++
    [PortId.up, .dn .dn0, .dn .dn1, .dn .dn2, .dn .dn3].flatMap (portStatus s) ++
    [byteItem s.held.length, byteItem (s.entries.filter (fun e => decide (e.part = .general))).length,
      byteItem (s.entries.filter (fun e => decide (e.part = .priority))).length] ++
    twoItems s.remaining ++ twoItems s.unusedReserve ++ twoItems s.periodNumber ++
    fourItems (BitVec.ofNat 32 s.load) ++ fourItems (BitVec.ofNat 32 s.pledgeSum) ++
    [byteItem (answerDebt s), flagItem s.noticeLost] ++
    [flagItem s.capture.isSome, flagItem s.moreRefusals] ++
    match s.capture with
    | some c => [some c.src, some c.dest] ++ wordItems c.point ++
        [some c.tag, some c.action, some (RefusalReason.code c.reason)] ++ fourItems c.time
    | none => List.replicate 11 none

/-- READ_STATUS returns the items of R175 as they stand, laid out by R173 in a body of 249 bytes, and clears the port flags,
NOTICE_LOST and the marks of the 16 sections: the modes, the active bank and its flag; of each section the phase, halt cause,
mark, run-empty state, and whether it is an accepting and a delivering STORE; of each port its state and flags; the held count,
the entries in use, R, V, the period number, L, F, the answer debt and NOTICE_LOST; and the refusal capture (R33, R34, R102, R119,
R152, R161, R173, R175). That the body exceeds 240 bytes is notes/assumptions/9.md. That the mark of a HALTED
section is cleared with the other 15, where R77 has it keep the mark until it leaves HALTED, is the model's choice
(notes/assumptions/49.md). -/
def Obligations.ReadStatusReturnsAndClearsTheFlags : Prop :=
  ∀ (s : State) (r : MgmtTel) (rest : List MgmtTel), s.turnOf r rest → r.code.toNat = 8 → r.body = [] → s.recordsGood →
    ∃ (t : State) (acc del : Nat → Bool) (body : List Byte), exec .readStatus s = .next t ∧
      (∀ p, t.port p = { s.port p with linkLost := false, checkError := false, receiveRefused := false }) ∧
      (∀ n < 16, t.sect n = { s.sect n with mark := false }) ∧ (∀ n, 16 ≤ n → t.sect n = s.sect n) ∧
      storesAre s acc del ∧ carries body (statusItems s acc del) ∧ body.length = 249 ∧
      t = { s.answered r rest 0 body with
        ports := t.ports
        sects := t.sects
        noticeLost := false
        draws := t.draws }

/-- The nine bytes READ_IMAGE carries for a point (R176). -/
def imageItems (d : PointDyn) : List (Option Byte) :=
  (match d.report with
   | some r => [some (ReportState.code r.state), some (r.value.extractLsb' 8 8), some (r.value.extractLsb' 0 8)]
   | none => [some 0xFF, some 0, some 0]) ++
  [some (if d.fresh then 1 else 0), some (if d.mark then 1 else 0), some (BitVec.ofNat 8 d.tally)] ++
  (match d.setPoint with
   | some (v, _) => [some 1, some (v.extractLsb' 8 8), some (v.extractLsb' 0 8)]
   | none => [some 0, none, none])

/-- READ_IMAGE and CLEAR_MARKS outside their range are rejected RANGE, CLEAR_MARKS with neither option BAD_BODY; otherwise
READ_IMAGE returns the items of its points, and each clears the marks of its range, or the capture, where its option is set,
and changes nothing else (R18, R103, R176). -/
def Obligations.ImageRequestsReadAndClear : Prop :=
  ∀ (s : State) (r : MgmtTel) (rest : List MgmtTel), s.turnOf r rest →
    (∀ b, r.code.toNat = 9 → readImageBody r.body = some b →
      (b.count = 0 ∨ 26 < b.count ∨ 2048 < b.first + b.count →
        exec .readImage s = .next (s.rejectedWith r rest .range)) ∧
      (1 ≤ b.count → b.count ≤ 26 → b.first + b.count ≤ 2048 →
        ∃ t, exec .readImage s = .next t ∧
          (∀ p, t.point p =
            if b.clear = true ∧ b.first ≤ p ∧ p < b.first + b.count then { s.point p with mark := false }
            else s.point p) ∧
          (b.clear = false → t.image = s.image) ∧
          acceptedWith { s with image := t.image } t r rest
            ((List.range b.count).flatMap (fun i => imageItems (s.point (b.first + i)))))) ∧
    (∀ b, r.code.toNat = 10 → readMarksBody r.body = some b →
      (b.range = false → b.capture = false → exec .clearMarks s = .next (s.rejectedWith r rest .badBody)) ∧
      (b.range = true → (b.count = 0 ∨ 2048 < b.count ∨ 2048 < b.first + b.count) →
        exec .clearMarks s = .next (s.rejectedWith r rest .range)) ∧
      ((b.range = true ∧ 1 ≤ b.count ∧ b.first + b.count ≤ 2048) ∨ (b.range = false ∧ b.capture = true) →
        ∃ t, exec .clearMarks s = .next t ∧
          (∀ p, t.point p =
            if b.range = true ∧ b.first ≤ p ∧ p < b.first + b.count then { s.point p with mark := false }
            else s.point p) ∧
          (b.range = false → t.image = s.image) ∧
          t = { s.answered r rest 0 [] with
            image := t.image
            capture := if b.capture then none else s.capture
            moreRefusals := if b.capture then false else s.moreRefusals }))

/-- SET_NOTICES with a destination of 0 or the part's own number is rejected FIELD; otherwise it replaces the mask and the
destination and changes nothing else (R177). A body of nine bytes spells seven flags and an optional station (R173). -/
def Obligations.SetNoticesReplacesMaskAndDestination : Prop :=
  (∀ (s : State) (r : MgmtTel) (rest : List MgmtTel) (m : List NoticeKind) (d : Option Byte),
    s.turnOf r rest → r.code.toNat = 11 → readNoticesBody r.body = some (m, d) →
    (d = some 0 ∨ d = some s.station → exec .setNotices s = .next (s.rejectedWith r rest .field)) ∧
    (d ≠ some 0 → d ≠ some s.station →
      exec .setNotices s = .next { s.answered r rest 0 [] with noticeMask := m, noticeDest := d })) ∧
  (∀ (f : List Bool) (d : Byte), f.length = 7 →
    readNoticesBody (f.map (fun b => if b then (1 : Byte) else 0) ++ [1, d]) =
      some (((allNoticeKinds.zip f).filter Prod.snd).map Prod.fst, some d) ∧
    readNoticesBody (f.map (fun b => if b then (1 : Byte) else 0) ++ [0, d]) =
      some (((allNoticeKinds.zip f).filter Prod.snd).map Prod.fst, none))

/-- A notice is dropped if its kind is masked, dropped with NOTICE_LOST latched at 16 notices or an answer debt of 120, and
otherwise queued with the clock value (R177). An active fault in SCREENING, whatever the entry, enters FAIL_HOLD: FAULT is
asserted, one FAIL_HOLD notice is offered, with the section of a section record or the point of a static part, and every held
order is refused FAIL_HOLD, oldest first; outside SCREENING it changes nothing (R133, R171). It is taken at a report or an
order whose window reads faulty, and at an order refused for a faulty entry (R3, R11, R84, R85, R95). That such an order is
refused with its reason before the held orders are, and that such a report is forwarded after what the fault queues, are the
model's choices (notes/assumptions/16.md, notes/assumptions/21.md). It is taken by the first faulty entry of the entries an event
reads; and by a re-examination of a section whose record is faulty, which changes nothing else (R20, R165). -/
def Obligations.ActiveFaultEntersFailHold : Prop :=
  (∀ q : List UpItem,
    noticeCount q = (q.filter (fun x => match x.content with | .notice _ => true | _ => false)).length) ∧
  (∀ (s : State) (k : NoticeKind) (n p : Option Nat) (c : Cause),
    (k ∉ s.noticeMask → s.offerNotice k n p c = s) ∧
    (k ∈ s.noticeMask → (16 ≤ noticeCount s.upQueue ∨ 120 ≤ s.debt) →
      s.offerNotice k n p c = { s with noticeLost := true }) ∧
    (k ∈ s.noticeMask → noticeCount s.upQueue < 16 → s.debt < 120 →
      s.offerNotice k n p c = { s with upQueue := upJoin s.upQueue (.notice ⟨k, n, p, c, s.clock⟩) })) ∧
  (∀ (s : State) (e : EntryRef),
    (s.mode = .screening → s.activeFault e =
      s.held.foldl (fun u h => u.refusedWith h.tel .failHold)
        { ({ s with mode := .failHold, fault := true } : State).offerNotice .failHold
            (if e.table = .sections then some e.index else none) (if e.table = .points then some e.index else none)
            .integrity with
          held := [] }) ∧
    (s.mode ≠ .screening → s.activeFault e = s)) ∧
  (∀ (s : State) (d : DnPort) (r : PointTel) (i : Nat), s.portReady (.dn d) → s.banked →
    s.covering r.src r.point = .faulty i →
    exec (.report d r) s = .next
      { s.activeFault ⟨.windows, i⟩ with upQueue := upReport (s.activeFault ⟨.windows, i⟩).upQueue r }) ∧
  (∀ (s : State) (o : PointTel) (r : RefusalReason) (f : EntryRef), s.Screens o →
    (s.judgeDestination o = .refused r (some f) → exec (.order o) s = .next ((s.refusedWith o r).activeFault f)) ∧
    (∀ w st a, s.HandsOn o w st a → s.noneHeld (w.logicalOf o.point.toNat) →
      s.judgeOrder o ⟨w.logicalOf o.point.toNat, w, st, a⟩ s.held = .refuse r (some f) →
      exec (.order o) s = .next ((s.refusedWith o r).activeFault f))) ∧
  (∀ (s : State) (l : List EntryRef),
    ((∀ e ∈ l, s.activeBank.entryGood e = true) → s.checkReads l = s) ∧
    (∀ l1 e l2, l = l1 ++ e :: l2 → (∀ x ∈ l1, s.activeBank.entryGood x = true) → s.activeBank.entryGood e = false →
      s.checkReads l = s.activeFault e)) ∧
  (∀ (s : State) (n : Nat), s.activeBank.entryGood ⟨.sections, n⟩ = false →
    s.reexamine n = s.activeFault ⟨.sections, n⟩)

/-! ### Discrete lines and the reset -/

/-- A PERMIT-IN line already at the level, or in TRANSPARENT, starts nothing; otherwise the sections that name the line are
re-examined and a scan is started, and at a deassertion every one of them in READY or RUNNING ends HALTED at the clock value,
PERMIT_LOST or carried there by another section of the cascade (R41, R66, R72). -/
def Obligations.PermitInChangeActsOnTheNamingSections : Prop :=
  ∀ (s : State) (k : Nat) (level : Bool), s.atRest → k < 4 →
    (s.permitInLevel k = level → exec (.permitInChange k level) s = .next s) ∧
    (s.permitInLevel k ≠ level →
      (s.mode = .transparent →
        ∃ t, exec (.permitInChange k level) s = .next t ∧ t.permitInLevel k = level ∧
          (∀ j, j ≠ k → t.permitInLevel j = s.permitInLevel j) ∧ t = { s with permitIn := t.permitIn }) ∧
      (s.banked → s.recordsGood → ∀ l : List Nat,
        l = (List.range 16).filter (fun n =>
          match s.definedRec n with | some c => c.permitIn == some k | none => false) →
        exec (.permitInChange k level) s = .next
          ({ s with
            permitIn := Store.write false s.permitIn k level
            agenda := (if level then [] else l.map (fun n => Task.haltFirst n .permitLost)) ++ l.map Task.reexamine ++
              [.scan] } : State).settled) ∧
      (s.banked → level = false →
        ∃ t, exec (.permitInChange k level) s = .next t ∧ t.permitInLevel k = false ∧
          ∀ n < 16, ∀ c, s.definedRec n = some c → c.permitIn = some k → (s.phaseOf n = .ready ∨ s.phaseOf n = .running) →
            ∃ h, (h = .permitLost ∨ h = .needLost ∨ h = .feedStop) ∧
              t.sect n = ⟨.halted, s.clock, some h, .notCounting, false, true⟩))

/-- CAMPAIGN-HALT already at the level, or in TRANSPARENT, starts nothing; asserted, every section in WARMING, READY, RUNNING
or DRAINING ends HALTED with cause EXTERNAL_HALT and a HALTED section stays as it is; deasserted, every section is
re-examined, and where none has a move to take nothing but the level changes (R32, R61, R67). -/
def Obligations.CampaignHaltHaltsTheWorkingSections : Prop :=
  ∀ s : State, s.atRest →
    (s.campaignHalt = true → exec .campaignHaltAsserted s = .next s) ∧
    (s.campaignHalt = false → exec .campaignHaltDeasserted s = .next s) ∧
    (s.campaignHalt = false → s.mode = .transparent →
      exec .campaignHaltAsserted s = .next { s with campaignHalt := true }) ∧
    (s.campaignHalt = true → s.mode = .transparent →
      exec .campaignHaltDeasserted s = .next { s with campaignHalt := false }) ∧
    (s.campaignHalt = false → s.banked →
      ∃ t, exec .campaignHaltAsserted s = .next t ∧ t.campaignHalt = true ∧
        (∀ n < 16, (s.phaseOf n).working = true →
          t.sect n = ⟨.halted, s.clock, some .externalHalt, .notCounting, false, true⟩) ∧
        (∀ n < 16, s.phaseOf n = .halted → t.sect n = s.sect n)) ∧
    (s.campaignHalt = true → s.banked →
      exec .campaignHaltDeasserted s = .next
        ({ s with campaignHalt := false, agenda := (List.range 16).map Task.reexamine } : State).settled) ∧
    (s.campaignHalt = true → s.banked → (∀ e, s.activeBank.entryGood e = true) →
      (∀ n < 16, ({ s with campaignHalt := false } : State).autoMove n = none) →
      exec .campaignHaltDeasserted s = .next { s with campaignHalt := false })

/-- The commands that act while the reset is held: its own two conditions, and the levels of the lines. -/
def actsInReset : Instr → Bool
  | .permitInChange _ _ | .campaignHaltAsserted | .campaignHaltDeasserted | .resetAsserted _ | .resetReleased _ _
  | .lineSignalAppears _ | .provingSignalAbsent _ | .lineSignalLost _ | .lineSignalReturns _ => true
  | _ => false

/-- A reset condition that sets in makes every port DOWN with its flags clear, and deasserts FAULT and every PERMIT-OUT; while
the reset is held a line command changes the level of its own line alone and every other command nothing; at its end every
block starts from its reset values with the straps read, and a port whose signal is present begins PROVING (R150, R178). That
the tables keep what they hold until the end of the reset is the model's choice (notes/assumptions/38.md). -/
def Obligations.ResetHoldsAndReleasesThePart : Prop :=
  (∀ (s : State) (c : ResetCause), ∃ t, exec (.resetAsserted c) s = .next t ∧ t.inReset = true ∧
    (∀ p, t.port p = { Port.clear with signal := (s.port p).signal }) ∧ (∀ k < 4, t.permitOutLevel k = false) ∧
    t = { s with
      supplyBad := s.supplyBad || c == .supply
      resetLine := s.resetLine || c == .line
      ports := t.ports
      permitOut := t.permitOut
      fault := false
      agenda := [] }) ∧
  (∀ (s : State) (c : Instr), s.inReset = true → s.agenda = [] → actsInReset c = false → exec c s = .next s) ∧
  (∀ s : State, s.inReset = true → s.agenda = [] →
    (∀ k level, ∃ t, exec (.permitInChange k level) s = .next t ∧ t = { s with permitIn := t.permitIn } ∧
      ∀ j, t.permitInLevel j = if j = k ∧ k < 4 then level else s.permitInLevel j) ∧
    exec .campaignHaltAsserted s = .next { s with campaignHalt := true } ∧
    exec .campaignHaltDeasserted s = .next { s with campaignHalt := false } ∧
    (∀ p, ∀ c ∈ [Instr.lineSignalAppears p, .lineSignalReturns p],
      exec c s = .next (s.setPort p { s.port p with signal := true })) ∧
    (∀ p, ∀ c ∈ [Instr.provingSignalAbsent p, .lineSignalLost p],
      exec c s = .next (s.setPort p { s.port p with signal := false }))) ∧
  (∀ (s : State) (c : ResetCause) (x : BitVec 3), s.agenda = [] →
    (s.inReset = false → exec (.resetReleased c x) s = .next s) ∧
    (s.supplyBad = true → s.resetLine = true →
      exec (.resetReleased c x) s = .next
        { s with supplyBad := c != .supply, resetLine := c != .line }) ∧
    ((c = .supply ∧ s.supplyBad = true ∧ s.resetLine = false) ∨ (c = .line ∧ s.supplyBad = false ∧ s.resetLine = true) →
      ∃ t, exec (.resetReleased c x) s = .next t ∧
        (∀ p, t.port p =
          if (s.port p).signal then { Port.clear with signal := true, state := .proving, proving := some 0 }
          else Port.clear) ∧
        t = { State.reset with
          pending := s.pending
          straps := x
          permitIn := s.permitIn
          campaignHalt := s.campaignHalt
          ports := t.ports
          draws := s.draws }))

/-! ### Ports -/

/-- A command of port `p` makes the event's own change `u` of `s`, and where `p` is a DN port and a bank is active it goes on
with one release scan, which with nothing held changes nothing (R151). -/
def changesPort (c : Instr) (p : PortId) (s u : State) : Prop :=
  (p = .up ∨ s.mode = .transparent ∨ s.held = [] → exec c s = .next u) ∧
  (p ≠ .up → s.banked → exec c s = .next ({ u with agenda := [.scan] } : State).settled)

/-- A signal starts proving on a DOWN port and cancels the loss timer of an UP port; its absence returns a PROVING port to
DOWN and starts the loss timer of an UP port; at 500 ms of proving the port is UP and LINK_CHANGED is offered (R150,
R151). -/
def Obligations.LineSignalsMoveThePortState : Prop :=
  ∀ (s : State) (p : PortId), s.atRest →
    (∀ c ∈ [Instr.lineSignalAppears p, .lineSignalReturns p],
      ((s.port p).state = .down → changesPort c p s
        (s.setPort p { s.port p with signal := true, state := .proving, proving := some 0 })) ∧
      ((s.port p).state = .proving → exec c s = .next (s.setPort p { s.port p with signal := true })) ∧
      ((s.port p).state = .up → exec c s = .next (s.setPort p { s.port p with signal := true, loss := none }))) ∧
    (∀ c ∈ [Instr.provingSignalAbsent p, .lineSignalLost p],
      ((s.port p).state = .down → exec c s = .next (s.setPort p { s.port p with signal := false })) ∧
      ((s.port p).state = .proving → changesPort c p s
        (s.setPort p { s.port p with signal := false, state := .down, proving := none })) ∧
      ((s.port p).state = .up → (s.port p).signal = true →
        exec c s = .next (s.setPort p { s.port p with signal := false, loss := some 0 })) ∧
      ((s.port p).state = .up → (s.port p).signal = false →
        exec c s = .next (s.setPort p { s.port p with signal := false }))) ∧
    (∀ e, (s.port p).state = .proving → (s.port p).signal = true → (s.port p).proving = some e → 500 ≤ e →
      changesPort (.provingTimerExpiry p) p s
        ((s.setPort p { s.port p with state := .up, proving := none }).offerNotice .linkChanged none none
          (.link p true))) ∧
    ((s.port p).state ≠ .proving ∨ (s.port p).signal = false ∨ (s.port p).proving = none ∨
        (∃ e < 500, (s.port p).proving = some e) →
      exec (.provingTimerExpiry p) s = .next s)

/-- An entry that no reply ended is gone with its pledge: a supervisory order is refused with a reason, and a trip action's
end queues a TRIP_ACTION_FAILED notice (R75, R113, R145, R146). -/
def endedEntry (s : State) (e : Entry) (r : RefusalReason) : State :=
  let u : State :=
    { s with entries := s.entries.filter (fun x => x.seq != e.seq), pledgeSum := s.pledgeSum - e.pledged }
  match e.origin with
  | .supervisory _ => u.refusedWith (s.entryTel e) r
  | .part n => u.offerNotice .tripActionFailed (some n) e.logical (.refusal r)

/-- Before 20 ms without signal a loss timer does nothing; at 20 ms the port is DOWN with LINK_LOST latched, its repeat lane
and the telegram in transmission lost, and LINK_CHANGED is offered; on UP the queue is kept whole; on a DN port with a bank
active no outstanding entry of the port is left and every point of its windows is STALE, and where none was FRESH, the bank
reads good and nothing is held, its entries are ended LINK_LOST, oldest first, and nothing else changes (R16, R146, R150,
R151, R162). R146, R150 and R151 state no order of what one loss queues: that LINK_CHANGED is queued first, which decides the
notice dropped at the limit of 16, is the model's choice (notes/assumptions/21.md), as is the staleness work of the loss before
the end of its entries (notes/assumptions/34.md). -/
def Obligations.LossTimerTakesThePortDown : Prop :=
  (∀ (s : State) (p : PortId), s.atRest →
    ((s.port p).state ≠ .up ∨ (s.port p).signal = true ∨ (s.port p).loss = none ∨
      (∃ e < 20, (s.port p).loss = some e)) → exec (.lossTimerExpiry p) s = .next s) ∧
  (∀ (s : State) (p : PortId) (e : Nat) (u : State), s.atRest → (s.port p).state = .up → (s.port p).signal = false →
    (s.port p).loss = some e → 20 ≤ e →
    u = (s.setPort p { s.port p with
        state := .down, loss := none, linkLost := true, repeatLane := [], line := none }).offerNotice .linkChanged none
      none (.link p false) →
    (p = .up → exec (.lossTimerExpiry p) s =
      .next { u with upQueue := u.upQueue.map (fun x => { x with sending := false }) }) ∧
    (p ≠ .up → s.mode = .transparent → exec (.lossTimerExpiry p) s = .next u) ∧
    (∀ d, p = .dn d → s.banked →
      (∃ t, exec (.lossTimerExpiry p) s = .next t ∧ t.ports = u.ports ∧ (∀ x ∈ t.entries, x.port ≠ d) ∧
        ∀ i < 32, ∀ w q, s.readWindow i = some w → w.holds q = true → w.port = d → (t.point q).fresh = false) ∧
      (s.held = [] → (∀ x, s.activeBank.entryGood x = true) →
        (∀ i < 32, ∀ w q, s.readWindow i = some w → w.holds q = true → w.port = d → (s.point q).fresh = false) →
        exec (.lossTimerExpiry p) s =
          .next ((s.entries.filter (fun x => x.port == d)).foldl (fun v x => endedEntry v x .linkLost) u))))

/-! ### Timers -/

/-- The stale timer makes a FRESH point STALE once its window's limit has run since the last report, and keeps the rest of
its entry and the report and freshness of every other point; a section in READY or RUNNING whose trip set names the point ends
HALTED, LOST_SIGNAL or carried there by another section of the cascade (R13, R15, R65). With the window damaged the point
stays and the fault is taken (R165), its limit being judged by the stored content (notes/assumptions/17.md); before the limit
nothing happens. -/
def Obligations.StaleTimerMakesThePointStale : Prop :=
  ∀ (s : State) (p : Nat), s.atRest →
    ((s.point p).fresh = false ∨
      (∀ rep i, (s.point p).report = some rep → windowNumber s.activeBank p i →
        (s.clock - rep.time).toNat < 10 * (s.activeBank.win i).staleLimit) → exec (.staleTimerExpiry p) s = .next s) ∧
    (∀ rep i, (s.point p).fresh = true → (s.point p).report = some rep → windowNumber s.activeBank p i →
      10 * (s.activeBank.win i).staleLimit ≤ (s.clock - rep.time).toNat →
      (s.activeBank.entryGood ⟨.windows, i⟩ = false →
        exec (.staleTimerExpiry p) s = .next (s.activeFault ⟨.windows, i⟩)) ∧
      (s.activeBank.entryGood ⟨.windows, i⟩ = true →
        ∃ t, exec (.staleTimerExpiry p) s = .next t ∧ (t.point p).fresh = false ∧ (t.point p).report = some rep ∧
          (t.point p).mark = (s.point p).mark ∧
          (∀ q, q ≠ p → (t.point q).report = (s.point q).report ∧ (t.point q).fresh = (s.point q).fresh ∧
            (t.point q).mark = (s.point q).mark) ∧
          (∀ n < 16, ∀ c, s.definedRec n = some c → tripNames s c p → (s.phaseOf n = .ready ∨ s.phaseOf n = .running) →
            ∃ h ∈ [HaltCause.lostSignal, .needLost, .feedStop], nowHalted s t n h) ∧
          (s.held = [] → sameButCascade s t ∧ t.load = s.load ∧ t.pledgeSum = s.pledgeSum ∧
            t.point p = { s.point p with fresh := false } ∧ ∀ q, q ≠ p → t.point q = s.point q)))

/-- The confirmation timer makes a counting section CONFIRMED once the empty confirm time has run and re-examines it, so that
a DRAINING section whose feeders are finished is FLUSHED outside START_UP and WIND_DOWN; the overdue timer queues one notice
and sets the flag, in WARMING or DRAINING with a limit that has run (R38, R40). With the record damaged the section stays and
the fault is taken (R20), the time being judged by the stored content (notes/assumptions/17.md); before their time neither
does anything. -/
def Obligations.SectionTimersConfirmAndNotice : Prop :=
  ∀ (s : State) (n : Nat), s.atRest →
    (∀ t, (s.sect n).runEmpty = .counting t → 10 * (s.activeBank.sec n).confirmTime ≤ (s.clock - t).toNat →
      (s.activeBank.entryGood ⟨.sections, n⟩ = false →
        exec (.confirmationTimerExpiry n) s = .next (s.activeFault ⟨.sections, n⟩)) ∧
      (s.activeBank.entryGood ⟨.sections, n⟩ = true →
        exec (.confirmationTimerExpiry n) s = .next
          ({ s.setSect n { s.sect n with runEmpty := .confirmed } with agenda := [.reexamine n] } : State).settled) ∧
      (∀ c, n < 16 → s.mode = .screening → (∀ e, s.activeBank.entryGood e = true) → s.definedRec n = some c →
        s.phaseOf n = .draining → (∀ m ∈ s.feeders n, s.phaseOf m = .flushed ∨ s.phaseOf m = .idle) →
        (s.campaign = .outOfCampaign ∨ s.campaign = .inCampaign) →
        ∃ u, exec (.confirmationTimerExpiry n) s = .next u ∧ u.phaseOf n = .flushed)) ∧
    ((∀ t, (s.sect n).runEmpty = .counting t → (s.clock - t).toNat < 10 * (s.activeBank.sec n).confirmTime) →
      exec (.confirmationTimerExpiry n) s = .next s) ∧
    (∀ l, l = stayLimit (s.activeBank.sec n) (s.phaseOf n) →
      (l ≠ 0 → (s.sect n).overdue = false → 600 * l ≤ (s.clock - (s.sect n).entryTime).toNat →
        (s.activeBank.entryGood ⟨.sections, n⟩ = false →
          exec (.overdueTimerExpiry n) s = .next (s.activeFault ⟨.sections, n⟩)) ∧
        (s.activeBank.entryGood ⟨.sections, n⟩ = true →
          exec (.overdueTimerExpiry n) s = .next
            ((s.offerNotice .phaseOverdue (some n) none (.phase (s.phaseOf n))).setSect n
              { s.sect n with overdue := true }))) ∧
      (l = 0 ∨ (s.sect n).overdue = true ∨ (s.clock - (s.sect n).entryTime).toNat < 600 * l →
        exec (.overdueTimerExpiry n) s = .next s))

/-- A period boundary counts the period, loads R and V from the record, restarts its timer and starts a scan; a tally decay
lowers every tally above 0 by one and restarts its timer; with the record unreadable both only restart, the period is counted
and the fault is taken; before their time neither does anything (R101, R107, R108). That the tally timer then keeps the length
it had is the model's reading (notes/assumptions/33.md). -/
def Obligations.BudgetTimersReloadAndDecay : Prop :=
  ∀ s : State, s.atRest →
    (∀ t b, s.periodTimer = some t → t.length ≤ (s.clock - t.start).toNat → s.readBudget = some b →
      ∃ u, u = { s with
          periodNumber := (s.periodNumber + 1) % 65536
          remaining := b.allowance
          unusedReserve := b.reserve
          periodTimer := some ⟨s.clock, b.period⟩ } ∧
        exec .periodBoundary s = .next ({ u with agenda := [.scan] } : State).settled ∧
        (s.held = [] → exec .periodBoundary s = .next u)) ∧
    (∀ t, s.periodTimer = some t → t.length ≤ (s.clock - t.start).toNat → s.readBudget = none →
      exec .periodBoundary s = .next
        (({ s with
          periodNumber := (s.periodNumber + 1) % 65536
          periodTimer := some ⟨s.clock, t.length⟩
          agenda := [.scan] } : State).activeFault ⟨.budget, 0⟩).settled) ∧
    ((∀ t, s.periodTimer = some t → (s.clock - t.start).toNat < t.length) → exec .periodBoundary s = .next s) ∧
    (∀ t b, s.tallyTimer = some t → 600 * t.length ≤ (s.clock - t.start).toNat → s.readBudget = some b →
      Store.wf PointDyn.clear s.image = true →
      ∃ u, exec .tallyDecay s = .next u ∧ (∀ p, u.point p = { s.point p with tally := (s.point p).tally - 1 }) ∧
        u = { s with image := u.image, tallyTimer := some ⟨s.clock, b.tallyInterval⟩ }) ∧
    (∀ t, s.tallyTimer = some t → 600 * t.length ≤ (s.clock - t.start).toNat → s.readBudget = none →
      exec .tallyDecay s = .next
        (({ s with tallyTimer := some ⟨s.clock, t.length⟩ } : State).activeFault ⟨.budget, 0⟩)) ∧
    ((∀ t, s.tallyTimer = some t → (s.clock - t.start).toNat < 600 * t.length) → exec .tallyDecay s = .next s)

/-- A held order whose deadline is reached leaves its place and is refused HOLD_EXPIRED, without a scan; an entry whose reply
timer has run is ended TIMEOUT, and its removal starts release scans; before their time neither does anything (R129,
R145). -/
def Obligations.OrderTimersExpire : Prop :=
  (∀ (s : State) (l1 l2 : List HeldRec) (h : HeldRec), s.atRest → s.held = l1 ++ h :: l2 →
    (∀ x ∈ l1 ++ l2, ¬ (x.tel.dest = h.tel.dest ∧ x.tel.point = h.tel.point)) →
    ((h.deadline - h.arrival).toNat ≤ (s.clock - h.arrival).toNat →
      exec (.holdExpired h.tel.dest h.tel.point) s = .next { s.refusedWith h.tel .holdExpired with held := l1 ++ l2 }) ∧
    ((s.clock - h.arrival).toNat < (h.deadline - h.arrival).toNat →
      exec (.holdExpired h.tel.dest h.tel.point) s = .next s)) ∧
  (∀ (s : State) (e : Entry) (t : Clock), s.atRest → s.PledgeLaw → e ∈ s.entries → e.lane = .sent t →
    (e.timeout ≤ (s.clock - t).toNat →
      exec (.replyTimeout e.seq) s =
        .next ({ endedEntry s e .timeout with agenda := removalScansOf e } : State).settled ∧
      (s.held = [] → exec (.replyTimeout e.seq) s = .next (endedEntry s e .timeout))) ∧
    ((s.clock - t).toNat < e.timeout → exec (.replyTimeout e.seq) s = .next s)) ∧
  (∀ (s : State) (n : Nat), s.atRest → (∀ e ∈ s.entries, e.seq = n → e.lane = .queued) →
    exec (.replyTimeout n) s = .next s)

/-! ### Transmitters -/

/-- A DN transmitter whose line is free takes the head of the priority lane, then the repeat lane, then the head of the general
lane: the order goes out with its shaped value and flags clear, its entry is SENT at the clock value, and the freed place
starts a scan; a copy goes out as it is. With its line busy, or nothing to take, nothing changes (R97, R139, R140, R163). The
line is freed as notes/assumptions/20.md says. -/
def Obligations.DnTransmitterTakesTheFirstLane : Prop :=
  ∀ (s : State) (d : DnPort) (v : Port), s.portReady (.dn d) → s.PledgeLaw → v = s.port (.dn d) →
    (v.line ≠ none → exec (.transmission d) s = .next s ∧ exec (.repeatLaneSend d) s = .next s) ∧
    (∀ (e : Entry) (l1 l2 : List Entry), v.line = none → s.entries = l1 ++ e :: l2 → e.port = d → e.lane = .queued →
      (e.part = .priority ∧ (∀ x ∈ l1, ¬ (x.part = .priority ∧ x.port = d ∧ x.lane = .queued)) ∨
       e.part = .general ∧ v.repeatLane = [] ∧ s.lane d .priority = [] ∧
         (∀ x ∈ l1, ¬ (x.part = .general ∧ x.port = d ∧ x.lane = .queued))) →
      ∃ u, u = { s.setPort (.dn d) { v with
            line := some (.point .order ⟨e.dest, s.entrySource e, e.tag, e.point, Action.code e.action, 0, e.value⟩) } with
          entries := l1 ++ { e with lane := .sent s.clock } :: l2 } ∧
        exec (.transmission d) s = .next ({ u with agenda := [.scan] } : State).settled ∧
        (s.held = [] → exec (.transmission d) s = .next u)) ∧
    (s.lane d .priority = [] → (v.repeatLane ≠ [] ∨ s.lane d .general = []) → exec (.transmission d) s = .next s) ∧
    (∀ t l, v.line = none → s.lane d .priority = [] → v.repeatLane = t :: l →
      exec (.repeatLaneSend d) s = .next (s.setPort (.dn d) { v with repeatLane := l, line := some t })) ∧
    (s.lane d .priority ≠ [] ∨ v.repeatLane = [] → exec (.repeatLaneSend d) s = .next s)

/-- The class of a place of the UP transmit queue in the arbiter's order: responses, answers, notices while there is a
destination, reports; 4 is not sent (R162). -/
def upClass (dest : Option Byte) : UpContent → Nat
  | .response _ => 0
  | .answer _ => 1
  | .notice _ => if dest = none then 4 else 2
  | .report _ => 3
  | .place => 4

/-- The body of a notice (R177). -/
def noticeItems (n : Notice) : List (Option Byte) :=
  (match n.sect with | some k => [some 1, some (BitVec.ofNat 8 k)] | none => [some 0, none]) ++
  (match n.point with
   | some p => [some 1, some (BitVec.ofNat 8 (p / 256)), some (BitVec.ofNat 8 p)]
   | none => [some 0, none, none]) ++
  [some n.cause.codes.1, some n.cause.codes.2, some (n.stamp.extractLsb' 24 8), some (n.stamp.extractLsb' 16 8),
   some (n.stamp.extractLsb' 8 8), some (n.stamp.extractLsb' 0 8)]

/-- The UP transmitter takes the oldest telegram of the first class that has one: a report leaves the queue at once, any other
keeps its place until its transmission ends, and a notice is addressed to the destination that then stands, its tag being a
free value (notes/assumptions/4.md). With nothing to send, or the line busy or not UP, nothing changes (R160, R162,
R177). -/
def Obligations.UpTransmitterServesTheClasses : Prop :=
  (∀ (s : State) (v : Port) (x : UpItem) (l1 l2 : List UpItem), s.portReady .up → v = s.port .up → v.line = none →
    s.upQueue = l1 ++ x :: l2 → upClass s.noticeDest x.content < 4 →
    (∀ y ∈ l1, upClass s.noticeDest x.content < upClass s.noticeDest y.content) →
    (∀ y ∈ l2, upClass s.noticeDest x.content ≤ upClass s.noticeDest y.content) →
    (∀ r, x.content = .report r → exec .upTransmitStart s =
      .next { s.setPort .up { v with line := some (.point .report r) } with upQueue := l1 ++ l2 }) ∧
    (∀ m, x.content = .response m → exec .upTransmitStart s =
      .next { s.setPort .up { v with line := some (.mgmt .response m) } with
        upQueue := l1 ++ { x with sending := true } :: l2 }) ∧
    (∀ t, x.content = .answer t → exec .upTransmitStart s =
      .next { s.setPort .up { v with line := some t } with upQueue := l1 ++ { x with sending := true } :: l2 }) ∧
    (∀ n d, x.content = .notice n → s.noticeDest = some d →
      ∃ m : MgmtTel, m.dest = d ∧ m.src = s.station ∧ m.code = NoticeKind.code n.kind ∧ carries m.body (noticeItems n) ∧
        exec .upTransmitStart s =
          .next { s.setPort .up { v with line := some (.mgmt .notice m) } with
            upQueue := l1 ++ { x with sending := true } :: l2
            draws := s.draws + 1 })) ∧
  (∀ s : State, s.atRest →
    ((s.port .up).state ≠ .up ∨ (s.port .up).line ≠ none ∨ (∀ y ∈ s.upQueue, upClass s.noticeDest y.content = 4) →
      exec .upTransmitStart s = .next s) ∧
    ((s.port .up).line ≠ none → exec .upTransmitEnd s =
      .next { s.setPort .up { s.port .up with line := none } with
        upQueue := s.upQueue.filter (fun y => y.sending == false) }) ∧
    ((s.port .up).line = none → exec .upTransmitEnd s = .next s))

/-! ### Shared rules -/

/-- A condition holds exactly when its point is FRESH, its state test passes and its value test passes (R25); the point's
class is read from its static part. A set combined ALL holds when every condition holds and one combined ANY when at least
one does, a set that is not defined or cannot be read not holding; a set has a STALE point where a condition names one; a
trip set is stale-blocked by a STALE point, and another deciding set by one while it does not hold (R24, R26). That a set which
cannot be read has no STALE point is the model's choice (notes/assumptions/47.md). -/
def Obligations.ConditionHoldsByItsThreeTests : Prop :=
  (∀ (s : State) (c : Condition) (st : PointStatic), s.readPoint c.point = some st →
    (s.condHolds c = true ↔
      ∃ rep, (s.point c.point).report = some rep ∧ (s.point c.point).fresh = true ∧
        (match c.states with
         | .any => True
         | .oneOf l => rep.state ∈ l) ∧
        (match c.test with
         | .noTest => True
         | .atLeast => st.cls ≠ .gateset ∧ c.ref1.toInt ≤ rep.value.toInt
         | .atMost => st.cls ≠ .gateset ∧ rep.value.toInt ≤ c.ref1.toInt
         | .between => st.cls ≠ .gateset ∧ c.ref1.toInt ≤ rep.value.toInt ∧ rep.value.toInt ≤ c.ref2.toInt
         | .outside => st.cls ≠ .gateset ∧ (rep.value.toInt < c.ref1.toInt ∨ c.ref2.toInt < rep.value.toInt)
         | .allOpen => st.cls = .gateset ∧ ∀ g < 16, c.ref1.getLsbD g = true → rep.value.getLsbD g = true
         | .allClosed => st.cls = .gateset ∧ ∀ g < 16, c.ref1.getLsbD g = true → rep.value.getLsbD g = false))) ∧
  (∀ (s : State) (k : Nat), s.setHolds k = true ↔
    ∃ cs, s.readSet k = some cs ∧ cs.defined = true ∧
      (match cs.combination with
       | .all => ∀ x ∈ cs.conditions, s.condHolds x = true
       | .any => ∃ x ∈ cs.conditions, s.condHolds x = true)) ∧
  (∀ (s : State) (b : Bool) (k : Nat), s.setHoldsOr b none = b ∧ s.setHoldsOr b (some k) = s.setHolds k) ∧
  (∀ (s : State) (o : Option Nat), s.setHasStale o = true ↔
    ∃ k cs, o = some k ∧ s.readSet k = some cs ∧ ∃ x ∈ cs.conditions, (s.point x.point).fresh = false) ∧
  (∀ (s : State) (c : SectionRec),
    s.staleBlocked c .trip = s.setHasStale c.tripSet ∧
    (∀ d o, (d, o) ∈ [(DecidingSet.warm, c.warmSet), (.run, c.runSet), (.flush, c.flushSet)] →
      (s.staleBlocked c d = true ↔ s.setHoldsOr true o = false ∧ s.setHasStale o = true)))

/-- The twelve legal transitions of the ladder with their requirements (R28). -/
def ladderTable : List (Phase × Phase × Requirement) :=
  [(.idle, .warming, { needs := true, haltLine := true }),
   (.warming, .ready, { deciding := some .warm }),
   (.warming, .idle, {}),
   (.ready, .running, { deciding := some .run, needs := true, permit := true, feeds := true, haltLine := true }),
   (.ready, .warming, {}),
   (.running, .draining, { dependents := true }),
   (.draining, .running,
    { deciding := some .run, needs := true, permit := true, feeds := true, haltLine := true, notWindDown := true }),
   (.draining, .flushed, { drained := true }),
   (.flushed, .idle, { deciding := some .flush }),
   (.flushed, .warming, { needs := true, haltLine := true }),
   (.halted, .ready, { deciding := some .trip, needs := true, haltLine := true, permit := true }),
   (.halted, .draining, { needs := true, haltLine := true })]

/-- Feeds open: every fed section is RUNNING, and a fed STORE accepting (R29). -/
def opensFeeds (s : State) (c : SectionRec) : Prop :=
  ∀ m ∈ c.feeds, ∃ f, s.readSection m = some f ∧ s.phaseOf m = .running ∧ (f.role = .store → isAccepting s m f)

/-- Every dependent of section `n`, a defined section that names it in needs, is FLUSHED or IDLE (R21, R29). -/
def finishedDependents (s : State) (n : Nat) : Prop :=
  ∀ m < 16, ∀ c, s.definedRec m = some c → n ∈ c.needs → s.phaseOf m = .flushed ∨ s.phaseOf m = .idle

/-- Every feeder of section `n`, a defined section that names it in feeds, is FLUSHED or IDLE (R21, R29). -/
def finishedFeeders (s : State) (n : Nat) : Prop :=
  ∀ m < 16, ∀ c, s.definedRec m = some c → n ∈ c.feeds → s.phaseOf m = .flushed ∨ s.phaseOf m = .idle

/-- The terms of a requirement, each where the requirement names it (R28, R29). -/
def termsHold (s : State) (n : Nat) (c : SectionRec) (q : Requirement) : Prop :=
  (q.needs = true → ∀ m ∈ c.needs, s.phaseOf m = .running) ∧
  (q.haltLine = true → s.campaignHalt = false) ∧
  (q.permit = true → ∀ k, c.permitIn = some k → s.permitInLevel k = true) ∧
  (q.feeds = true → opensFeeds s c) ∧
  (q.dependents = true → c.role = .utility → finishedDependents s n) ∧
  (q.drained = true → (s.sect n).runEmpty = .confirmed ∧ finishedFeeders s n) ∧
  (q.notWindDown = true → s.campaign ≠ .windDown) ∧
  (q.deciding = some .warm → s.setHoldsOr true c.warmSet = true) ∧
  (q.deciding = some .run → s.setHoldsOr true c.runSet = true) ∧
  (q.deciding = some .flush → s.setHoldsOr true c.flushSet = true) ∧
  (q.deciding = some .trip → s.setHoldsOr false c.tripSet = false ∧ s.setHasStale c.tripSet = false)

/-- The ladder has the twelve transitions of R28, and a requirement holds when the terms it names do (R29, R33). A
re-examination in SCREENING takes exactly the transitions of R53's table for the campaign mode whose requirement of R28
holds, a section that is no UTILITY leaving RUNNING only with every feeder DRAINING, FLUSHED or IDLE; none is taken out of
HALTED, nor outside SCREENING, and the requirement of RUNNING to DRAINING itself does not name the feeders (R31, R53). -/
def Obligations.EligibleTransitionsFollowTheCampaignMode : Prop :=
  (∀ p t q, ladder p t = some q ↔ (p, t, q) ∈ ladderTable) ∧
  (∀ (s : State) (n : Nat) (c : SectionRec) (q : Requirement), s.requirementHolds n c q = true ↔ termsHold s n c q) ∧
  (∀ (s : State) (c : SectionRec), (s.feedsOpen c = true ↔ opensFeeds s c) ∧
    (s.permitOk c = true ↔ ∀ k, c.permitIn = some k → s.permitInLevel k = true) ∧
    (∀ n, (∀ m ∈ s.dependents n, (s.phaseOf m).finished = true) ↔ finishedDependents s n) ∧
    (∀ n, (∀ m ∈ s.feeders n, (s.phaseOf m).finished = true) ↔ finishedFeeders s n)) ∧
  (∀ (s : State) (n : Nat) (c : SectionRec), s.mode = .screening → s.definedRec n = some c →
    ∀ t, s.autoMove n = some t ↔
      (s.campaign, s.phaseOf n, t) ∈
        [(CampaignMode.outOfCampaign, Phase.draining, Phase.flushed),
         (.startUp, .idle, .warming), (.startUp, .warming, .ready), (.startUp, .ready, .running),
         (.startUp, .draining, .flushed), (.inCampaign, .draining, .flushed),
         (.windDown, .running, .draining), (.windDown, .draining, .flushed), (.windDown, .flushed, .idle)] ∧
      (∃ q, ladder (s.phaseOf n) t = some q ∧ s.requirementHolds n c q = true) ∧
      (s.campaign = .windDown → s.phaseOf n = .running → c.role ≠ .utility →
        ∀ m ∈ s.feeders n, s.phaseOf m = .draining ∨ s.phaseOf m = .flushed ∨ s.phaseOf m = .idle)) ∧
  (∀ (s : State) (n : Nat), s.mode ≠ .screening ∨ s.definedRec n = none ∨ s.phaseOf n = .halted → s.autoMove n = none) ∧
  (∀ (s : State) (n : Nat), (∀ e, s.activeBank.entryGood e = true) →
    (s.autoMove n = none → s.reexamine n = s) ∧
    (∀ t c, s.autoMove n = some t → s.definedRec n = some c → phaseChanged s n c t (s.reexamine n)))

/-- The phases from which a cause halts a section (the table of R63). -/
def haltTable : List (HaltCause × Phase) :=
  [(.trip, .warming), (.trip, .ready), (.trip, .running), (.trip, .draining),
   (.lostSignal, .ready), (.lostSignal, .running), (.permitLost, .ready), (.permitLost, .running),
   (.externalHalt, .warming), (.externalHalt, .ready), (.externalHalt, .running), (.externalHalt, .draining),
   (.needLost, .warming), (.needLost, .ready), (.needLost, .running), (.needLost, .draining),
   (.feedStop, .ready), (.feedStop, .running), (.storeFull, .running)]

/-- A trip action is issued as a priority order of the part to its window's station and station point, with the next tag, a
value for SET alone, no pledge and SHAPED clear, whatever the part mode; without a window or with the port not UP its notice
carries NO_ROUTE, and without an entry or a lane place NO_SLOT (R5, R73, R74), NO_ROUTE where both hold being the model's choice
(notes/assumptions/46.md). Its window is the first that holds the point,
read from window 0, the order of the reads being the model's (notes/assumptions/32.md). A cause halts a section from the
phases of R63's table and changes nothing from another; the entry records the cause, deasserts the section's PERMIT-OUT,
offers its notice, and starts the re-examination of the related sections, the completion test, the scan, the section's trip
actions, NEED_LOST at the dependents of a UTILITY and FEED_STOP at the feeders that are no STORE (R27, R32, R42, R63, R68,
R69, R73). That a section's list is issued at once is notes/assumptions/35.md. -/
def Obligations.TripActionsAreIssuedOrNoticed : Prop :=
  (∀ (s : State) (n : Nat) (a : TripAction) (i : Nat) (w : Window), s.windowOf a.point = .window i w →
    ((s.port (.dn w.port)).state = .up → s.partCount .priority < 16 → (s.lane w.port .priority).length < 8 →
      s.issueTrip n a =
        { s with
          entries := s.entries ++
            [⟨s.nextSeq, .priority, .part n, BitVec.ofNat 8 w.station,
              BitVec.ofNat 16 (w.first + (a.point - w.base)), s.tagCounter, a.action,
              (if a.action = .set then a.value else 0), some a.point, w.port, .queued, w.replyTimeout, none, false⟩]
          nextSeq := s.nextSeq + 1
          tagCounter := s.tagCounter + 1 }) ∧
    ((s.port (.dn w.port)).state ≠ .up →
      s.issueTrip n a = s.offerNotice .tripActionFailed (some n) (some a.point) (.refusal .noRoute)) ∧
    ((s.port (.dn w.port)).state = .up → (16 ≤ s.partCount .priority ∨ 8 ≤ (s.lane w.port .priority).length) →
      s.issueTrip n a = s.offerNotice .tripActionFailed (some n) (some a.point) (.refusal .noSlot))) ∧
  (∀ (s : State) (n : Nat) (a : TripAction),
    (s.windowOf a.point = .absent →
      s.issueTrip n a = s.offerNotice .tripActionFailed (some n) (some a.point) (.refusal .noRoute)) ∧
    (∀ i, s.windowOf a.point = .faulty i →
      s.issueTrip n a =
        (s.offerNotice .tripActionFailed (some n) (some a.point) (.refusal .noRoute)).activeFault ⟨.windows, i⟩)) ∧
  (∀ (s : State) (p : Nat), searchFinds s (fun w => w.holds p = true) (s.windowOf p)) ∧
  (∀ (s : State) (n : Nat),
    (∀ c, s.readSection n = some c →
      (c.tripActions = [] → s.issueTrips n = s) ∧
      (∀ a l, c.tripActions = a :: l → s.issueTrips n = l.foldl (fun u b => u.issueTrip n b) (s.issueTrip n a))) ∧
    (s.readSection n = none → s.issueTrips n =
      (s.offerNotice .tripActionFailed (some n) none (.refusal .failHold)).activeFault ⟨.sections, n⟩)) ∧
  (∀ (s : State) (n : Nat) (h : HaltCause), (h, s.phaseOf n) ∉ haltTable → s.takeHalt n h = s) ∧
  (∀ (s : State) (n : Nat) (h : HaltCause) (c : SectionRec), (∀ e, s.activeBank.entryGood e = true) →
    s.definedRec n = some c → (h, s.phaseOf n) ∈ haltTable →
    ∃ (v u : State) (re de fe : List Nat),
      v = (s.setSect n ⟨.halted, s.clock, some h, .notCounting, false, true⟩).offerNotice .phaseChanged (some n) none
        (.halt h) ∧
      (c.permitOut = none → u = v) ∧ (∀ k, c.permitOut = some k → u = v.setPermitOut k false) ∧
      (∀ m, m ∈ re ↔ concerns s n c m) ∧
      (∀ m, m ∈ de ↔ c.role = .utility ∧ m < 16 ∧ ∃ f, s.definedRec m = some f ∧ n ∈ f.needs) ∧
      (∀ m, m ∈ fe ↔ m < 16 ∧ ∃ f, s.definedRec m = some f ∧ n ∈ f.feeds ∧ f.role ≠ .store) ∧
      s.takeHalt n h =
        { u with agenda := s.agenda ++ re.map Task.reexamine ++ [.completion, .scan, .tripActions n] ++
            de.map (fun m => Task.halt m .needLost) ++ fe.map (fun m => Task.halt m .feedStop) })

/-- A release scan re-screens the held orders oldest first, each once: what is left stands in the old order with the old
telegrams and deadlines, and no record is new. A record admitted leaves as an order of its own admission, one refused leaves
with its REFUSAL, and one held again stays with its new reason; one whose reads meet an integrity fault leaves with its
REFUSAL, and the scan ends there with the fault, whose entry to FAIL_HOLD refuses every record left (R125, R126, R95, R133). That
the record's own REFUSAL precedes those of the records left, older ones included, is the model's reading
(notes/assumptions/16.md).
An event that has only scans to take runs each of them in turn. -/
def Obligations.ReleaseScanRescreensOldestFirst : Prop :=
  (∀ s : State, s.scan = scanRest s [] s.held ∧
    (s.scan.held.map (fun h => (h.tel, h.arrival, h.deadline))).Sublist
      (s.held.map (fun h => (h.tel, h.arrival, h.deadline)))) ∧
  (∀ (s : State) (ahead : List HeldRec), scanRest s ahead [] = { s with held := ahead }) ∧
  (∀ (s : State) (ahead rest : List HeldRec) (h : HeldRec) (a : Addressed), s.judgeDestination h.tel = .known a →
    (∀ row c, s.judgeOrder h.tel a ahead = .admission row c →
      scanRest s ahead (h :: rest) = scanRest (s.admitOrder h.tel a row c) ahead rest) ∧
    (∀ r, s.judgeOrder h.tel a ahead = .refuse r none →
      scanRest s ahead (h :: rest) = scanRest (s.refusedWith h.tel r) ahead rest) ∧
    (∀ r limit c, limit ≠ 0 → s.judgeOrder h.tel a ahead = .hold r limit c →
      scanRest s ahead (h :: rest) =
        scanRest s (ahead ++ [{ h with point := some a.logical, reason := r, cls := c }]) rest) ∧
    (∀ r c, s.judgeOrder h.tel a ahead = .hold r 0 c →
      scanRest s ahead (h :: rest) = scanRest (s.refusedWith h.tel r.refusal) ahead rest)) ∧
  (∀ (s : State) (ahead rest : List HeldRec) (h : HeldRec) (r : RefusalReason),
    s.judgeDestination h.tel = .refused r none →
    scanRest s ahead (h :: rest) = scanRest (s.refusedWith h.tel r) ahead rest) ∧
  (∀ (s : State) (ahead rest : List HeldRec) (h : HeldRec) (r : RefusalReason) (f : EntryRef),
    (s.judgeDestination h.tel = .refused r (some f) ∨
      ∃ a, s.judgeDestination h.tel = .known a ∧ s.judgeOrder h.tel a ahead = .refuse r (some f)) →
    scanRest s ahead (h :: rest) = ({ s.refusedWith h.tel r with held := ahead ++ rest } : State).activeFault f) ∧
  (∀ (s : State) (k : Nat), k ≤ 3 → s.agenda = [] →
    ({ s with agenda := List.replicate k .scan } : State).settled = (List.range k).foldl (fun u _ => u.scan) s)

/-- A telegram's bytes with their check code read back as the telegram, and what is read back is what the bytes encode
(R153 to R156). -/
def Obligations.TelegramsDecodeAsEncoded : Prop :=
  (∀ t : Telegram, t.wf = true → decodeTelegram (encodeTelegram t) = some t) ∧
  (∀ (bytes : List Byte) (t : Telegram), decodeTelegram bytes = some t → encodeTelegram t = bytes ∧ t.wf = true)

/-! ### What no command breaks -/

/-- A command other than WRITE_TABLE, COPY_TO_STANDBY and the end of the reset changes no bank, none but the last changes the
active bank or the part clock, and the part mode changes only from SCREENING to FAIL_HOLD, at the end of a swap check, by
GO_TRANSPARENT or at the end of the reset (R164, R166, R167, R170 to R172, R178). -/
def Obligations.BanksAndModeChangeOnlyByTheirRequests : Prop :=
  ∀ (c : Instr) (s t : State), exec c s = .next t →
    (c ≠ .writeTable → c ≠ .copyToStandby → (∀ k x, c ≠ .resetReleased k x) → t.bankA = s.bankA ∧ t.bankB = s.bankB) ∧
    ((∀ k x, c ≠ .resetReleased k x) → t.clock = s.clock ∧
      ∀ i, s.active = some i → s.standby = i.other → t.bank i = s.bank i) ∧
    (t.mode = s.mode ∨ (s.mode = .screening ∧ t.mode = .failHold) ∨ c = .swapCheckEnd ∨ c = .goTransparent ∨
      ∃ k x, c = .resetReleased k x)

/-- A defined HALTED section stays HALTED with its cause through every command but a PHASE request of its own for READY or
DRAINING, RESET_PART and the end of the reset (R31, R63, R78). -/
def Obligations.HaltedIsLeftOnlyByRequest : Prop :=
  ∀ (c : Instr) (s t : State) (n : Nat), n < 16 → s.activeBank.isDefined n = true → s.phaseOf n = .halted →
    exec c s = .next t →
    (t.phaseOf n = .halted ∧ (t.sect n).haltCause = (s.sect n).haltCause) ∨
    (c = .phase ∧ ∃ r l p, s.requests = r :: l ∧ readPhaseBody r.body = some (n, p) ∧ (p = .ready ∨ p = .draining)) ∨
    c = .resetPart ∨ ∃ k x, c = .resetReleased k x

/-- The part right after reset satisfies every law of the state. -/
def Obligations.ResetSatisfiesTheLaws : Prop :=
  State.reset.ModeLaw ∧ State.reset.BudgetLaw ∧ State.reset.SectionLaw ∧ State.reset.PointLaw ∧ State.reset.HeldLaw ∧
    State.reset.LoadLaw ∧ State.reset.PledgeLaw ∧ State.reset.QueueLaw ∧ State.reset.StoreLaw ∧ State.reset.NeedLaw ∧
    State.reset.TableLaw ∧ State.reset.OrderLaw ∧ State.reset.PermitLaw

/-- Every step keeps the agreement of the part mode, the bank markers, FAULT and the held reset, and with that V at most R and
R at most the allowance of the active bank (R106, R164, R170 to R172, R178). -/
def Obligations.EveryStepKeepsTheModeAndBudgetLaws : Prop :=
  (∀ s t : State, s.ModeLaw → step s = .next t → t.ModeLaw) ∧
  (∀ s t : State, s.ModeLaw → s.BudgetLaw → step s = .next t → t.BudgetLaw)

/-- Every step keeps a halt cause exactly with HALTED, a run-empty count only in DRAINING, every tally in 0 to 15, a reported
state with every FRESH point, and at most 32 held orders of which none is a STOP or CLOSE (R9, R22, R25, R122). It keeps the
held records and the general entries each at the logical point its station point has under the active bank, no two held
records and no two general entries at one, and none of either in TRANSPARENT (R89, R122, R131, R137, R148). -/
def Obligations.EveryStepKeepsTheSectionPointAndHeldLaws : Prop :=
  (∀ s t : State, s.SectionLaw → step s = .next t → t.SectionLaw) ∧
  (∀ s t : State, s.PointLaw → step s = .next t → t.PointLaw) ∧
  (∀ s t : State, s.HeldLaw → step s = .next t → t.HeldLaw) ∧
  (∀ s t : State, s.ModeLaw → s.OrderLaw → step s = .next t → t.OrderLaw)

/-- Every step keeps the load account the sum over the image's running drives, the pledge sum the sum of the entries' pledges
with the entries in their order of creation, and with that the limits of the UP transmit queue, one report for each station
point in it, and the answer debt at most 120; it keeps the limits of the Outstanding Order Table, 48 and 16 entries, and of
the lanes, 16, 8 and 16 places (R111, R112, R136, R137, R139, R149, R158, R160, R161). What joins the queue and what gives way is
stated in UncoveredReportIsOnlyForwarded. -/
def Obligations.EveryStepKeepsTheLoadPledgeAndQueueLaws : Prop :=
  (∀ s t : State, s.ModeLaw → s.StoreLaw → s.LoadLaw → step s = .next t → t.LoadLaw) ∧
  (∀ s t : State, s.PledgeLaw → step s = .next t → t.PledgeLaw) ∧
  (∀ s t : State, s.PledgeLaw → s.QueueLaw → step s = .next t → t.QueueLaw) ∧
  (∀ s t : State, s.TableLaw → step s = .next t → t.TableLaw)

/-- Every step keeps every table, image, port and line store in canonical form. -/
def Obligations.EveryStepKeepsTheStoreLaw : Prop :=
  ∀ s t : State, s.StoreLaw → step s = .next t → t.StoreLaw

/-- Every step keeps the law of needs: no section works while a section it needs is not RUNNING, but for a halt that the event
in progress has still to take (R30, R68); and the law of PERMIT-OUT: out of reset a line is asserted exactly while the section
that names it is RUNNING with the part in SCREENING or FAIL_HOLD (R42). -/
def Obligations.EveryStepKeepsTheNeedAndPermitLaws : Prop :=
  (∀ s t : State, s.ModeLaw → s.NeedLaw → step s = .next t → t.NeedLaw) ∧
  (∀ s t : State, s.ModeLaw → s.PermitLaw → step s = .next t → t.PermitLaw)
end

