-- ==== Sys2Proof/Laws/State.lean ====
section
/-! SUPPORT. What each update of the state leaves in each field: one lemma per field per update, so that no proof unfolds a
record update. -/

set_option Elab.async false

namespace Sys2Proof.Machine

variable (s : State)

/-! ### `State.setPort` -/

@[simp] theorem State.setPort_pending (p : PortId) (v : Port) : (s.setPort p v).pending = s.pending := rfl
@[simp] theorem State.setPort_supplyBad (p : PortId) (v : Port) : (s.setPort p v).supplyBad = s.supplyBad := rfl
@[simp] theorem State.setPort_resetLine (p : PortId) (v : Port) : (s.setPort p v).resetLine = s.resetLine := rfl
@[simp] theorem State.setPort_straps (p : PortId) (v : Port) : (s.setPort p v).straps = s.straps := rfl
@[simp] theorem State.setPort_clock (p : PortId) (v : Port) : (s.setPort p v).clock = s.clock := rfl
@[simp] theorem State.setPort_subMs (p : PortId) (v : Port) : (s.setPort p v).subMs = s.subMs := rfl
@[simp] theorem State.setPort_permitIn (p : PortId) (v : Port) : (s.setPort p v).permitIn = s.permitIn := rfl
@[simp] theorem State.setPort_permitOut (p : PortId) (v : Port) : (s.setPort p v).permitOut = s.permitOut := rfl
@[simp] theorem State.setPort_campaignHalt (p : PortId) (v : Port) : (s.setPort p v).campaignHalt = s.campaignHalt := rfl
@[simp] theorem State.setPort_fault (p : PortId) (v : Port) : (s.setPort p v).fault = s.fault := rfl
@[simp] theorem State.setPort_mode (p : PortId) (v : Port) : (s.setPort p v).mode = s.mode := rfl
@[simp] theorem State.setPort_active (p : PortId) (v : Port) : (s.setPort p v).active = s.active := rfl
@[simp] theorem State.setPort_standby (p : PortId) (v : Port) : (s.setPort p v).standby = s.standby := rfl
@[simp] theorem State.setPort_standbyWritten (p : PortId) (v : Port) :
    (s.setPort p v).standbyWritten = s.standbyWritten := rfl
@[simp] theorem State.setPort_bankA (p : PortId) (v : Port) : (s.setPort p v).bankA = s.bankA := rfl
@[simp] theorem State.setPort_bankB (p : PortId) (v : Port) : (s.setPort p v).bankB = s.bankB := rfl
@[simp] theorem State.setPort_campaign (p : PortId) (v : Port) : (s.setPort p v).campaign = s.campaign := rfl
@[simp] theorem State.setPort_image (p : PortId) (v : Port) : (s.setPort p v).image = s.image := rfl
@[simp] theorem State.setPort_sects (p : PortId) (v : Port) : (s.setPort p v).sects = s.sects := rfl
@[simp] theorem State.setPort_capture (p : PortId) (v : Port) : (s.setPort p v).capture = s.capture := rfl
@[simp] theorem State.setPort_moreRefusals (p : PortId) (v : Port) : (s.setPort p v).moreRefusals = s.moreRefusals := rfl
@[simp] theorem State.setPort_remaining (p : PortId) (v : Port) : (s.setPort p v).remaining = s.remaining := rfl
@[simp] theorem State.setPort_unusedReserve (p : PortId) (v : Port) :
    (s.setPort p v).unusedReserve = s.unusedReserve := rfl
@[simp] theorem State.setPort_periodNumber (p : PortId) (v : Port) : (s.setPort p v).periodNumber = s.periodNumber := rfl
@[simp] theorem State.setPort_periodTimer (p : PortId) (v : Port) : (s.setPort p v).periodTimer = s.periodTimer := rfl
@[simp] theorem State.setPort_tallyTimer (p : PortId) (v : Port) : (s.setPort p v).tallyTimer = s.tallyTimer := rfl
@[simp] theorem State.setPort_load (p : PortId) (v : Port) : (s.setPort p v).load = s.load := rfl
@[simp] theorem State.setPort_pledgeSum (p : PortId) (v : Port) : (s.setPort p v).pledgeSum = s.pledgeSum := rfl
@[simp] theorem State.setPort_held (p : PortId) (v : Port) : (s.setPort p v).held = s.held := rfl
@[simp] theorem State.setPort_entries (p : PortId) (v : Port) : (s.setPort p v).entries = s.entries := rfl
@[simp] theorem State.setPort_nextSeq (p : PortId) (v : Port) : (s.setPort p v).nextSeq = s.nextSeq := rfl
@[simp] theorem State.setPort_tagCounter (p : PortId) (v : Port) : (s.setPort p v).tagCounter = s.tagCounter := rfl
@[simp] theorem State.setPort_ports (p : PortId) (v : Port) :
    (s.setPort p v).ports = Store.write Port.clear s.ports (PortId.index p) v := rfl
@[simp] theorem State.setPort_upQueue (p : PortId) (v : Port) : (s.setPort p v).upQueue = s.upQueue := rfl
@[simp] theorem State.setPort_requests (p : PortId) (v : Port) : (s.setPort p v).requests = s.requests := rfl
@[simp] theorem State.setPort_swapCheck (p : PortId) (v : Port) : (s.setPort p v).swapCheck = s.swapCheck := rfl
@[simp] theorem State.setPort_noticeMask (p : PortId) (v : Port) : (s.setPort p v).noticeMask = s.noticeMask := rfl
@[simp] theorem State.setPort_noticeDest (p : PortId) (v : Port) : (s.setPort p v).noticeDest = s.noticeDest := rfl
@[simp] theorem State.setPort_noticeLost (p : PortId) (v : Port) : (s.setPort p v).noticeLost = s.noticeLost := rfl
@[simp] theorem State.setPort_agenda (p : PortId) (v : Port) : (s.setPort p v).agenda = s.agenda := rfl
@[simp] theorem State.setPort_draws (p : PortId) (v : Port) : (s.setPort p v).draws = s.draws := rfl

/-! ### `State.setPoint` -/

@[simp] theorem State.setPoint_pending (p : Nat) (v : PointDyn) : (s.setPoint p v).pending = s.pending := rfl
@[simp] theorem State.setPoint_supplyBad (p : Nat) (v : PointDyn) : (s.setPoint p v).supplyBad = s.supplyBad := rfl
@[simp] theorem State.setPoint_resetLine (p : Nat) (v : PointDyn) : (s.setPoint p v).resetLine = s.resetLine := rfl
@[simp] theorem State.setPoint_straps (p : Nat) (v : PointDyn) : (s.setPoint p v).straps = s.straps := rfl
@[simp] theorem State.setPoint_clock (p : Nat) (v : PointDyn) : (s.setPoint p v).clock = s.clock := rfl
@[simp] theorem State.setPoint_subMs (p : Nat) (v : PointDyn) : (s.setPoint p v).subMs = s.subMs := rfl
@[simp] theorem State.setPoint_permitIn (p : Nat) (v : PointDyn) : (s.setPoint p v).permitIn = s.permitIn := rfl
@[simp] theorem State.setPoint_permitOut (p : Nat) (v : PointDyn) : (s.setPoint p v).permitOut = s.permitOut := rfl
@[simp] theorem State.setPoint_campaignHalt (p : Nat) (v : PointDyn) :
    (s.setPoint p v).campaignHalt = s.campaignHalt := rfl
@[simp] theorem State.setPoint_fault (p : Nat) (v : PointDyn) : (s.setPoint p v).fault = s.fault := rfl
@[simp] theorem State.setPoint_mode (p : Nat) (v : PointDyn) : (s.setPoint p v).mode = s.mode := rfl
@[simp] theorem State.setPoint_active (p : Nat) (v : PointDyn) : (s.setPoint p v).active = s.active := rfl
@[simp] theorem State.setPoint_standby (p : Nat) (v : PointDyn) : (s.setPoint p v).standby = s.standby := rfl
@[simp] theorem State.setPoint_standbyWritten (p : Nat) (v : PointDyn) :
    (s.setPoint p v).standbyWritten = s.standbyWritten := rfl
@[simp] theorem State.setPoint_bankA (p : Nat) (v : PointDyn) : (s.setPoint p v).bankA = s.bankA := rfl
@[simp] theorem State.setPoint_bankB (p : Nat) (v : PointDyn) : (s.setPoint p v).bankB = s.bankB := rfl
@[simp] theorem State.setPoint_campaign (p : Nat) (v : PointDyn) : (s.setPoint p v).campaign = s.campaign := rfl
@[simp] theorem State.setPoint_image (p : Nat) (v : PointDyn) :
    (s.setPoint p v).image = Store.write PointDyn.clear s.image p v := rfl
@[simp] theorem State.setPoint_sects (p : Nat) (v : PointDyn) : (s.setPoint p v).sects = s.sects := rfl
@[simp] theorem State.setPoint_capture (p : Nat) (v : PointDyn) : (s.setPoint p v).capture = s.capture := rfl
@[simp] theorem State.setPoint_moreRefusals (p : Nat) (v : PointDyn) :
    (s.setPoint p v).moreRefusals = s.moreRefusals := rfl
@[simp] theorem State.setPoint_remaining (p : Nat) (v : PointDyn) : (s.setPoint p v).remaining = s.remaining := rfl
@[simp] theorem State.setPoint_unusedReserve (p : Nat) (v : PointDyn) :
    (s.setPoint p v).unusedReserve = s.unusedReserve := rfl
@[simp] theorem State.setPoint_periodNumber (p : Nat) (v : PointDyn) :
    (s.setPoint p v).periodNumber = s.periodNumber := rfl
@[simp] theorem State.setPoint_periodTimer (p : Nat) (v : PointDyn) : (s.setPoint p v).periodTimer = s.periodTimer := rfl
@[simp] theorem State.setPoint_tallyTimer (p : Nat) (v : PointDyn) : (s.setPoint p v).tallyTimer = s.tallyTimer := rfl
@[simp] theorem State.setPoint_load (p : Nat) (v : PointDyn) : (s.setPoint p v).load = s.load := rfl
@[simp] theorem State.setPoint_pledgeSum (p : Nat) (v : PointDyn) : (s.setPoint p v).pledgeSum = s.pledgeSum := rfl
@[simp] theorem State.setPoint_held (p : Nat) (v : PointDyn) : (s.setPoint p v).held = s.held := rfl
@[simp] theorem State.setPoint_entries (p : Nat) (v : PointDyn) : (s.setPoint p v).entries = s.entries := rfl
@[simp] theorem State.setPoint_nextSeq (p : Nat) (v : PointDyn) : (s.setPoint p v).nextSeq = s.nextSeq := rfl
@[simp] theorem State.setPoint_tagCounter (p : Nat) (v : PointDyn) : (s.setPoint p v).tagCounter = s.tagCounter := rfl
@[simp] theorem State.setPoint_ports (p : Nat) (v : PointDyn) : (s.setPoint p v).ports = s.ports := rfl
@[simp] theorem State.setPoint_upQueue (p : Nat) (v : PointDyn) : (s.setPoint p v).upQueue = s.upQueue := rfl
@[simp] theorem State.setPoint_requests (p : Nat) (v : PointDyn) : (s.setPoint p v).requests = s.requests := rfl
@[simp] theorem State.setPoint_swapCheck (p : Nat) (v : PointDyn) : (s.setPoint p v).swapCheck = s.swapCheck := rfl
@[simp] theorem State.setPoint_noticeMask (p : Nat) (v : PointDyn) : (s.setPoint p v).noticeMask = s.noticeMask := rfl
@[simp] theorem State.setPoint_noticeDest (p : Nat) (v : PointDyn) : (s.setPoint p v).noticeDest = s.noticeDest := rfl
@[simp] theorem State.setPoint_noticeLost (p : Nat) (v : PointDyn) : (s.setPoint p v).noticeLost = s.noticeLost := rfl
@[simp] theorem State.setPoint_agenda (p : Nat) (v : PointDyn) : (s.setPoint p v).agenda = s.agenda := rfl
@[simp] theorem State.setPoint_draws (p : Nat) (v : PointDyn) : (s.setPoint p v).draws = s.draws := rfl

/-! ### `State.setSect` -/

@[simp] theorem State.setSect_pending (n : Nat) (v : SectionDyn) : (s.setSect n v).pending = s.pending := rfl
@[simp] theorem State.setSect_supplyBad (n : Nat) (v : SectionDyn) : (s.setSect n v).supplyBad = s.supplyBad := rfl
@[simp] theorem State.setSect_resetLine (n : Nat) (v : SectionDyn) : (s.setSect n v).resetLine = s.resetLine := rfl
@[simp] theorem State.setSect_straps (n : Nat) (v : SectionDyn) : (s.setSect n v).straps = s.straps := rfl
@[simp] theorem State.setSect_clock (n : Nat) (v : SectionDyn) : (s.setSect n v).clock = s.clock := rfl
@[simp] theorem State.setSect_subMs (n : Nat) (v : SectionDyn) : (s.setSect n v).subMs = s.subMs := rfl
@[simp] theorem State.setSect_permitIn (n : Nat) (v : SectionDyn) : (s.setSect n v).permitIn = s.permitIn := rfl
@[simp] theorem State.setSect_permitOut (n : Nat) (v : SectionDyn) : (s.setSect n v).permitOut = s.permitOut := rfl
@[simp] theorem State.setSect_campaignHalt (n : Nat) (v : SectionDyn) :
    (s.setSect n v).campaignHalt = s.campaignHalt := rfl
@[simp] theorem State.setSect_fault (n : Nat) (v : SectionDyn) : (s.setSect n v).fault = s.fault := rfl
@[simp] theorem State.setSect_mode (n : Nat) (v : SectionDyn) : (s.setSect n v).mode = s.mode := rfl
@[simp] theorem State.setSect_active (n : Nat) (v : SectionDyn) : (s.setSect n v).active = s.active := rfl
@[simp] theorem State.setSect_standby (n : Nat) (v : SectionDyn) : (s.setSect n v).standby = s.standby := rfl
@[simp] theorem State.setSect_standbyWritten (n : Nat) (v : SectionDyn) :
    (s.setSect n v).standbyWritten = s.standbyWritten := rfl
@[simp] theorem State.setSect_bankA (n : Nat) (v : SectionDyn) : (s.setSect n v).bankA = s.bankA := rfl
@[simp] theorem State.setSect_bankB (n : Nat) (v : SectionDyn) : (s.setSect n v).bankB = s.bankB := rfl
@[simp] theorem State.setSect_campaign (n : Nat) (v : SectionDyn) : (s.setSect n v).campaign = s.campaign := rfl
@[simp] theorem State.setSect_image (n : Nat) (v : SectionDyn) : (s.setSect n v).image = s.image := rfl
@[simp] theorem State.setSect_sects (n : Nat) (v : SectionDyn) :
    (s.setSect n v).sects = Store.write SectionDyn.clear s.sects n v := rfl
@[simp] theorem State.setSect_capture (n : Nat) (v : SectionDyn) : (s.setSect n v).capture = s.capture := rfl
@[simp] theorem State.setSect_moreRefusals (n : Nat) (v : SectionDyn) :
    (s.setSect n v).moreRefusals = s.moreRefusals := rfl
@[simp] theorem State.setSect_remaining (n : Nat) (v : SectionDyn) : (s.setSect n v).remaining = s.remaining := rfl
@[simp] theorem State.setSect_unusedReserve (n : Nat) (v : SectionDyn) :
    (s.setSect n v).unusedReserve = s.unusedReserve := rfl
@[simp] theorem State.setSect_periodNumber (n : Nat) (v : SectionDyn) :
    (s.setSect n v).periodNumber = s.periodNumber := rfl
@[simp] theorem State.setSect_periodTimer (n : Nat) (v : SectionDyn) : (s.setSect n v).periodTimer = s.periodTimer := rfl
@[simp] theorem State.setSect_tallyTimer (n : Nat) (v : SectionDyn) : (s.setSect n v).tallyTimer = s.tallyTimer := rfl
@[simp] theorem State.setSect_load (n : Nat) (v : SectionDyn) : (s.setSect n v).load = s.load := rfl
@[simp] theorem State.setSect_pledgeSum (n : Nat) (v : SectionDyn) : (s.setSect n v).pledgeSum = s.pledgeSum := rfl
@[simp] theorem State.setSect_held (n : Nat) (v : SectionDyn) : (s.setSect n v).held = s.held := rfl
@[simp] theorem State.setSect_entries (n : Nat) (v : SectionDyn) : (s.setSect n v).entries = s.entries := rfl
@[simp] theorem State.setSect_nextSeq (n : Nat) (v : SectionDyn) : (s.setSect n v).nextSeq = s.nextSeq := rfl
@[simp] theorem State.setSect_tagCounter (n : Nat) (v : SectionDyn) : (s.setSect n v).tagCounter = s.tagCounter := rfl
@[simp] theorem State.setSect_ports (n : Nat) (v : SectionDyn) : (s.setSect n v).ports = s.ports := rfl
@[simp] theorem State.setSect_upQueue (n : Nat) (v : SectionDyn) : (s.setSect n v).upQueue = s.upQueue := rfl
@[simp] theorem State.setSect_requests (n : Nat) (v : SectionDyn) : (s.setSect n v).requests = s.requests := rfl
@[simp] theorem State.setSect_swapCheck (n : Nat) (v : SectionDyn) : (s.setSect n v).swapCheck = s.swapCheck := rfl
@[simp] theorem State.setSect_noticeMask (n : Nat) (v : SectionDyn) : (s.setSect n v).noticeMask = s.noticeMask := rfl
@[simp] theorem State.setSect_noticeDest (n : Nat) (v : SectionDyn) : (s.setSect n v).noticeDest = s.noticeDest := rfl
@[simp] theorem State.setSect_noticeLost (n : Nat) (v : SectionDyn) : (s.setSect n v).noticeLost = s.noticeLost := rfl
@[simp] theorem State.setSect_agenda (n : Nat) (v : SectionDyn) : (s.setSect n v).agenda = s.agenda := rfl
@[simp] theorem State.setSect_draws (n : Nat) (v : SectionDyn) : (s.setSect n v).draws = s.draws := rfl

/-! ### `State.setPermitOut` -/

@[simp] theorem State.setPermitOut_pending (k : Nat) (b : Bool) : (s.setPermitOut k b).pending = s.pending := rfl
@[simp] theorem State.setPermitOut_supplyBad (k : Nat) (b : Bool) : (s.setPermitOut k b).supplyBad = s.supplyBad := rfl
@[simp] theorem State.setPermitOut_resetLine (k : Nat) (b : Bool) : (s.setPermitOut k b).resetLine = s.resetLine := rfl
@[simp] theorem State.setPermitOut_straps (k : Nat) (b : Bool) : (s.setPermitOut k b).straps = s.straps := rfl
@[simp] theorem State.setPermitOut_clock (k : Nat) (b : Bool) : (s.setPermitOut k b).clock = s.clock := rfl
@[simp] theorem State.setPermitOut_subMs (k : Nat) (b : Bool) : (s.setPermitOut k b).subMs = s.subMs := rfl
@[simp] theorem State.setPermitOut_permitIn (k : Nat) (b : Bool) : (s.setPermitOut k b).permitIn = s.permitIn := rfl
@[simp] theorem State.setPermitOut_permitOut (k : Nat) (b : Bool) :
    (s.setPermitOut k b).permitOut = Store.write false s.permitOut k b := rfl
@[simp] theorem State.setPermitOut_campaignHalt (k : Nat) (b : Bool) :
    (s.setPermitOut k b).campaignHalt = s.campaignHalt := rfl
@[simp] theorem State.setPermitOut_fault (k : Nat) (b : Bool) : (s.setPermitOut k b).fault = s.fault := rfl
@[simp] theorem State.setPermitOut_mode (k : Nat) (b : Bool) : (s.setPermitOut k b).mode = s.mode := rfl
@[simp] theorem State.setPermitOut_active (k : Nat) (b : Bool) : (s.setPermitOut k b).active = s.active := rfl
@[simp] theorem State.setPermitOut_standby (k : Nat) (b : Bool) : (s.setPermitOut k b).standby = s.standby := rfl
@[simp] theorem State.setPermitOut_standbyWritten (k : Nat) (b : Bool) :
    (s.setPermitOut k b).standbyWritten = s.standbyWritten := rfl
@[simp] theorem State.setPermitOut_bankA (k : Nat) (b : Bool) : (s.setPermitOut k b).bankA = s.bankA := rfl
@[simp] theorem State.setPermitOut_bankB (k : Nat) (b : Bool) : (s.setPermitOut k b).bankB = s.bankB := rfl
@[simp] theorem State.setPermitOut_campaign (k : Nat) (b : Bool) : (s.setPermitOut k b).campaign = s.campaign := rfl
@[simp] theorem State.setPermitOut_image (k : Nat) (b : Bool) : (s.setPermitOut k b).image = s.image := rfl
@[simp] theorem State.setPermitOut_sects (k : Nat) (b : Bool) : (s.setPermitOut k b).sects = s.sects := rfl
@[simp] theorem State.setPermitOut_capture (k : Nat) (b : Bool) : (s.setPermitOut k b).capture = s.capture := rfl
@[simp] theorem State.setPermitOut_moreRefusals (k : Nat) (b : Bool) :
    (s.setPermitOut k b).moreRefusals = s.moreRefusals := rfl
@[simp] theorem State.setPermitOut_remaining (k : Nat) (b : Bool) : (s.setPermitOut k b).remaining = s.remaining := rfl
@[simp] theorem State.setPermitOut_unusedReserve (k : Nat) (b : Bool) :
    (s.setPermitOut k b).unusedReserve = s.unusedReserve := rfl
@[simp] theorem State.setPermitOut_periodNumber (k : Nat) (b : Bool) :
    (s.setPermitOut k b).periodNumber = s.periodNumber := rfl
@[simp] theorem State.setPermitOut_periodTimer (k : Nat) (b : Bool) :
    (s.setPermitOut k b).periodTimer = s.periodTimer := rfl
@[simp] theorem State.setPermitOut_tallyTimer (k : Nat) (b : Bool) : (s.setPermitOut k b).tallyTimer = s.tallyTimer := rfl
@[simp] theorem State.setPermitOut_load (k : Nat) (b : Bool) : (s.setPermitOut k b).load = s.load := rfl
@[simp] theorem State.setPermitOut_pledgeSum (k : Nat) (b : Bool) : (s.setPermitOut k b).pledgeSum = s.pledgeSum := rfl
@[simp] theorem State.setPermitOut_held (k : Nat) (b : Bool) : (s.setPermitOut k b).held = s.held := rfl
@[simp] theorem State.setPermitOut_entries (k : Nat) (b : Bool) : (s.setPermitOut k b).entries = s.entries := rfl
@[simp] theorem State.setPermitOut_nextSeq (k : Nat) (b : Bool) : (s.setPermitOut k b).nextSeq = s.nextSeq := rfl
@[simp] theorem State.setPermitOut_tagCounter (k : Nat) (b : Bool) : (s.setPermitOut k b).tagCounter = s.tagCounter := rfl
@[simp] theorem State.setPermitOut_ports (k : Nat) (b : Bool) : (s.setPermitOut k b).ports = s.ports := rfl
@[simp] theorem State.setPermitOut_upQueue (k : Nat) (b : Bool) : (s.setPermitOut k b).upQueue = s.upQueue := rfl
@[simp] theorem State.setPermitOut_requests (k : Nat) (b : Bool) : (s.setPermitOut k b).requests = s.requests := rfl
@[simp] theorem State.setPermitOut_swapCheck (k : Nat) (b : Bool) : (s.setPermitOut k b).swapCheck = s.swapCheck := rfl
@[simp] theorem State.setPermitOut_noticeMask (k : Nat) (b : Bool) : (s.setPermitOut k b).noticeMask = s.noticeMask := rfl
@[simp] theorem State.setPermitOut_noticeDest (k : Nat) (b : Bool) : (s.setPermitOut k b).noticeDest = s.noticeDest := rfl
@[simp] theorem State.setPermitOut_noticeLost (k : Nat) (b : Bool) : (s.setPermitOut k b).noticeLost = s.noticeLost := rfl
@[simp] theorem State.setPermitOut_agenda (k : Nat) (b : Bool) : (s.setPermitOut k b).agenda = s.agenda := rfl
@[simp] theorem State.setPermitOut_draws (k : Nat) (b : Bool) : (s.setPermitOut k b).draws = s.draws := rfl

/-! ### `State.addTasks` -/

@[simp] theorem State.addTasks_pending (l : List Task) : (s.addTasks l).pending = s.pending := rfl
@[simp] theorem State.addTasks_supplyBad (l : List Task) : (s.addTasks l).supplyBad = s.supplyBad := rfl
@[simp] theorem State.addTasks_resetLine (l : List Task) : (s.addTasks l).resetLine = s.resetLine := rfl
@[simp] theorem State.addTasks_straps (l : List Task) : (s.addTasks l).straps = s.straps := rfl
@[simp] theorem State.addTasks_clock (l : List Task) : (s.addTasks l).clock = s.clock := rfl
@[simp] theorem State.addTasks_subMs (l : List Task) : (s.addTasks l).subMs = s.subMs := rfl
@[simp] theorem State.addTasks_permitIn (l : List Task) : (s.addTasks l).permitIn = s.permitIn := rfl
@[simp] theorem State.addTasks_permitOut (l : List Task) : (s.addTasks l).permitOut = s.permitOut := rfl
@[simp] theorem State.addTasks_campaignHalt (l : List Task) : (s.addTasks l).campaignHalt = s.campaignHalt := rfl
@[simp] theorem State.addTasks_fault (l : List Task) : (s.addTasks l).fault = s.fault := rfl
@[simp] theorem State.addTasks_mode (l : List Task) : (s.addTasks l).mode = s.mode := rfl
@[simp] theorem State.addTasks_active (l : List Task) : (s.addTasks l).active = s.active := rfl
@[simp] theorem State.addTasks_standby (l : List Task) : (s.addTasks l).standby = s.standby := rfl
@[simp] theorem State.addTasks_standbyWritten (l : List Task) : (s.addTasks l).standbyWritten = s.standbyWritten := rfl
@[simp] theorem State.addTasks_bankA (l : List Task) : (s.addTasks l).bankA = s.bankA := rfl
@[simp] theorem State.addTasks_bankB (l : List Task) : (s.addTasks l).bankB = s.bankB := rfl
@[simp] theorem State.addTasks_campaign (l : List Task) : (s.addTasks l).campaign = s.campaign := rfl
@[simp] theorem State.addTasks_image (l : List Task) : (s.addTasks l).image = s.image := rfl
@[simp] theorem State.addTasks_sects (l : List Task) : (s.addTasks l).sects = s.sects := rfl
@[simp] theorem State.addTasks_capture (l : List Task) : (s.addTasks l).capture = s.capture := rfl
@[simp] theorem State.addTasks_moreRefusals (l : List Task) : (s.addTasks l).moreRefusals = s.moreRefusals := rfl
@[simp] theorem State.addTasks_remaining (l : List Task) : (s.addTasks l).remaining = s.remaining := rfl
@[simp] theorem State.addTasks_unusedReserve (l : List Task) : (s.addTasks l).unusedReserve = s.unusedReserve := rfl
@[simp] theorem State.addTasks_periodNumber (l : List Task) : (s.addTasks l).periodNumber = s.periodNumber := rfl
@[simp] theorem State.addTasks_periodTimer (l : List Task) : (s.addTasks l).periodTimer = s.periodTimer := rfl
@[simp] theorem State.addTasks_tallyTimer (l : List Task) : (s.addTasks l).tallyTimer = s.tallyTimer := rfl
@[simp] theorem State.addTasks_load (l : List Task) : (s.addTasks l).load = s.load := rfl
@[simp] theorem State.addTasks_pledgeSum (l : List Task) : (s.addTasks l).pledgeSum = s.pledgeSum := rfl
@[simp] theorem State.addTasks_held (l : List Task) : (s.addTasks l).held = s.held := rfl
@[simp] theorem State.addTasks_entries (l : List Task) : (s.addTasks l).entries = s.entries := rfl
@[simp] theorem State.addTasks_nextSeq (l : List Task) : (s.addTasks l).nextSeq = s.nextSeq := rfl
@[simp] theorem State.addTasks_tagCounter (l : List Task) : (s.addTasks l).tagCounter = s.tagCounter := rfl
@[simp] theorem State.addTasks_ports (l : List Task) : (s.addTasks l).ports = s.ports := rfl
@[simp] theorem State.addTasks_upQueue (l : List Task) : (s.addTasks l).upQueue = s.upQueue := rfl
@[simp] theorem State.addTasks_requests (l : List Task) : (s.addTasks l).requests = s.requests := rfl
@[simp] theorem State.addTasks_swapCheck (l : List Task) : (s.addTasks l).swapCheck = s.swapCheck := rfl
@[simp] theorem State.addTasks_noticeMask (l : List Task) : (s.addTasks l).noticeMask = s.noticeMask := rfl
@[simp] theorem State.addTasks_noticeDest (l : List Task) : (s.addTasks l).noticeDest = s.noticeDest := rfl
@[simp] theorem State.addTasks_noticeLost (l : List Task) : (s.addTasks l).noticeLost = s.noticeLost := rfl
@[simp] theorem State.addTasks_agenda (l : List Task) : (s.addTasks l).agenda = s.agenda ++ l := rfl
@[simp] theorem State.addTasks_draws (l : List Task) : (s.addTasks l).draws = s.draws := rfl

/-! ### `State.addTask` -/

@[simp] theorem State.addTask_pending (x : Task) : (s.addTask x).pending = s.pending := rfl
@[simp] theorem State.addTask_supplyBad (x : Task) : (s.addTask x).supplyBad = s.supplyBad := rfl
@[simp] theorem State.addTask_resetLine (x : Task) : (s.addTask x).resetLine = s.resetLine := rfl
@[simp] theorem State.addTask_straps (x : Task) : (s.addTask x).straps = s.straps := rfl
@[simp] theorem State.addTask_clock (x : Task) : (s.addTask x).clock = s.clock := rfl
@[simp] theorem State.addTask_subMs (x : Task) : (s.addTask x).subMs = s.subMs := rfl
@[simp] theorem State.addTask_permitIn (x : Task) : (s.addTask x).permitIn = s.permitIn := rfl
@[simp] theorem State.addTask_permitOut (x : Task) : (s.addTask x).permitOut = s.permitOut := rfl
@[simp] theorem State.addTask_campaignHalt (x : Task) : (s.addTask x).campaignHalt = s.campaignHalt := rfl
@[simp] theorem State.addTask_fault (x : Task) : (s.addTask x).fault = s.fault := rfl
@[simp] theorem State.addTask_mode (x : Task) : (s.addTask x).mode = s.mode := rfl
@[simp] theorem State.addTask_active (x : Task) : (s.addTask x).active = s.active := rfl
@[simp] theorem State.addTask_standby (x : Task) : (s.addTask x).standby = s.standby := rfl
@[simp] theorem State.addTask_standbyWritten (x : Task) : (s.addTask x).standbyWritten = s.standbyWritten := rfl
@[simp] theorem State.addTask_bankA (x : Task) : (s.addTask x).bankA = s.bankA := rfl
@[simp] theorem State.addTask_bankB (x : Task) : (s.addTask x).bankB = s.bankB := rfl
@[simp] theorem State.addTask_campaign (x : Task) : (s.addTask x).campaign = s.campaign := rfl
@[simp] theorem State.addTask_image (x : Task) : (s.addTask x).image = s.image := rfl
@[simp] theorem State.addTask_sects (x : Task) : (s.addTask x).sects = s.sects := rfl
@[simp] theorem State.addTask_capture (x : Task) : (s.addTask x).capture = s.capture := rfl
@[simp] theorem State.addTask_moreRefusals (x : Task) : (s.addTask x).moreRefusals = s.moreRefusals := rfl
@[simp] theorem State.addTask_remaining (x : Task) : (s.addTask x).remaining = s.remaining := rfl
@[simp] theorem State.addTask_unusedReserve (x : Task) : (s.addTask x).unusedReserve = s.unusedReserve := rfl
@[simp] theorem State.addTask_periodNumber (x : Task) : (s.addTask x).periodNumber = s.periodNumber := rfl
@[simp] theorem State.addTask_periodTimer (x : Task) : (s.addTask x).periodTimer = s.periodTimer := rfl
@[simp] theorem State.addTask_tallyTimer (x : Task) : (s.addTask x).tallyTimer = s.tallyTimer := rfl
@[simp] theorem State.addTask_load (x : Task) : (s.addTask x).load = s.load := rfl
@[simp] theorem State.addTask_pledgeSum (x : Task) : (s.addTask x).pledgeSum = s.pledgeSum := rfl
@[simp] theorem State.addTask_held (x : Task) : (s.addTask x).held = s.held := rfl
@[simp] theorem State.addTask_entries (x : Task) : (s.addTask x).entries = s.entries := rfl
@[simp] theorem State.addTask_nextSeq (x : Task) : (s.addTask x).nextSeq = s.nextSeq := rfl
@[simp] theorem State.addTask_tagCounter (x : Task) : (s.addTask x).tagCounter = s.tagCounter := rfl
@[simp] theorem State.addTask_ports (x : Task) : (s.addTask x).ports = s.ports := rfl
@[simp] theorem State.addTask_upQueue (x : Task) : (s.addTask x).upQueue = s.upQueue := rfl
@[simp] theorem State.addTask_requests (x : Task) : (s.addTask x).requests = s.requests := rfl
@[simp] theorem State.addTask_swapCheck (x : Task) : (s.addTask x).swapCheck = s.swapCheck := rfl
@[simp] theorem State.addTask_noticeMask (x : Task) : (s.addTask x).noticeMask = s.noticeMask := rfl
@[simp] theorem State.addTask_noticeDest (x : Task) : (s.addTask x).noticeDest = s.noticeDest := rfl
@[simp] theorem State.addTask_noticeLost (x : Task) : (s.addTask x).noticeLost = s.noticeLost := rfl
@[simp] theorem State.addTask_agenda (x : Task) : (s.addTask x).agenda = s.agenda ++ [x] := rfl
@[simp] theorem State.addTask_draws (x : Task) : (s.addTask x).draws = s.draws := rfl

/-! ### `State.startScan` -/

@[simp] theorem State.startScan_pending : (s.startScan).pending = s.pending := rfl
@[simp] theorem State.startScan_supplyBad : (s.startScan).supplyBad = s.supplyBad := rfl
@[simp] theorem State.startScan_resetLine : (s.startScan).resetLine = s.resetLine := rfl
@[simp] theorem State.startScan_straps : (s.startScan).straps = s.straps := rfl
@[simp] theorem State.startScan_clock : (s.startScan).clock = s.clock := rfl
@[simp] theorem State.startScan_subMs : (s.startScan).subMs = s.subMs := rfl
@[simp] theorem State.startScan_permitIn : (s.startScan).permitIn = s.permitIn := rfl
@[simp] theorem State.startScan_permitOut : (s.startScan).permitOut = s.permitOut := rfl
@[simp] theorem State.startScan_campaignHalt : (s.startScan).campaignHalt = s.campaignHalt := rfl
@[simp] theorem State.startScan_fault : (s.startScan).fault = s.fault := rfl
@[simp] theorem State.startScan_mode : (s.startScan).mode = s.mode := rfl
@[simp] theorem State.startScan_active : (s.startScan).active = s.active := rfl
@[simp] theorem State.startScan_standby : (s.startScan).standby = s.standby := rfl
@[simp] theorem State.startScan_standbyWritten : (s.startScan).standbyWritten = s.standbyWritten := rfl
@[simp] theorem State.startScan_bankA : (s.startScan).bankA = s.bankA := rfl
@[simp] theorem State.startScan_bankB : (s.startScan).bankB = s.bankB := rfl
@[simp] theorem State.startScan_campaign : (s.startScan).campaign = s.campaign := rfl
@[simp] theorem State.startScan_image : (s.startScan).image = s.image := rfl
@[simp] theorem State.startScan_sects : (s.startScan).sects = s.sects := rfl
@[simp] theorem State.startScan_capture : (s.startScan).capture = s.capture := rfl
@[simp] theorem State.startScan_moreRefusals : (s.startScan).moreRefusals = s.moreRefusals := rfl
@[simp] theorem State.startScan_remaining : (s.startScan).remaining = s.remaining := rfl
@[simp] theorem State.startScan_unusedReserve : (s.startScan).unusedReserve = s.unusedReserve := rfl
@[simp] theorem State.startScan_periodNumber : (s.startScan).periodNumber = s.periodNumber := rfl
@[simp] theorem State.startScan_periodTimer : (s.startScan).periodTimer = s.periodTimer := rfl
@[simp] theorem State.startScan_tallyTimer : (s.startScan).tallyTimer = s.tallyTimer := rfl
@[simp] theorem State.startScan_load : (s.startScan).load = s.load := rfl
@[simp] theorem State.startScan_pledgeSum : (s.startScan).pledgeSum = s.pledgeSum := rfl
@[simp] theorem State.startScan_held : (s.startScan).held = s.held := rfl
@[simp] theorem State.startScan_entries : (s.startScan).entries = s.entries := rfl
@[simp] theorem State.startScan_nextSeq : (s.startScan).nextSeq = s.nextSeq := rfl
@[simp] theorem State.startScan_tagCounter : (s.startScan).tagCounter = s.tagCounter := rfl
@[simp] theorem State.startScan_ports : (s.startScan).ports = s.ports := rfl
@[simp] theorem State.startScan_upQueue : (s.startScan).upQueue = s.upQueue := rfl
@[simp] theorem State.startScan_requests : (s.startScan).requests = s.requests := rfl
@[simp] theorem State.startScan_swapCheck : (s.startScan).swapCheck = s.swapCheck := rfl
@[simp] theorem State.startScan_noticeMask : (s.startScan).noticeMask = s.noticeMask := rfl
@[simp] theorem State.startScan_noticeDest : (s.startScan).noticeDest = s.noticeDest := rfl
@[simp] theorem State.startScan_noticeLost : (s.startScan).noticeLost = s.noticeLost := rfl
@[simp] theorem State.startScan_agenda : (s.startScan).agenda = s.agenda ++ [.scan] := rfl
@[simp] theorem State.startScan_draws : (s.startScan).draws = s.draws := rfl

/-! ### `State.countDraw` -/

@[simp] theorem State.countDraw_pending : (s.countDraw).pending = s.pending := rfl
@[simp] theorem State.countDraw_supplyBad : (s.countDraw).supplyBad = s.supplyBad := rfl
@[simp] theorem State.countDraw_resetLine : (s.countDraw).resetLine = s.resetLine := rfl
@[simp] theorem State.countDraw_straps : (s.countDraw).straps = s.straps := rfl
@[simp] theorem State.countDraw_clock : (s.countDraw).clock = s.clock := rfl
@[simp] theorem State.countDraw_subMs : (s.countDraw).subMs = s.subMs := rfl
@[simp] theorem State.countDraw_permitIn : (s.countDraw).permitIn = s.permitIn := rfl
@[simp] theorem State.countDraw_permitOut : (s.countDraw).permitOut = s.permitOut := rfl
@[simp] theorem State.countDraw_campaignHalt : (s.countDraw).campaignHalt = s.campaignHalt := rfl
@[simp] theorem State.countDraw_fault : (s.countDraw).fault = s.fault := rfl
@[simp] theorem State.countDraw_mode : (s.countDraw).mode = s.mode := rfl
@[simp] theorem State.countDraw_active : (s.countDraw).active = s.active := rfl
@[simp] theorem State.countDraw_standby : (s.countDraw).standby = s.standby := rfl
@[simp] theorem State.countDraw_standbyWritten : (s.countDraw).standbyWritten = s.standbyWritten := rfl
@[simp] theorem State.countDraw_bankA : (s.countDraw).bankA = s.bankA := rfl
@[simp] theorem State.countDraw_bankB : (s.countDraw).bankB = s.bankB := rfl
@[simp] theorem State.countDraw_campaign : (s.countDraw).campaign = s.campaign := rfl
@[simp] theorem State.countDraw_image : (s.countDraw).image = s.image := rfl
@[simp] theorem State.countDraw_sects : (s.countDraw).sects = s.sects := rfl
@[simp] theorem State.countDraw_capture : (s.countDraw).capture = s.capture := rfl
@[simp] theorem State.countDraw_moreRefusals : (s.countDraw).moreRefusals = s.moreRefusals := rfl
@[simp] theorem State.countDraw_remaining : (s.countDraw).remaining = s.remaining := rfl
@[simp] theorem State.countDraw_unusedReserve : (s.countDraw).unusedReserve = s.unusedReserve := rfl
@[simp] theorem State.countDraw_periodNumber : (s.countDraw).periodNumber = s.periodNumber := rfl
@[simp] theorem State.countDraw_periodTimer : (s.countDraw).periodTimer = s.periodTimer := rfl
@[simp] theorem State.countDraw_tallyTimer : (s.countDraw).tallyTimer = s.tallyTimer := rfl
@[simp] theorem State.countDraw_load : (s.countDraw).load = s.load := rfl
@[simp] theorem State.countDraw_pledgeSum : (s.countDraw).pledgeSum = s.pledgeSum := rfl
@[simp] theorem State.countDraw_held : (s.countDraw).held = s.held := rfl
@[simp] theorem State.countDraw_entries : (s.countDraw).entries = s.entries := rfl
@[simp] theorem State.countDraw_nextSeq : (s.countDraw).nextSeq = s.nextSeq := rfl
@[simp] theorem State.countDraw_tagCounter : (s.countDraw).tagCounter = s.tagCounter := rfl
@[simp] theorem State.countDraw_ports : (s.countDraw).ports = s.ports := rfl
@[simp] theorem State.countDraw_upQueue : (s.countDraw).upQueue = s.upQueue := rfl
@[simp] theorem State.countDraw_requests : (s.countDraw).requests = s.requests := rfl
@[simp] theorem State.countDraw_swapCheck : (s.countDraw).swapCheck = s.swapCheck := rfl
@[simp] theorem State.countDraw_noticeMask : (s.countDraw).noticeMask = s.noticeMask := rfl
@[simp] theorem State.countDraw_noticeDest : (s.countDraw).noticeDest = s.noticeDest := rfl
@[simp] theorem State.countDraw_noticeLost : (s.countDraw).noticeLost = s.noticeLost := rfl
@[simp] theorem State.countDraw_agenda : (s.countDraw).agenda = s.agenda := rfl
@[simp] theorem State.countDraw_draws : (s.countDraw).draws = s.draws + 1 := rfl

/-! ### `State.pushUp` -/

@[simp] theorem State.pushUp_pending (c : UpContent) : (s.pushUp c).pending = s.pending := rfl
@[simp] theorem State.pushUp_supplyBad (c : UpContent) : (s.pushUp c).supplyBad = s.supplyBad := rfl
@[simp] theorem State.pushUp_resetLine (c : UpContent) : (s.pushUp c).resetLine = s.resetLine := rfl
@[simp] theorem State.pushUp_straps (c : UpContent) : (s.pushUp c).straps = s.straps := rfl
@[simp] theorem State.pushUp_clock (c : UpContent) : (s.pushUp c).clock = s.clock := rfl
@[simp] theorem State.pushUp_subMs (c : UpContent) : (s.pushUp c).subMs = s.subMs := rfl
@[simp] theorem State.pushUp_permitIn (c : UpContent) : (s.pushUp c).permitIn = s.permitIn := rfl
@[simp] theorem State.pushUp_permitOut (c : UpContent) : (s.pushUp c).permitOut = s.permitOut := rfl
@[simp] theorem State.pushUp_campaignHalt (c : UpContent) : (s.pushUp c).campaignHalt = s.campaignHalt := rfl
@[simp] theorem State.pushUp_fault (c : UpContent) : (s.pushUp c).fault = s.fault := rfl
@[simp] theorem State.pushUp_mode (c : UpContent) : (s.pushUp c).mode = s.mode := rfl
@[simp] theorem State.pushUp_active (c : UpContent) : (s.pushUp c).active = s.active := rfl
@[simp] theorem State.pushUp_standby (c : UpContent) : (s.pushUp c).standby = s.standby := rfl
@[simp] theorem State.pushUp_standbyWritten (c : UpContent) : (s.pushUp c).standbyWritten = s.standbyWritten := rfl
@[simp] theorem State.pushUp_bankA (c : UpContent) : (s.pushUp c).bankA = s.bankA := rfl
@[simp] theorem State.pushUp_bankB (c : UpContent) : (s.pushUp c).bankB = s.bankB := rfl
@[simp] theorem State.pushUp_campaign (c : UpContent) : (s.pushUp c).campaign = s.campaign := rfl
@[simp] theorem State.pushUp_image (c : UpContent) : (s.pushUp c).image = s.image := rfl
@[simp] theorem State.pushUp_sects (c : UpContent) : (s.pushUp c).sects = s.sects := rfl
@[simp] theorem State.pushUp_capture (c : UpContent) : (s.pushUp c).capture = s.capture := rfl
@[simp] theorem State.pushUp_moreRefusals (c : UpContent) : (s.pushUp c).moreRefusals = s.moreRefusals := rfl
@[simp] theorem State.pushUp_remaining (c : UpContent) : (s.pushUp c).remaining = s.remaining := rfl
@[simp] theorem State.pushUp_unusedReserve (c : UpContent) : (s.pushUp c).unusedReserve = s.unusedReserve := rfl
@[simp] theorem State.pushUp_periodNumber (c : UpContent) : (s.pushUp c).periodNumber = s.periodNumber := rfl
@[simp] theorem State.pushUp_periodTimer (c : UpContent) : (s.pushUp c).periodTimer = s.periodTimer := rfl
@[simp] theorem State.pushUp_tallyTimer (c : UpContent) : (s.pushUp c).tallyTimer = s.tallyTimer := rfl
@[simp] theorem State.pushUp_load (c : UpContent) : (s.pushUp c).load = s.load := rfl
@[simp] theorem State.pushUp_pledgeSum (c : UpContent) : (s.pushUp c).pledgeSum = s.pledgeSum := rfl
@[simp] theorem State.pushUp_held (c : UpContent) : (s.pushUp c).held = s.held := rfl
@[simp] theorem State.pushUp_entries (c : UpContent) : (s.pushUp c).entries = s.entries := rfl
@[simp] theorem State.pushUp_nextSeq (c : UpContent) : (s.pushUp c).nextSeq = s.nextSeq := rfl
@[simp] theorem State.pushUp_tagCounter (c : UpContent) : (s.pushUp c).tagCounter = s.tagCounter := rfl
@[simp] theorem State.pushUp_ports (c : UpContent) : (s.pushUp c).ports = s.ports := rfl
@[simp] theorem State.pushUp_upQueue (c : UpContent) : (s.pushUp c).upQueue = upJoin s.upQueue c := rfl
@[simp] theorem State.pushUp_requests (c : UpContent) : (s.pushUp c).requests = s.requests := rfl
@[simp] theorem State.pushUp_swapCheck (c : UpContent) : (s.pushUp c).swapCheck = s.swapCheck := rfl
@[simp] theorem State.pushUp_noticeMask (c : UpContent) : (s.pushUp c).noticeMask = s.noticeMask := rfl
@[simp] theorem State.pushUp_noticeDest (c : UpContent) : (s.pushUp c).noticeDest = s.noticeDest := rfl
@[simp] theorem State.pushUp_noticeLost (c : UpContent) : (s.pushUp c).noticeLost = s.noticeLost := rfl
@[simp] theorem State.pushUp_agenda (c : UpContent) : (s.pushUp c).agenda = s.agenda := rfl
@[simp] theorem State.pushUp_draws (c : UpContent) : (s.pushUp c).draws = s.draws := rfl

/-! ### `State.pushReport` -/

@[simp] theorem State.pushReport_pending (r : PointTel) : (s.pushReport r).pending = s.pending := rfl
@[simp] theorem State.pushReport_supplyBad (r : PointTel) : (s.pushReport r).supplyBad = s.supplyBad := rfl
@[simp] theorem State.pushReport_resetLine (r : PointTel) : (s.pushReport r).resetLine = s.resetLine := rfl
@[simp] theorem State.pushReport_straps (r : PointTel) : (s.pushReport r).straps = s.straps := rfl
@[simp] theorem State.pushReport_clock (r : PointTel) : (s.pushReport r).clock = s.clock := rfl
@[simp] theorem State.pushReport_subMs (r : PointTel) : (s.pushReport r).subMs = s.subMs := rfl
@[simp] theorem State.pushReport_permitIn (r : PointTel) : (s.pushReport r).permitIn = s.permitIn := rfl
@[simp] theorem State.pushReport_permitOut (r : PointTel) : (s.pushReport r).permitOut = s.permitOut := rfl
@[simp] theorem State.pushReport_campaignHalt (r : PointTel) : (s.pushReport r).campaignHalt = s.campaignHalt := rfl
@[simp] theorem State.pushReport_fault (r : PointTel) : (s.pushReport r).fault = s.fault := rfl
@[simp] theorem State.pushReport_mode (r : PointTel) : (s.pushReport r).mode = s.mode := rfl
@[simp] theorem State.pushReport_active (r : PointTel) : (s.pushReport r).active = s.active := rfl
@[simp] theorem State.pushReport_standby (r : PointTel) : (s.pushReport r).standby = s.standby := rfl
@[simp] theorem State.pushReport_standbyWritten (r : PointTel) : (s.pushReport r).standbyWritten = s.standbyWritten := rfl
@[simp] theorem State.pushReport_bankA (r : PointTel) : (s.pushReport r).bankA = s.bankA := rfl
@[simp] theorem State.pushReport_bankB (r : PointTel) : (s.pushReport r).bankB = s.bankB := rfl
@[simp] theorem State.pushReport_campaign (r : PointTel) : (s.pushReport r).campaign = s.campaign := rfl
@[simp] theorem State.pushReport_image (r : PointTel) : (s.pushReport r).image = s.image := rfl
@[simp] theorem State.pushReport_sects (r : PointTel) : (s.pushReport r).sects = s.sects := rfl
@[simp] theorem State.pushReport_capture (r : PointTel) : (s.pushReport r).capture = s.capture := rfl
@[simp] theorem State.pushReport_moreRefusals (r : PointTel) : (s.pushReport r).moreRefusals = s.moreRefusals := rfl
@[simp] theorem State.pushReport_remaining (r : PointTel) : (s.pushReport r).remaining = s.remaining := rfl
@[simp] theorem State.pushReport_unusedReserve (r : PointTel) : (s.pushReport r).unusedReserve = s.unusedReserve := rfl
@[simp] theorem State.pushReport_periodNumber (r : PointTel) : (s.pushReport r).periodNumber = s.periodNumber := rfl
@[simp] theorem State.pushReport_periodTimer (r : PointTel) : (s.pushReport r).periodTimer = s.periodTimer := rfl
@[simp] theorem State.pushReport_tallyTimer (r : PointTel) : (s.pushReport r).tallyTimer = s.tallyTimer := rfl
@[simp] theorem State.pushReport_load (r : PointTel) : (s.pushReport r).load = s.load := rfl
@[simp] theorem State.pushReport_pledgeSum (r : PointTel) : (s.pushReport r).pledgeSum = s.pledgeSum := rfl
@[simp] theorem State.pushReport_held (r : PointTel) : (s.pushReport r).held = s.held := rfl
@[simp] theorem State.pushReport_entries (r : PointTel) : (s.pushReport r).entries = s.entries := rfl
@[simp] theorem State.pushReport_nextSeq (r : PointTel) : (s.pushReport r).nextSeq = s.nextSeq := rfl
@[simp] theorem State.pushReport_tagCounter (r : PointTel) : (s.pushReport r).tagCounter = s.tagCounter := rfl
@[simp] theorem State.pushReport_ports (r : PointTel) : (s.pushReport r).ports = s.ports := rfl
@[simp] theorem State.pushReport_upQueue (r : PointTel) : (s.pushReport r).upQueue = upReport s.upQueue r := rfl
@[simp] theorem State.pushReport_requests (r : PointTel) : (s.pushReport r).requests = s.requests := rfl
@[simp] theorem State.pushReport_swapCheck (r : PointTel) : (s.pushReport r).swapCheck = s.swapCheck := rfl
@[simp] theorem State.pushReport_noticeMask (r : PointTel) : (s.pushReport r).noticeMask = s.noticeMask := rfl
@[simp] theorem State.pushReport_noticeDest (r : PointTel) : (s.pushReport r).noticeDest = s.noticeDest := rfl
@[simp] theorem State.pushReport_noticeLost (r : PointTel) : (s.pushReport r).noticeLost = s.noticeLost := rfl
@[simp] theorem State.pushReport_agenda (r : PointTel) : (s.pushReport r).agenda = s.agenda := rfl
@[simp] theorem State.pushReport_draws (r : PointTel) : (s.pushReport r).draws = s.draws := rfl

/-! ### `State.addEntry` -/

@[simp] theorem State.addEntry_pending (e : Entry) : (s.addEntry e).pending = s.pending := rfl
@[simp] theorem State.addEntry_supplyBad (e : Entry) : (s.addEntry e).supplyBad = s.supplyBad := rfl
@[simp] theorem State.addEntry_resetLine (e : Entry) : (s.addEntry e).resetLine = s.resetLine := rfl
@[simp] theorem State.addEntry_straps (e : Entry) : (s.addEntry e).straps = s.straps := rfl
@[simp] theorem State.addEntry_clock (e : Entry) : (s.addEntry e).clock = s.clock := rfl
@[simp] theorem State.addEntry_subMs (e : Entry) : (s.addEntry e).subMs = s.subMs := rfl
@[simp] theorem State.addEntry_permitIn (e : Entry) : (s.addEntry e).permitIn = s.permitIn := rfl
@[simp] theorem State.addEntry_permitOut (e : Entry) : (s.addEntry e).permitOut = s.permitOut := rfl
@[simp] theorem State.addEntry_campaignHalt (e : Entry) : (s.addEntry e).campaignHalt = s.campaignHalt := rfl
@[simp] theorem State.addEntry_fault (e : Entry) : (s.addEntry e).fault = s.fault := rfl
@[simp] theorem State.addEntry_mode (e : Entry) : (s.addEntry e).mode = s.mode := rfl
@[simp] theorem State.addEntry_active (e : Entry) : (s.addEntry e).active = s.active := rfl
@[simp] theorem State.addEntry_standby (e : Entry) : (s.addEntry e).standby = s.standby := rfl
@[simp] theorem State.addEntry_standbyWritten (e : Entry) : (s.addEntry e).standbyWritten = s.standbyWritten := rfl
@[simp] theorem State.addEntry_bankA (e : Entry) : (s.addEntry e).bankA = s.bankA := rfl
@[simp] theorem State.addEntry_bankB (e : Entry) : (s.addEntry e).bankB = s.bankB := rfl
@[simp] theorem State.addEntry_campaign (e : Entry) : (s.addEntry e).campaign = s.campaign := rfl
@[simp] theorem State.addEntry_image (e : Entry) : (s.addEntry e).image = s.image := rfl
@[simp] theorem State.addEntry_sects (e : Entry) : (s.addEntry e).sects = s.sects := rfl
@[simp] theorem State.addEntry_capture (e : Entry) : (s.addEntry e).capture = s.capture := rfl
@[simp] theorem State.addEntry_moreRefusals (e : Entry) : (s.addEntry e).moreRefusals = s.moreRefusals := rfl
@[simp] theorem State.addEntry_remaining (e : Entry) : (s.addEntry e).remaining = s.remaining := rfl
@[simp] theorem State.addEntry_unusedReserve (e : Entry) : (s.addEntry e).unusedReserve = s.unusedReserve := rfl
@[simp] theorem State.addEntry_periodNumber (e : Entry) : (s.addEntry e).periodNumber = s.periodNumber := rfl
@[simp] theorem State.addEntry_periodTimer (e : Entry) : (s.addEntry e).periodTimer = s.periodTimer := rfl
@[simp] theorem State.addEntry_tallyTimer (e : Entry) : (s.addEntry e).tallyTimer = s.tallyTimer := rfl
@[simp] theorem State.addEntry_load (e : Entry) : (s.addEntry e).load = s.load := rfl
@[simp] theorem State.addEntry_pledgeSum (e : Entry) : (s.addEntry e).pledgeSum = s.pledgeSum := rfl
@[simp] theorem State.addEntry_held (e : Entry) : (s.addEntry e).held = s.held := rfl
@[simp] theorem State.addEntry_entries (e : Entry) :
    (s.addEntry e).entries = s.entries ++ [{ e with seq := s.nextSeq }] := rfl
@[simp] theorem State.addEntry_nextSeq (e : Entry) : (s.addEntry e).nextSeq = s.nextSeq + 1 := rfl
@[simp] theorem State.addEntry_tagCounter (e : Entry) : (s.addEntry e).tagCounter = s.tagCounter := rfl
@[simp] theorem State.addEntry_ports (e : Entry) : (s.addEntry e).ports = s.ports := rfl
@[simp] theorem State.addEntry_upQueue (e : Entry) : (s.addEntry e).upQueue = s.upQueue := rfl
@[simp] theorem State.addEntry_requests (e : Entry) : (s.addEntry e).requests = s.requests := rfl
@[simp] theorem State.addEntry_swapCheck (e : Entry) : (s.addEntry e).swapCheck = s.swapCheck := rfl
@[simp] theorem State.addEntry_noticeMask (e : Entry) : (s.addEntry e).noticeMask = s.noticeMask := rfl
@[simp] theorem State.addEntry_noticeDest (e : Entry) : (s.addEntry e).noticeDest = s.noticeDest := rfl
@[simp] theorem State.addEntry_noticeLost (e : Entry) : (s.addEntry e).noticeLost = s.noticeLost := rfl
@[simp] theorem State.addEntry_agenda (e : Entry) : (s.addEntry e).agenda = s.agenda := rfl
@[simp] theorem State.addEntry_draws (e : Entry) : (s.addEntry e).draws = s.draws := rfl

/-! ### `State.freeEntry` -/

@[simp] theorem State.freeEntry_pending (e : Entry) : (s.freeEntry e).pending = s.pending := rfl
@[simp] theorem State.freeEntry_supplyBad (e : Entry) : (s.freeEntry e).supplyBad = s.supplyBad := rfl
@[simp] theorem State.freeEntry_resetLine (e : Entry) : (s.freeEntry e).resetLine = s.resetLine := rfl
@[simp] theorem State.freeEntry_straps (e : Entry) : (s.freeEntry e).straps = s.straps := rfl
@[simp] theorem State.freeEntry_clock (e : Entry) : (s.freeEntry e).clock = s.clock := rfl
@[simp] theorem State.freeEntry_subMs (e : Entry) : (s.freeEntry e).subMs = s.subMs := rfl
@[simp] theorem State.freeEntry_permitIn (e : Entry) : (s.freeEntry e).permitIn = s.permitIn := rfl
@[simp] theorem State.freeEntry_permitOut (e : Entry) : (s.freeEntry e).permitOut = s.permitOut := rfl
@[simp] theorem State.freeEntry_campaignHalt (e : Entry) : (s.freeEntry e).campaignHalt = s.campaignHalt := rfl
@[simp] theorem State.freeEntry_fault (e : Entry) : (s.freeEntry e).fault = s.fault := rfl
@[simp] theorem State.freeEntry_mode (e : Entry) : (s.freeEntry e).mode = s.mode := rfl
@[simp] theorem State.freeEntry_active (e : Entry) : (s.freeEntry e).active = s.active := rfl
@[simp] theorem State.freeEntry_standby (e : Entry) : (s.freeEntry e).standby = s.standby := rfl
@[simp] theorem State.freeEntry_standbyWritten (e : Entry) : (s.freeEntry e).standbyWritten = s.standbyWritten := rfl
@[simp] theorem State.freeEntry_bankA (e : Entry) : (s.freeEntry e).bankA = s.bankA := rfl
@[simp] theorem State.freeEntry_bankB (e : Entry) : (s.freeEntry e).bankB = s.bankB := rfl
@[simp] theorem State.freeEntry_campaign (e : Entry) : (s.freeEntry e).campaign = s.campaign := rfl
@[simp] theorem State.freeEntry_image (e : Entry) : (s.freeEntry e).image = s.image := rfl
@[simp] theorem State.freeEntry_sects (e : Entry) : (s.freeEntry e).sects = s.sects := rfl
@[simp] theorem State.freeEntry_capture (e : Entry) : (s.freeEntry e).capture = s.capture := rfl
@[simp] theorem State.freeEntry_moreRefusals (e : Entry) : (s.freeEntry e).moreRefusals = s.moreRefusals := rfl
@[simp] theorem State.freeEntry_remaining (e : Entry) : (s.freeEntry e).remaining = s.remaining := rfl
@[simp] theorem State.freeEntry_unusedReserve (e : Entry) : (s.freeEntry e).unusedReserve = s.unusedReserve := rfl
@[simp] theorem State.freeEntry_periodNumber (e : Entry) : (s.freeEntry e).periodNumber = s.periodNumber := rfl
@[simp] theorem State.freeEntry_periodTimer (e : Entry) : (s.freeEntry e).periodTimer = s.periodTimer := rfl
@[simp] theorem State.freeEntry_tallyTimer (e : Entry) : (s.freeEntry e).tallyTimer = s.tallyTimer := rfl
@[simp] theorem State.freeEntry_load (e : Entry) : (s.freeEntry e).load = s.load := rfl
@[simp] theorem State.freeEntry_pledgeSum (e : Entry) : (s.freeEntry e).pledgeSum = s.pledgeSum - e.pledged := rfl
@[simp] theorem State.freeEntry_held (e : Entry) : (s.freeEntry e).held = s.held := rfl
@[simp] theorem State.freeEntry_entries (e : Entry) :
    (s.freeEntry e).entries = s.entries.filter (fun x => x.seq != e.seq) := rfl
@[simp] theorem State.freeEntry_nextSeq (e : Entry) : (s.freeEntry e).nextSeq = s.nextSeq := rfl
@[simp] theorem State.freeEntry_tagCounter (e : Entry) : (s.freeEntry e).tagCounter = s.tagCounter := rfl
@[simp] theorem State.freeEntry_ports (e : Entry) : (s.freeEntry e).ports = s.ports := rfl
@[simp] theorem State.freeEntry_upQueue (e : Entry) : (s.freeEntry e).upQueue = s.upQueue := rfl
@[simp] theorem State.freeEntry_requests (e : Entry) : (s.freeEntry e).requests = s.requests := rfl
@[simp] theorem State.freeEntry_swapCheck (e : Entry) : (s.freeEntry e).swapCheck = s.swapCheck := rfl
@[simp] theorem State.freeEntry_noticeMask (e : Entry) : (s.freeEntry e).noticeMask = s.noticeMask := rfl
@[simp] theorem State.freeEntry_noticeDest (e : Entry) : (s.freeEntry e).noticeDest = s.noticeDest := rfl
@[simp] theorem State.freeEntry_noticeLost (e : Entry) : (s.freeEntry e).noticeLost = s.noticeLost := rfl
@[simp] theorem State.freeEntry_agenda (e : Entry) : (s.freeEntry e).agenda = s.agenda := rfl
@[simp] theorem State.freeEntry_draws (e : Entry) : (s.freeEntry e).draws = s.draws := rfl

/-! ### `State.setHeld` -/

@[simp] theorem State.setHeld_pending (l : List HeldRec) : (s.setHeld l).pending = s.pending := rfl
@[simp] theorem State.setHeld_supplyBad (l : List HeldRec) : (s.setHeld l).supplyBad = s.supplyBad := rfl
@[simp] theorem State.setHeld_resetLine (l : List HeldRec) : (s.setHeld l).resetLine = s.resetLine := rfl
@[simp] theorem State.setHeld_straps (l : List HeldRec) : (s.setHeld l).straps = s.straps := rfl
@[simp] theorem State.setHeld_clock (l : List HeldRec) : (s.setHeld l).clock = s.clock := rfl
@[simp] theorem State.setHeld_subMs (l : List HeldRec) : (s.setHeld l).subMs = s.subMs := rfl
@[simp] theorem State.setHeld_permitIn (l : List HeldRec) : (s.setHeld l).permitIn = s.permitIn := rfl
@[simp] theorem State.setHeld_permitOut (l : List HeldRec) : (s.setHeld l).permitOut = s.permitOut := rfl
@[simp] theorem State.setHeld_campaignHalt (l : List HeldRec) : (s.setHeld l).campaignHalt = s.campaignHalt := rfl
@[simp] theorem State.setHeld_fault (l : List HeldRec) : (s.setHeld l).fault = s.fault := rfl
@[simp] theorem State.setHeld_mode (l : List HeldRec) : (s.setHeld l).mode = s.mode := rfl
@[simp] theorem State.setHeld_active (l : List HeldRec) : (s.setHeld l).active = s.active := rfl
@[simp] theorem State.setHeld_standby (l : List HeldRec) : (s.setHeld l).standby = s.standby := rfl
@[simp] theorem State.setHeld_standbyWritten (l : List HeldRec) : (s.setHeld l).standbyWritten = s.standbyWritten := rfl
@[simp] theorem State.setHeld_bankA (l : List HeldRec) : (s.setHeld l).bankA = s.bankA := rfl
@[simp] theorem State.setHeld_bankB (l : List HeldRec) : (s.setHeld l).bankB = s.bankB := rfl
@[simp] theorem State.setHeld_campaign (l : List HeldRec) : (s.setHeld l).campaign = s.campaign := rfl
@[simp] theorem State.setHeld_image (l : List HeldRec) : (s.setHeld l).image = s.image := rfl
@[simp] theorem State.setHeld_sects (l : List HeldRec) : (s.setHeld l).sects = s.sects := rfl
@[simp] theorem State.setHeld_capture (l : List HeldRec) : (s.setHeld l).capture = s.capture := rfl
@[simp] theorem State.setHeld_moreRefusals (l : List HeldRec) : (s.setHeld l).moreRefusals = s.moreRefusals := rfl
@[simp] theorem State.setHeld_remaining (l : List HeldRec) : (s.setHeld l).remaining = s.remaining := rfl
@[simp] theorem State.setHeld_unusedReserve (l : List HeldRec) : (s.setHeld l).unusedReserve = s.unusedReserve := rfl
@[simp] theorem State.setHeld_periodNumber (l : List HeldRec) : (s.setHeld l).periodNumber = s.periodNumber := rfl
@[simp] theorem State.setHeld_periodTimer (l : List HeldRec) : (s.setHeld l).periodTimer = s.periodTimer := rfl
@[simp] theorem State.setHeld_tallyTimer (l : List HeldRec) : (s.setHeld l).tallyTimer = s.tallyTimer := rfl
@[simp] theorem State.setHeld_load (l : List HeldRec) : (s.setHeld l).load = s.load := rfl
@[simp] theorem State.setHeld_pledgeSum (l : List HeldRec) : (s.setHeld l).pledgeSum = s.pledgeSum := rfl
@[simp] theorem State.setHeld_held (l : List HeldRec) : (s.setHeld l).held = l := rfl
@[simp] theorem State.setHeld_entries (l : List HeldRec) : (s.setHeld l).entries = s.entries := rfl
@[simp] theorem State.setHeld_nextSeq (l : List HeldRec) : (s.setHeld l).nextSeq = s.nextSeq := rfl
@[simp] theorem State.setHeld_tagCounter (l : List HeldRec) : (s.setHeld l).tagCounter = s.tagCounter := rfl
@[simp] theorem State.setHeld_ports (l : List HeldRec) : (s.setHeld l).ports = s.ports := rfl
@[simp] theorem State.setHeld_upQueue (l : List HeldRec) : (s.setHeld l).upQueue = s.upQueue := rfl
@[simp] theorem State.setHeld_requests (l : List HeldRec) : (s.setHeld l).requests = s.requests := rfl
@[simp] theorem State.setHeld_swapCheck (l : List HeldRec) : (s.setHeld l).swapCheck = s.swapCheck := rfl
@[simp] theorem State.setHeld_noticeMask (l : List HeldRec) : (s.setHeld l).noticeMask = s.noticeMask := rfl
@[simp] theorem State.setHeld_noticeDest (l : List HeldRec) : (s.setHeld l).noticeDest = s.noticeDest := rfl
@[simp] theorem State.setHeld_noticeLost (l : List HeldRec) : (s.setHeld l).noticeLost = s.noticeLost := rfl
@[simp] theorem State.setHeld_agenda (l : List HeldRec) : (s.setHeld l).agenda = s.agenda := rfl
@[simp] theorem State.setHeld_draws (l : List HeldRec) : (s.setHeld l).draws = s.draws := rfl

/-! ### `State.setAgenda` -/

@[simp] theorem State.setAgenda_pending (l : List Task) : (s.setAgenda l).pending = s.pending := rfl
@[simp] theorem State.setAgenda_supplyBad (l : List Task) : (s.setAgenda l).supplyBad = s.supplyBad := rfl
@[simp] theorem State.setAgenda_resetLine (l : List Task) : (s.setAgenda l).resetLine = s.resetLine := rfl
@[simp] theorem State.setAgenda_straps (l : List Task) : (s.setAgenda l).straps = s.straps := rfl
@[simp] theorem State.setAgenda_clock (l : List Task) : (s.setAgenda l).clock = s.clock := rfl
@[simp] theorem State.setAgenda_subMs (l : List Task) : (s.setAgenda l).subMs = s.subMs := rfl
@[simp] theorem State.setAgenda_permitIn (l : List Task) : (s.setAgenda l).permitIn = s.permitIn := rfl
@[simp] theorem State.setAgenda_permitOut (l : List Task) : (s.setAgenda l).permitOut = s.permitOut := rfl
@[simp] theorem State.setAgenda_campaignHalt (l : List Task) : (s.setAgenda l).campaignHalt = s.campaignHalt := rfl
@[simp] theorem State.setAgenda_fault (l : List Task) : (s.setAgenda l).fault = s.fault := rfl
@[simp] theorem State.setAgenda_mode (l : List Task) : (s.setAgenda l).mode = s.mode := rfl
@[simp] theorem State.setAgenda_active (l : List Task) : (s.setAgenda l).active = s.active := rfl
@[simp] theorem State.setAgenda_standby (l : List Task) : (s.setAgenda l).standby = s.standby := rfl
@[simp] theorem State.setAgenda_standbyWritten (l : List Task) : (s.setAgenda l).standbyWritten = s.standbyWritten := rfl
@[simp] theorem State.setAgenda_bankA (l : List Task) : (s.setAgenda l).bankA = s.bankA := rfl
@[simp] theorem State.setAgenda_bankB (l : List Task) : (s.setAgenda l).bankB = s.bankB := rfl
@[simp] theorem State.setAgenda_campaign (l : List Task) : (s.setAgenda l).campaign = s.campaign := rfl
@[simp] theorem State.setAgenda_image (l : List Task) : (s.setAgenda l).image = s.image := rfl
@[simp] theorem State.setAgenda_sects (l : List Task) : (s.setAgenda l).sects = s.sects := rfl
@[simp] theorem State.setAgenda_capture (l : List Task) : (s.setAgenda l).capture = s.capture := rfl
@[simp] theorem State.setAgenda_moreRefusals (l : List Task) : (s.setAgenda l).moreRefusals = s.moreRefusals := rfl
@[simp] theorem State.setAgenda_remaining (l : List Task) : (s.setAgenda l).remaining = s.remaining := rfl
@[simp] theorem State.setAgenda_unusedReserve (l : List Task) : (s.setAgenda l).unusedReserve = s.unusedReserve := rfl
@[simp] theorem State.setAgenda_periodNumber (l : List Task) : (s.setAgenda l).periodNumber = s.periodNumber := rfl
@[simp] theorem State.setAgenda_periodTimer (l : List Task) : (s.setAgenda l).periodTimer = s.periodTimer := rfl
@[simp] theorem State.setAgenda_tallyTimer (l : List Task) : (s.setAgenda l).tallyTimer = s.tallyTimer := rfl
@[simp] theorem State.setAgenda_load (l : List Task) : (s.setAgenda l).load = s.load := rfl
@[simp] theorem State.setAgenda_pledgeSum (l : List Task) : (s.setAgenda l).pledgeSum = s.pledgeSum := rfl
@[simp] theorem State.setAgenda_held (l : List Task) : (s.setAgenda l).held = s.held := rfl
@[simp] theorem State.setAgenda_entries (l : List Task) : (s.setAgenda l).entries = s.entries := rfl
@[simp] theorem State.setAgenda_nextSeq (l : List Task) : (s.setAgenda l).nextSeq = s.nextSeq := rfl
@[simp] theorem State.setAgenda_tagCounter (l : List Task) : (s.setAgenda l).tagCounter = s.tagCounter := rfl
@[simp] theorem State.setAgenda_ports (l : List Task) : (s.setAgenda l).ports = s.ports := rfl
@[simp] theorem State.setAgenda_upQueue (l : List Task) : (s.setAgenda l).upQueue = s.upQueue := rfl
@[simp] theorem State.setAgenda_requests (l : List Task) : (s.setAgenda l).requests = s.requests := rfl
@[simp] theorem State.setAgenda_swapCheck (l : List Task) : (s.setAgenda l).swapCheck = s.swapCheck := rfl
@[simp] theorem State.setAgenda_noticeMask (l : List Task) : (s.setAgenda l).noticeMask = s.noticeMask := rfl
@[simp] theorem State.setAgenda_noticeDest (l : List Task) : (s.setAgenda l).noticeDest = s.noticeDest := rfl
@[simp] theorem State.setAgenda_noticeLost (l : List Task) : (s.setAgenda l).noticeLost = s.noticeLost := rfl
@[simp] theorem State.setAgenda_agenda (l : List Task) : (s.setAgenda l).agenda = l := rfl
@[simp] theorem State.setAgenda_draws (l : List Task) : (s.setAgenda l).draws = s.draws := rfl

/-! ### `State.setRequests` -/

@[simp] theorem State.setRequests_pending (l : List MgmtTel) : (s.setRequests l).pending = s.pending := rfl
@[simp] theorem State.setRequests_supplyBad (l : List MgmtTel) : (s.setRequests l).supplyBad = s.supplyBad := rfl
@[simp] theorem State.setRequests_resetLine (l : List MgmtTel) : (s.setRequests l).resetLine = s.resetLine := rfl
@[simp] theorem State.setRequests_straps (l : List MgmtTel) : (s.setRequests l).straps = s.straps := rfl
@[simp] theorem State.setRequests_clock (l : List MgmtTel) : (s.setRequests l).clock = s.clock := rfl
@[simp] theorem State.setRequests_subMs (l : List MgmtTel) : (s.setRequests l).subMs = s.subMs := rfl
@[simp] theorem State.setRequests_permitIn (l : List MgmtTel) : (s.setRequests l).permitIn = s.permitIn := rfl
@[simp] theorem State.setRequests_permitOut (l : List MgmtTel) : (s.setRequests l).permitOut = s.permitOut := rfl
@[simp] theorem State.setRequests_campaignHalt (l : List MgmtTel) : (s.setRequests l).campaignHalt = s.campaignHalt := rfl
@[simp] theorem State.setRequests_fault (l : List MgmtTel) : (s.setRequests l).fault = s.fault := rfl
@[simp] theorem State.setRequests_mode (l : List MgmtTel) : (s.setRequests l).mode = s.mode := rfl
@[simp] theorem State.setRequests_active (l : List MgmtTel) : (s.setRequests l).active = s.active := rfl
@[simp] theorem State.setRequests_standby (l : List MgmtTel) : (s.setRequests l).standby = s.standby := rfl
@[simp] theorem State.setRequests_standbyWritten (l : List MgmtTel) : (s.setRequests l).standbyWritten = s.standbyWritten := rfl
@[simp] theorem State.setRequests_bankA (l : List MgmtTel) : (s.setRequests l).bankA = s.bankA := rfl
@[simp] theorem State.setRequests_bankB (l : List MgmtTel) : (s.setRequests l).bankB = s.bankB := rfl
@[simp] theorem State.setRequests_campaign (l : List MgmtTel) : (s.setRequests l).campaign = s.campaign := rfl
@[simp] theorem State.setRequests_image (l : List MgmtTel) : (s.setRequests l).image = s.image := rfl
@[simp] theorem State.setRequests_sects (l : List MgmtTel) : (s.setRequests l).sects = s.sects := rfl
@[simp] theorem State.setRequests_capture (l : List MgmtTel) : (s.setRequests l).capture = s.capture := rfl
@[simp] theorem State.setRequests_moreRefusals (l : List MgmtTel) : (s.setRequests l).moreRefusals = s.moreRefusals := rfl
@[simp] theorem State.setRequests_remaining (l : List MgmtTel) : (s.setRequests l).remaining = s.remaining := rfl
@[simp] theorem State.setRequests_unusedReserve (l : List MgmtTel) : (s.setRequests l).unusedReserve = s.unusedReserve := rfl
@[simp] theorem State.setRequests_periodNumber (l : List MgmtTel) : (s.setRequests l).periodNumber = s.periodNumber := rfl
@[simp] theorem State.setRequests_periodTimer (l : List MgmtTel) : (s.setRequests l).periodTimer = s.periodTimer := rfl
@[simp] theorem State.setRequests_tallyTimer (l : List MgmtTel) : (s.setRequests l).tallyTimer = s.tallyTimer := rfl
@[simp] theorem State.setRequests_load (l : List MgmtTel) : (s.setRequests l).load = s.load := rfl
@[simp] theorem State.setRequests_pledgeSum (l : List MgmtTel) : (s.setRequests l).pledgeSum = s.pledgeSum := rfl
@[simp] theorem State.setRequests_held (l : List MgmtTel) : (s.setRequests l).held = s.held := rfl
@[simp] theorem State.setRequests_entries (l : List MgmtTel) : (s.setRequests l).entries = s.entries := rfl
@[simp] theorem State.setRequests_nextSeq (l : List MgmtTel) : (s.setRequests l).nextSeq = s.nextSeq := rfl
@[simp] theorem State.setRequests_tagCounter (l : List MgmtTel) : (s.setRequests l).tagCounter = s.tagCounter := rfl
@[simp] theorem State.setRequests_ports (l : List MgmtTel) : (s.setRequests l).ports = s.ports := rfl
@[simp] theorem State.setRequests_upQueue (l : List MgmtTel) : (s.setRequests l).upQueue = s.upQueue := rfl
@[simp] theorem State.setRequests_requests (l : List MgmtTel) : (s.setRequests l).requests = l := rfl
@[simp] theorem State.setRequests_swapCheck (l : List MgmtTel) : (s.setRequests l).swapCheck = s.swapCheck := rfl
@[simp] theorem State.setRequests_noticeMask (l : List MgmtTel) : (s.setRequests l).noticeMask = s.noticeMask := rfl
@[simp] theorem State.setRequests_noticeDest (l : List MgmtTel) : (s.setRequests l).noticeDest = s.noticeDest := rfl
@[simp] theorem State.setRequests_noticeLost (l : List MgmtTel) : (s.setRequests l).noticeLost = s.noticeLost := rfl
@[simp] theorem State.setRequests_agenda (l : List MgmtTel) : (s.setRequests l).agenda = s.agenda := rfl
@[simp] theorem State.setRequests_draws (l : List MgmtTel) : (s.setRequests l).draws = s.draws := rfl

/-! ### `State.setNoticeLost` -/

@[simp] theorem State.setNoticeLost_pending (b : Bool) : (s.setNoticeLost b).pending = s.pending := rfl
@[simp] theorem State.setNoticeLost_supplyBad (b : Bool) : (s.setNoticeLost b).supplyBad = s.supplyBad := rfl
@[simp] theorem State.setNoticeLost_resetLine (b : Bool) : (s.setNoticeLost b).resetLine = s.resetLine := rfl
@[simp] theorem State.setNoticeLost_straps (b : Bool) : (s.setNoticeLost b).straps = s.straps := rfl
@[simp] theorem State.setNoticeLost_clock (b : Bool) : (s.setNoticeLost b).clock = s.clock := rfl
@[simp] theorem State.setNoticeLost_subMs (b : Bool) : (s.setNoticeLost b).subMs = s.subMs := rfl
@[simp] theorem State.setNoticeLost_permitIn (b : Bool) : (s.setNoticeLost b).permitIn = s.permitIn := rfl
@[simp] theorem State.setNoticeLost_permitOut (b : Bool) : (s.setNoticeLost b).permitOut = s.permitOut := rfl
@[simp] theorem State.setNoticeLost_campaignHalt (b : Bool) : (s.setNoticeLost b).campaignHalt = s.campaignHalt := rfl
@[simp] theorem State.setNoticeLost_fault (b : Bool) : (s.setNoticeLost b).fault = s.fault := rfl
@[simp] theorem State.setNoticeLost_mode (b : Bool) : (s.setNoticeLost b).mode = s.mode := rfl
@[simp] theorem State.setNoticeLost_active (b : Bool) : (s.setNoticeLost b).active = s.active := rfl
@[simp] theorem State.setNoticeLost_standby (b : Bool) : (s.setNoticeLost b).standby = s.standby := rfl
@[simp] theorem State.setNoticeLost_standbyWritten (b : Bool) : (s.setNoticeLost b).standbyWritten = s.standbyWritten := rfl
@[simp] theorem State.setNoticeLost_bankA (b : Bool) : (s.setNoticeLost b).bankA = s.bankA := rfl
@[simp] theorem State.setNoticeLost_bankB (b : Bool) : (s.setNoticeLost b).bankB = s.bankB := rfl
@[simp] theorem State.setNoticeLost_campaign (b : Bool) : (s.setNoticeLost b).campaign = s.campaign := rfl
@[simp] theorem State.setNoticeLost_image (b : Bool) : (s.setNoticeLost b).image = s.image := rfl
@[simp] theorem State.setNoticeLost_sects (b : Bool) : (s.setNoticeLost b).sects = s.sects := rfl
@[simp] theorem State.setNoticeLost_capture (b : Bool) : (s.setNoticeLost b).capture = s.capture := rfl
@[simp] theorem State.setNoticeLost_moreRefusals (b : Bool) : (s.setNoticeLost b).moreRefusals = s.moreRefusals := rfl
@[simp] theorem State.setNoticeLost_remaining (b : Bool) : (s.setNoticeLost b).remaining = s.remaining := rfl
@[simp] theorem State.setNoticeLost_unusedReserve (b : Bool) : (s.setNoticeLost b).unusedReserve = s.unusedReserve := rfl
@[simp] theorem State.setNoticeLost_periodNumber (b : Bool) : (s.setNoticeLost b).periodNumber = s.periodNumber := rfl
@[simp] theorem State.setNoticeLost_periodTimer (b : Bool) : (s.setNoticeLost b).periodTimer = s.periodTimer := rfl
@[simp] theorem State.setNoticeLost_tallyTimer (b : Bool) : (s.setNoticeLost b).tallyTimer = s.tallyTimer := rfl
@[simp] theorem State.setNoticeLost_load (b : Bool) : (s.setNoticeLost b).load = s.load := rfl
@[simp] theorem State.setNoticeLost_pledgeSum (b : Bool) : (s.setNoticeLost b).pledgeSum = s.pledgeSum := rfl
@[simp] theorem State.setNoticeLost_held (b : Bool) : (s.setNoticeLost b).held = s.held := rfl
@[simp] theorem State.setNoticeLost_entries (b : Bool) : (s.setNoticeLost b).entries = s.entries := rfl
@[simp] theorem State.setNoticeLost_nextSeq (b : Bool) : (s.setNoticeLost b).nextSeq = s.nextSeq := rfl
@[simp] theorem State.setNoticeLost_tagCounter (b : Bool) : (s.setNoticeLost b).tagCounter = s.tagCounter := rfl
@[simp] theorem State.setNoticeLost_ports (b : Bool) : (s.setNoticeLost b).ports = s.ports := rfl
@[simp] theorem State.setNoticeLost_upQueue (b : Bool) : (s.setNoticeLost b).upQueue = s.upQueue := rfl
@[simp] theorem State.setNoticeLost_requests (b : Bool) : (s.setNoticeLost b).requests = s.requests := rfl
@[simp] theorem State.setNoticeLost_swapCheck (b : Bool) : (s.setNoticeLost b).swapCheck = s.swapCheck := rfl
@[simp] theorem State.setNoticeLost_noticeMask (b : Bool) : (s.setNoticeLost b).noticeMask = s.noticeMask := rfl
@[simp] theorem State.setNoticeLost_noticeDest (b : Bool) : (s.setNoticeLost b).noticeDest = s.noticeDest := rfl
@[simp] theorem State.setNoticeLost_noticeLost (b : Bool) : (s.setNoticeLost b).noticeLost = b := rfl
@[simp] theorem State.setNoticeLost_agenda (b : Bool) : (s.setNoticeLost b).agenda = s.agenda := rfl
@[simp] theorem State.setNoticeLost_draws (b : Bool) : (s.setNoticeLost b).draws = s.draws := rfl

/-! ### `State.setPledgeSum` -/

@[simp] theorem State.setPledgeSum_pending (n : Nat) : (s.setPledgeSum n).pending = s.pending := rfl
@[simp] theorem State.setPledgeSum_supplyBad (n : Nat) : (s.setPledgeSum n).supplyBad = s.supplyBad := rfl
@[simp] theorem State.setPledgeSum_resetLine (n : Nat) : (s.setPledgeSum n).resetLine = s.resetLine := rfl
@[simp] theorem State.setPledgeSum_straps (n : Nat) : (s.setPledgeSum n).straps = s.straps := rfl
@[simp] theorem State.setPledgeSum_clock (n : Nat) : (s.setPledgeSum n).clock = s.clock := rfl
@[simp] theorem State.setPledgeSum_subMs (n : Nat) : (s.setPledgeSum n).subMs = s.subMs := rfl
@[simp] theorem State.setPledgeSum_permitIn (n : Nat) : (s.setPledgeSum n).permitIn = s.permitIn := rfl
@[simp] theorem State.setPledgeSum_permitOut (n : Nat) : (s.setPledgeSum n).permitOut = s.permitOut := rfl
@[simp] theorem State.setPledgeSum_campaignHalt (n : Nat) : (s.setPledgeSum n).campaignHalt = s.campaignHalt := rfl
@[simp] theorem State.setPledgeSum_fault (n : Nat) : (s.setPledgeSum n).fault = s.fault := rfl
@[simp] theorem State.setPledgeSum_mode (n : Nat) : (s.setPledgeSum n).mode = s.mode := rfl
@[simp] theorem State.setPledgeSum_active (n : Nat) : (s.setPledgeSum n).active = s.active := rfl
@[simp] theorem State.setPledgeSum_standby (n : Nat) : (s.setPledgeSum n).standby = s.standby := rfl
@[simp] theorem State.setPledgeSum_standbyWritten (n : Nat) : (s.setPledgeSum n).standbyWritten = s.standbyWritten := rfl
@[simp] theorem State.setPledgeSum_bankA (n : Nat) : (s.setPledgeSum n).bankA = s.bankA := rfl
@[simp] theorem State.setPledgeSum_bankB (n : Nat) : (s.setPledgeSum n).bankB = s.bankB := rfl
@[simp] theorem State.setPledgeSum_campaign (n : Nat) : (s.setPledgeSum n).campaign = s.campaign := rfl
@[simp] theorem State.setPledgeSum_image (n : Nat) : (s.setPledgeSum n).image = s.image := rfl
@[simp] theorem State.setPledgeSum_sects (n : Nat) : (s.setPledgeSum n).sects = s.sects := rfl
@[simp] theorem State.setPledgeSum_capture (n : Nat) : (s.setPledgeSum n).capture = s.capture := rfl
@[simp] theorem State.setPledgeSum_moreRefusals (n : Nat) : (s.setPledgeSum n).moreRefusals = s.moreRefusals := rfl
@[simp] theorem State.setPledgeSum_remaining (n : Nat) : (s.setPledgeSum n).remaining = s.remaining := rfl
@[simp] theorem State.setPledgeSum_unusedReserve (n : Nat) : (s.setPledgeSum n).unusedReserve = s.unusedReserve := rfl
@[simp] theorem State.setPledgeSum_periodNumber (n : Nat) : (s.setPledgeSum n).periodNumber = s.periodNumber := rfl
@[simp] theorem State.setPledgeSum_periodTimer (n : Nat) : (s.setPledgeSum n).periodTimer = s.periodTimer := rfl
@[simp] theorem State.setPledgeSum_tallyTimer (n : Nat) : (s.setPledgeSum n).tallyTimer = s.tallyTimer := rfl
@[simp] theorem State.setPledgeSum_load (n : Nat) : (s.setPledgeSum n).load = s.load := rfl
@[simp] theorem State.setPledgeSum_pledgeSum (n : Nat) : (s.setPledgeSum n).pledgeSum = n := rfl
@[simp] theorem State.setPledgeSum_held (n : Nat) : (s.setPledgeSum n).held = s.held := rfl
@[simp] theorem State.setPledgeSum_entries (n : Nat) : (s.setPledgeSum n).entries = s.entries := rfl
@[simp] theorem State.setPledgeSum_nextSeq (n : Nat) : (s.setPledgeSum n).nextSeq = s.nextSeq := rfl
@[simp] theorem State.setPledgeSum_tagCounter (n : Nat) : (s.setPledgeSum n).tagCounter = s.tagCounter := rfl
@[simp] theorem State.setPledgeSum_ports (n : Nat) : (s.setPledgeSum n).ports = s.ports := rfl
@[simp] theorem State.setPledgeSum_upQueue (n : Nat) : (s.setPledgeSum n).upQueue = s.upQueue := rfl
@[simp] theorem State.setPledgeSum_requests (n : Nat) : (s.setPledgeSum n).requests = s.requests := rfl
@[simp] theorem State.setPledgeSum_swapCheck (n : Nat) : (s.setPledgeSum n).swapCheck = s.swapCheck := rfl
@[simp] theorem State.setPledgeSum_noticeMask (n : Nat) : (s.setPledgeSum n).noticeMask = s.noticeMask := rfl
@[simp] theorem State.setPledgeSum_noticeDest (n : Nat) : (s.setPledgeSum n).noticeDest = s.noticeDest := rfl
@[simp] theorem State.setPledgeSum_noticeLost (n : Nat) : (s.setPledgeSum n).noticeLost = s.noticeLost := rfl
@[simp] theorem State.setPledgeSum_agenda (n : Nat) : (s.setPledgeSum n).agenda = s.agenda := rfl
@[simp] theorem State.setPledgeSum_draws (n : Nat) : (s.setPledgeSum n).draws = s.draws := rfl

/-! ### `State.setStandbyWritten` -/

@[simp] theorem State.setStandbyWritten_pending (b : Bool) : (s.setStandbyWritten b).pending = s.pending := rfl
@[simp] theorem State.setStandbyWritten_supplyBad (b : Bool) : (s.setStandbyWritten b).supplyBad = s.supplyBad := rfl
@[simp] theorem State.setStandbyWritten_resetLine (b : Bool) : (s.setStandbyWritten b).resetLine = s.resetLine := rfl
@[simp] theorem State.setStandbyWritten_straps (b : Bool) : (s.setStandbyWritten b).straps = s.straps := rfl
@[simp] theorem State.setStandbyWritten_clock (b : Bool) : (s.setStandbyWritten b).clock = s.clock := rfl
@[simp] theorem State.setStandbyWritten_subMs (b : Bool) : (s.setStandbyWritten b).subMs = s.subMs := rfl
@[simp] theorem State.setStandbyWritten_permitIn (b : Bool) : (s.setStandbyWritten b).permitIn = s.permitIn := rfl
@[simp] theorem State.setStandbyWritten_permitOut (b : Bool) : (s.setStandbyWritten b).permitOut = s.permitOut := rfl
@[simp] theorem State.setStandbyWritten_campaignHalt (b : Bool) : (s.setStandbyWritten b).campaignHalt = s.campaignHalt := rfl
@[simp] theorem State.setStandbyWritten_fault (b : Bool) : (s.setStandbyWritten b).fault = s.fault := rfl
@[simp] theorem State.setStandbyWritten_mode (b : Bool) : (s.setStandbyWritten b).mode = s.mode := rfl
@[simp] theorem State.setStandbyWritten_active (b : Bool) : (s.setStandbyWritten b).active = s.active := rfl
@[simp] theorem State.setStandbyWritten_standby (b : Bool) : (s.setStandbyWritten b).standby = s.standby := rfl
@[simp] theorem State.setStandbyWritten_standbyWritten (b : Bool) : (s.setStandbyWritten b).standbyWritten = b := rfl
@[simp] theorem State.setStandbyWritten_bankA (b : Bool) : (s.setStandbyWritten b).bankA = s.bankA := rfl
@[simp] theorem State.setStandbyWritten_bankB (b : Bool) : (s.setStandbyWritten b).bankB = s.bankB := rfl
@[simp] theorem State.setStandbyWritten_campaign (b : Bool) : (s.setStandbyWritten b).campaign = s.campaign := rfl
@[simp] theorem State.setStandbyWritten_image (b : Bool) : (s.setStandbyWritten b).image = s.image := rfl
@[simp] theorem State.setStandbyWritten_sects (b : Bool) : (s.setStandbyWritten b).sects = s.sects := rfl
@[simp] theorem State.setStandbyWritten_capture (b : Bool) : (s.setStandbyWritten b).capture = s.capture := rfl
@[simp] theorem State.setStandbyWritten_moreRefusals (b : Bool) : (s.setStandbyWritten b).moreRefusals = s.moreRefusals := rfl
@[simp] theorem State.setStandbyWritten_remaining (b : Bool) : (s.setStandbyWritten b).remaining = s.remaining := rfl
@[simp] theorem State.setStandbyWritten_unusedReserve (b : Bool) : (s.setStandbyWritten b).unusedReserve = s.unusedReserve := rfl
@[simp] theorem State.setStandbyWritten_periodNumber (b : Bool) : (s.setStandbyWritten b).periodNumber = s.periodNumber := rfl
@[simp] theorem State.setStandbyWritten_periodTimer (b : Bool) : (s.setStandbyWritten b).periodTimer = s.periodTimer := rfl
@[simp] theorem State.setStandbyWritten_tallyTimer (b : Bool) : (s.setStandbyWritten b).tallyTimer = s.tallyTimer := rfl
@[simp] theorem State.setStandbyWritten_load (b : Bool) : (s.setStandbyWritten b).load = s.load := rfl
@[simp] theorem State.setStandbyWritten_pledgeSum (b : Bool) : (s.setStandbyWritten b).pledgeSum = s.pledgeSum := rfl
@[simp] theorem State.setStandbyWritten_held (b : Bool) : (s.setStandbyWritten b).held = s.held := rfl
@[simp] theorem State.setStandbyWritten_entries (b : Bool) : (s.setStandbyWritten b).entries = s.entries := rfl
@[simp] theorem State.setStandbyWritten_nextSeq (b : Bool) : (s.setStandbyWritten b).nextSeq = s.nextSeq := rfl
@[simp] theorem State.setStandbyWritten_tagCounter (b : Bool) : (s.setStandbyWritten b).tagCounter = s.tagCounter := rfl
@[simp] theorem State.setStandbyWritten_ports (b : Bool) : (s.setStandbyWritten b).ports = s.ports := rfl
@[simp] theorem State.setStandbyWritten_upQueue (b : Bool) : (s.setStandbyWritten b).upQueue = s.upQueue := rfl
@[simp] theorem State.setStandbyWritten_requests (b : Bool) : (s.setStandbyWritten b).requests = s.requests := rfl
@[simp] theorem State.setStandbyWritten_swapCheck (b : Bool) : (s.setStandbyWritten b).swapCheck = s.swapCheck := rfl
@[simp] theorem State.setStandbyWritten_noticeMask (b : Bool) : (s.setStandbyWritten b).noticeMask = s.noticeMask := rfl
@[simp] theorem State.setStandbyWritten_noticeDest (b : Bool) : (s.setStandbyWritten b).noticeDest = s.noticeDest := rfl
@[simp] theorem State.setStandbyWritten_noticeLost (b : Bool) : (s.setStandbyWritten b).noticeLost = s.noticeLost := rfl
@[simp] theorem State.setStandbyWritten_agenda (b : Bool) : (s.setStandbyWritten b).agenda = s.agenda := rfl
@[simp] theorem State.setStandbyWritten_draws (b : Bool) : (s.setStandbyWritten b).draws = s.draws := rfl

/-! ### `State.setSwapCheck` -/

@[simp] theorem State.setSwapCheck_pending (c : Option SwapCheck) : (s.setSwapCheck c).pending = s.pending := rfl
@[simp] theorem State.setSwapCheck_supplyBad (c : Option SwapCheck) : (s.setSwapCheck c).supplyBad = s.supplyBad := rfl
@[simp] theorem State.setSwapCheck_resetLine (c : Option SwapCheck) : (s.setSwapCheck c).resetLine = s.resetLine := rfl
@[simp] theorem State.setSwapCheck_straps (c : Option SwapCheck) : (s.setSwapCheck c).straps = s.straps := rfl
@[simp] theorem State.setSwapCheck_clock (c : Option SwapCheck) : (s.setSwapCheck c).clock = s.clock := rfl
@[simp] theorem State.setSwapCheck_subMs (c : Option SwapCheck) : (s.setSwapCheck c).subMs = s.subMs := rfl
@[simp] theorem State.setSwapCheck_permitIn (c : Option SwapCheck) : (s.setSwapCheck c).permitIn = s.permitIn := rfl
@[simp] theorem State.setSwapCheck_permitOut (c : Option SwapCheck) : (s.setSwapCheck c).permitOut = s.permitOut := rfl
@[simp] theorem State.setSwapCheck_campaignHalt (c : Option SwapCheck) : (s.setSwapCheck c).campaignHalt = s.campaignHalt := rfl
@[simp] theorem State.setSwapCheck_fault (c : Option SwapCheck) : (s.setSwapCheck c).fault = s.fault := rfl
@[simp] theorem State.setSwapCheck_mode (c : Option SwapCheck) : (s.setSwapCheck c).mode = s.mode := rfl
@[simp] theorem State.setSwapCheck_active (c : Option SwapCheck) : (s.setSwapCheck c).active = s.active := rfl
@[simp] theorem State.setSwapCheck_standby (c : Option SwapCheck) : (s.setSwapCheck c).standby = s.standby := rfl
@[simp] theorem State.setSwapCheck_standbyWritten (c : Option SwapCheck) : (s.setSwapCheck c).standbyWritten = s.standbyWritten := rfl
@[simp] theorem State.setSwapCheck_bankA (c : Option SwapCheck) : (s.setSwapCheck c).bankA = s.bankA := rfl
@[simp] theorem State.setSwapCheck_bankB (c : Option SwapCheck) : (s.setSwapCheck c).bankB = s.bankB := rfl
@[simp] theorem State.setSwapCheck_campaign (c : Option SwapCheck) : (s.setSwapCheck c).campaign = s.campaign := rfl
@[simp] theorem State.setSwapCheck_image (c : Option SwapCheck) : (s.setSwapCheck c).image = s.image := rfl
@[simp] theorem State.setSwapCheck_sects (c : Option SwapCheck) : (s.setSwapCheck c).sects = s.sects := rfl
@[simp] theorem State.setSwapCheck_capture (c : Option SwapCheck) : (s.setSwapCheck c).capture = s.capture := rfl
@[simp] theorem State.setSwapCheck_moreRefusals (c : Option SwapCheck) : (s.setSwapCheck c).moreRefusals = s.moreRefusals := rfl
@[simp] theorem State.setSwapCheck_remaining (c : Option SwapCheck) : (s.setSwapCheck c).remaining = s.remaining := rfl
@[simp] theorem State.setSwapCheck_unusedReserve (c : Option SwapCheck) : (s.setSwapCheck c).unusedReserve = s.unusedReserve := rfl
@[simp] theorem State.setSwapCheck_periodNumber (c : Option SwapCheck) : (s.setSwapCheck c).periodNumber = s.periodNumber := rfl
@[simp] theorem State.setSwapCheck_periodTimer (c : Option SwapCheck) : (s.setSwapCheck c).periodTimer = s.periodTimer := rfl
@[simp] theorem State.setSwapCheck_tallyTimer (c : Option SwapCheck) : (s.setSwapCheck c).tallyTimer = s.tallyTimer := rfl
@[simp] theorem State.setSwapCheck_load (c : Option SwapCheck) : (s.setSwapCheck c).load = s.load := rfl
@[simp] theorem State.setSwapCheck_pledgeSum (c : Option SwapCheck) : (s.setSwapCheck c).pledgeSum = s.pledgeSum := rfl
@[simp] theorem State.setSwapCheck_held (c : Option SwapCheck) : (s.setSwapCheck c).held = s.held := rfl
@[simp] theorem State.setSwapCheck_entries (c : Option SwapCheck) : (s.setSwapCheck c).entries = s.entries := rfl
@[simp] theorem State.setSwapCheck_nextSeq (c : Option SwapCheck) : (s.setSwapCheck c).nextSeq = s.nextSeq := rfl
@[simp] theorem State.setSwapCheck_tagCounter (c : Option SwapCheck) : (s.setSwapCheck c).tagCounter = s.tagCounter := rfl
@[simp] theorem State.setSwapCheck_ports (c : Option SwapCheck) : (s.setSwapCheck c).ports = s.ports := rfl
@[simp] theorem State.setSwapCheck_upQueue (c : Option SwapCheck) : (s.setSwapCheck c).upQueue = s.upQueue := rfl
@[simp] theorem State.setSwapCheck_requests (c : Option SwapCheck) : (s.setSwapCheck c).requests = s.requests := rfl
@[simp] theorem State.setSwapCheck_swapCheck (c : Option SwapCheck) : (s.setSwapCheck c).swapCheck = c := rfl
@[simp] theorem State.setSwapCheck_noticeMask (c : Option SwapCheck) : (s.setSwapCheck c).noticeMask = s.noticeMask := rfl
@[simp] theorem State.setSwapCheck_noticeDest (c : Option SwapCheck) : (s.setSwapCheck c).noticeDest = s.noticeDest := rfl
@[simp] theorem State.setSwapCheck_noticeLost (c : Option SwapCheck) : (s.setSwapCheck c).noticeLost = s.noticeLost := rfl
@[simp] theorem State.setSwapCheck_agenda (c : Option SwapCheck) : (s.setSwapCheck c).agenda = s.agenda := rfl
@[simp] theorem State.setSwapCheck_draws (c : Option SwapCheck) : (s.setSwapCheck c).draws = s.draws := rfl

end Sys2Proof.Machine
end

