-- ==== Sys2Proof/Laws/Store.lean ====
section
/-! SUPPORT. The laws of a `Store`: a read after a write, every other index left alone, and the canonical form kept. -/

set_option Elab.async false

namespace Sys2Proof.Machine

section Find
variable {α : Type}

theorem Store.find_put_same (m : Store α) (k : Nat) (v : α) : Store.find (Store.put m k v) k = some v := by
  induction m with
  | nil => simp [Store.put, Store.find]
  | cons e rest ih =>
    obtain ⟨j, w⟩ := e
    unfold Store.put
    split
    · simp [Store.find]
    · split
      · simp [Store.find]
      · rename_i h
        simp [Store.find, Ne.symm h, ih]

theorem Store.find_put_other (m : Store α) {k i : Nat} (v : α) (h : i ≠ k) :
    Store.find (Store.put m k v) i = Store.find m i := by
  induction m with
  | nil => simp [Store.put, Store.find, Ne.symm h]
  | cons e rest ih =>
    obtain ⟨j, w⟩ := e
    unfold Store.put
    split
    · simp [Store.find, Ne.symm h]
    · split
      · rename_i hk
        subst hk
        simp [Store.find, Ne.symm h]
      · simp [Store.find, ih]

theorem Store.find_unlist_same (m : Store α) (k : Nat) : Store.find (Store.unlist m k) k = none := by
  induction m with
  | nil => simp [Store.unlist, Store.find]
  | cons e rest ih =>
    obtain ⟨j, w⟩ := e
    by_cases hj : j = k
    · simpa [Store.unlist, hj] using ih
    · simpa [Store.unlist, Store.find, hj] using ih

theorem Store.find_unlist_other (m : Store α) {k i : Nat} (h : i ≠ k) :
    Store.find (Store.unlist m k) i = Store.find m i := by
  induction m with
  | nil => simp [Store.unlist, Store.find]
  | cons e rest ih =>
    obtain ⟨j, w⟩ := e
    by_cases hj : j = k
    · subst hj
      simpa [Store.unlist, Store.find, Ne.symm h] using ih
    · by_cases hi : j = i
      · subst hi; simp [Store.unlist, Store.find, h]
      · simpa [Store.unlist, Store.find, hj, hi] using ih

theorem Store.put_mem_index (m : Store α) (k : Nat) (v : α) (e : Nat × α) (h : e ∈ Store.put m k v) :
    e = (k, v) ∨ e ∈ m := by
  induction m with
  | nil => simpa [Store.put] using h
  | cons f rest ih =>
    obtain ⟨j, w⟩ := f
    unfold Store.put at h
    split at h
    · simpa using h
    · split at h
      · rcases List.mem_cons.mp h with h | h
        · exact .inl h
        · exact .inr (List.mem_cons_of_mem _ h)
      · rcases List.mem_cons.mp h with h | h
        · exact .inr (by simp [h])
        · rcases ih h with h | h
          · exact .inl h
          · exact .inr (List.mem_cons_of_mem _ h)

theorem Store.put_pairwise (m : Store α) (k : Nat) (v : α) (h : m.Pairwise (fun x y => x.1 < y.1)) :
    (Store.put m k v).Pairwise (fun x y => x.1 < y.1) := by
  induction m with
  | nil => simp [Store.put]
  | cons f rest ih =>
    obtain ⟨j, w⟩ := f
    obtain ⟨hj, hr⟩ := List.pairwise_cons.mp h
    unfold Store.put
    split
    · rename_i hk
      refine List.pairwise_cons.mpr ⟨?_, h⟩
      intro e he
      rcases List.mem_cons.mp he with rfl | he
      · exact hk
      · exact lt_trans hk (hj e he)
    · split
      · rename_i hk
        subst hk
        exact List.pairwise_cons.mpr ⟨hj, hr⟩
      · refine List.pairwise_cons.mpr ⟨?_, ih hr⟩
        intro e he
        rcases Store.put_mem_index rest k v e he with rfl | he
        · simp; omega
        · exact hj e he

end Find

section Write
variable {α : Type} [DecidableEq α]

/-- A read of the index written gives the value written. -/
@[simp] theorem Store.read_write_same (d : α) (m : Store α) (k : Nat) (v : α) :
    Store.read d (Store.write d m k v) k = v := by
  unfold Store.read Store.write
  split
  · rename_i h
    simp [Store.find_unlist_same, h]
  · simp [Store.find_put_same]

/-- A write leaves every other index alone. -/
@[simp] theorem Store.read_write_other (d : α) (m : Store α) {k i : Nat} (v : α) (h : i ≠ k) :
    Store.read d (Store.write d m k v) i = Store.read d m i := by
  unfold Store.read Store.write
  split
  · simp [Store.find_unlist_other m h]
  · simp [Store.find_put_other m v h]

theorem Store.read_write (d : α) (m : Store α) (k i : Nat) (v : α) :
    Store.read d (Store.write d m k v) i = if i = k then v else Store.read d m i := by
  split
  · rename_i h; subst h; simp
  · rename_i h; simp [h]

/-- A write keeps the canonical form. -/
theorem Store.wf_write (d : α) (m : Store α) (k : Nat) (v : α) (h : Store.wf d m = true) :
    Store.wf d (Store.write d m k v) = true := by
  simp only [Store.wf, Bool.and_eq_true, decide_eq_true_eq, List.all_eq_true] at h ⊢
  unfold Store.write
  split
  · exact ⟨List.Pairwise.filter _ h.1, fun e he => h.2 e (List.mem_filter.mp he).1⟩
  · rename_i hv
    refine ⟨Store.put_pairwise m k v h.1, fun e he => ?_⟩
    rcases Store.put_mem_index m k v e he with rfl | he
    · simpa using hv
    · exact h.2 e he

/-- The empty store is in canonical form. -/
theorem Store.wf_nil (d : α) : Store.wf d ([] : Store α) = true := by simp [Store.wf]

/-- Writing a run of entries keeps the canonical form. -/
theorem writeRun_wf (d : α) (m : Store (Stored α)) (i : Nat) (l : List α) (h : Store.wf ⟨d, true⟩ m = true) :
    Store.wf ⟨d, true⟩ (writeRun d m i l) = true := by
  induction l generalizing m i with
  | nil => exact h
  | cons x rest ih => exact ih _ _ (Store.wf_write _ _ _ _ h)

/-- A stored run reads back: the entry `k` places on is the `k`th of the run, and every index outside is as before. -/
theorem writeRun_read (d : α) (m : Store (Stored α)) (i j : Nat) (l : List α) :
    Store.read ⟨d, true⟩ (writeRun d m i l) j =
      if h : i ≤ j ∧ j - i < l.length then ⟨l[j - i]'h.2, true⟩ else Store.read ⟨d, true⟩ m j := by
  induction l generalizing m i with
  | nil => simp [writeRun]
  | cons x rest ih =>
    rw [writeRun, ih]
    by_cases hij : j = i
    · subst hij; simp
    · by_cases h1 : i + 1 ≤ j ∧ j - (i + 1) < rest.length
      · have h2 : i ≤ j ∧ j - i < (x :: rest).length := ⟨by omega, by simp; omega⟩
        rw [dif_pos h1, dif_pos h2]
        have : j - i = (j - (i + 1)) + 1 := by omega
        simp [this]
      · have h2 : ¬ (i ≤ j ∧ j - i < (x :: rest).length) := by simp; omega
        rw [dif_neg h1, dif_neg h2, Store.read_write_other _ _ _ hij]

end Write

/-! ### The parts of the state that are stores -/

theorem DnPort.number_inj {a b : DnPort} (h : DnPort.number a = DnPort.number b) : a = b := by
  cases a <;> cases b <;> simp_all [DnPort.number]

theorem PortId.index_inj {a b : PortId} (h : PortId.index a = PortId.index b) : a = b := by
  rcases a with _ | a <;> rcases b with _ | b <;> simp only [PortId.index] at h
  · rfl
  · omega
  · omega
  · rw [DnPort.number_inj (by omega : DnPort.number a = DnPort.number b)]

@[simp] theorem State.port_setPort_same (s : State) (p : PortId) (v : Port) : (s.setPort p v).port p = v := by
  simp [State.port]

@[simp] theorem State.port_setPort_other (s : State) {p q : PortId} (v : Port) (h : q ≠ p) :
    (s.setPort p v).port q = s.port q := by
  have : PortId.index q ≠ PortId.index p := fun e => h (PortId.index_inj e)
  simp [State.port, this]

theorem State.port_setPort (s : State) (p q : PortId) (v : Port) :
    (s.setPort p v).port q = if q = p then v else s.port q := by
  split
  · rename_i h; subst h; simp
  · rename_i h; simp [h]

@[simp] theorem State.point_setPoint_same (s : State) (p : Nat) (v : PointDyn) : (s.setPoint p v).point p = v := by
  simp [State.point]

@[simp] theorem State.point_setPoint_other (s : State) {p q : Nat} (v : PointDyn) (h : q ≠ p) :
    (s.setPoint p v).point q = s.point q := by simp [State.point, h]

@[simp] theorem State.sect_setSect_same (s : State) (n : Nat) (v : SectionDyn) : (s.setSect n v).sect n = v := by
  simp [State.sect]

@[simp] theorem State.sect_setSect_other (s : State) {n m : Nat} (v : SectionDyn) (h : m ≠ n) :
    (s.setSect n v).sect m = s.sect m := by simp [State.sect, h]

theorem State.sect_setSect (s : State) (n m : Nat) (v : SectionDyn) :
    (s.setSect n v).sect m = if m = n then v else s.sect m := by
  split
  · rename_i h; subst h; simp
  · rename_i h; simp [h]

theorem State.point_setPoint (s : State) (p q : Nat) (v : PointDyn) :
    (s.setPoint p v).point q = if q = p then v else s.point q := by
  split
  · rename_i h; subst h; simp
  · rename_i h; simp [h]

/-- Every table, file and line of the state after reset is in canonical form. -/
theorem State.reset_stores_wf :
    Store.wf Port.clear State.reset.ports = true ∧ Store.wf PointDyn.clear State.reset.image = true ∧
    Store.wf SectionDyn.clear State.reset.sects = true ∧ Store.wf false State.reset.permitIn = true ∧
    Store.wf false State.reset.permitOut = true := by decide

end Sys2Proof.Machine
end

