-- ==== Sys2Proof/Laws/Steady.lean ====
section
/-! SUPPORT. The part of the state that no consequence of an event touches: the tables, markers, lines in, clock, timers of
the budget, ports, requests and notice settings. One lemma per shared operation. -/

set_option Elab.async false

namespace Sys2Proof.Machine

/-- The fields that no block changes while it takes what an event started. -/
structure Steady where
  pending : List Instr
  supplyBad : Bool
  resetLine : Bool
  straps : BitVec 3
  clock : Clock
  subMs : Nat
  permitIn : Store Bool
  campaignHalt : Bool
  active : Option BankId
  standby : BankId
  standbyWritten : Bool
  bankA : Bank
  bankB : Bank
  periodNumber : Nat
  periodTimer : Option Timer
  tallyTimer : Option Timer
  ports : Store Port
  requests : List MgmtTel
  swapCheck : Option SwapCheck
  noticeMask : List NoticeKind
  noticeDest : Option Byte

/-- The steady part of a state. -/
def State.steady (s : State) : Steady where
  pending := s.pending
  supplyBad := s.supplyBad
  resetLine := s.resetLine
  straps := s.straps
  clock := s.clock
  subMs := s.subMs
  permitIn := s.permitIn
  campaignHalt := s.campaignHalt
  active := s.active
  standby := s.standby
  standbyWritten := s.standbyWritten
  bankA := s.bankA
  bankB := s.bankB
  periodNumber := s.periodNumber
  periodTimer := s.periodTimer
  tallyTimer := s.tallyTimer
  ports := s.ports
  requests := s.requests
  swapCheck := s.swapCheck
  noticeMask := s.noticeMask
  noticeDest := s.noticeDest

/-- A fold of operations that keep a projection of the state keeps it. -/
theorem foldl_keeps {α β : Type} (π : State → β) (f : State → α → State) (h : ∀ s x, π (f s x) = π s) (l : List α)
    (s : State) : π (l.foldl f s) = π s := by
  induction l generalizing s with
  | nil => rfl
  | cons x rest ih => rw [List.foldl_cons, ih, h]

variable (s : State)

@[simp] theorem State.setSect_steady (n : Nat) (v : SectionDyn) : (s.setSect n v).steady = s.steady := rfl
@[simp] theorem State.setPoint_steady (p : Nat) (v : PointDyn) : (s.setPoint p v).steady = s.steady := rfl
@[simp] theorem State.setPermitOut_steady (k : Nat) (b : Bool) : (s.setPermitOut k b).steady = s.steady := rfl
@[simp] theorem State.addTasks_steady (l : List Task) : (s.addTasks l).steady = s.steady := rfl
@[simp] theorem State.addTask_steady (t : Task) : (s.addTask t).steady = s.steady := rfl
@[simp] theorem State.startScan_steady : s.startScan.steady = s.steady := rfl
@[simp] theorem State.pushUp_steady (c : UpContent) : (s.pushUp c).steady = s.steady := rfl
@[simp] theorem State.pushReport_steady (t : PointTel) : (s.pushReport t).steady = s.steady := rfl
@[simp] theorem State.addEntry_steady (e : Entry) : (s.addEntry e).steady = s.steady := rfl
@[simp] theorem State.freeEntry_steady (e : Entry) : (s.freeEntry e).steady = s.steady := rfl

@[simp] theorem State.setHeld_steady (l : List HeldRec) : (s.setHeld l).steady = s.steady := rfl
@[simp] theorem State.setAgenda_steady (l : List Task) : (s.setAgenda l).steady = s.steady := rfl
@[simp] theorem State.setNoticeLost_steady (b : Bool) : (s.setNoticeLost b).steady = s.steady := rfl
@[simp] theorem State.setPledgeSum_steady (n : Nat) : (s.setPledgeSum n).steady = s.steady := rfl

@[simp] theorem State.countChoice_steady (n : Nat) : (s.countChoice n).steady = s.steady := by
  unfold State.countChoice; split <;> rfl

@[simp] theorem State.offerNotice_steady (k : NoticeKind) (a b : Option Nat) (c : Cause) :
    (s.offerNotice k a b c).steady = s.steady := by
  unfold State.offerNotice; split_ifs <;> rfl

@[simp] theorem State.captureRefusal_steady (t : PointTel) (r : RefusalReason) :
    (s.captureRefusal t r).steady = s.steady := by
  unfold State.captureRefusal; split <;> rfl

@[simp] theorem State.refuse_steady (t : PointTel) (r : RefusalReason) : (s.refuse t r).steady = s.steady := by
  simp [State.refuse]

@[simp] theorem State.emptyHeld_steady (r : RefusalReason) : (s.emptyHeld r).steady = s.steady := by
  unfold State.emptyHeld
  rw [foldl_keeps State.steady (fun s (h : HeldRec) => s.refuse h.tel r) (fun s h => State.refuse_steady s h.tel r)]
  simp

@[simp] theorem State.activeFault_steady (e : EntryRef) : (s.activeFault e).steady = s.steady := by
  unfold State.activeFault
  split
  · simp only [State.emptyHeld_steady, State.offerNotice_steady]; rfl
  · rfl

@[simp] theorem State.checkReads_steady (l : List EntryRef) : (s.checkReads l).steady = s.steady := by
  unfold State.checkReads; split <;> simp

@[simp] theorem State.takeFault_steady (f : Option EntryRef) : (s.takeFault f).steady = s.steady := by
  cases f <;> simp [State.takeFault]

@[simp] theorem State.refuseFault_steady (t : PointTel) (r : RefusalReason) (f : Option EntryRef) :
    (s.refuseFault t r f).steady = s.steady := by simp [State.refuseFault]

@[simp] theorem State.permitOutOf_steady (n : Nat) : (s.permitOutOf n).steady = s.steady := by
  unfold State.permitOutOf; (repeat' split) <;> rfl

@[simp] theorem State.changePhase_steady (n : Nat) (t : Phase) (c : Option HaltCause) :
    (s.changePhase n t c).steady = s.steady := by simp [State.changePhase]

@[simp] theorem State.enterHalted_steady (n : Nat) (c : HaltCause) : (s.enterHalted n c).steady = s.steady := by
  simp [State.enterHalted]

@[simp] theorem State.takeHalt_steady (n : Nat) (c : HaltCause) : (s.takeHalt n c).steady = s.steady := by
  unfold State.takeHalt; split <;> simp

@[simp] theorem State.issueTrip_steady (n : Nat) (a : TripAction) : (State.issueTrip n s a).steady = s.steady := by
  unfold State.issueTrip State.tripFailed
  split
  · split_ifs
    · simp
    · rfl
    · simp
  · simp
  · simp

@[simp] theorem State.issueTrips_steady (n : Nat) : (s.issueTrips n).steady = s.steady := by
  unfold State.issueTrips
  split
  · exact foldl_keeps State.steady _ (fun s a => State.issueTrip_steady s n a) _ _
  · simp

@[simp] theorem State.changeCampaign_steady (m : CampaignMode) : (s.changeCampaign m).steady = s.steady := by
  simp only [State.changeCampaign, State.addTasks_steady, State.offerNotice_steady]; rfl

@[simp] theorem State.testCompletion_steady : s.testCompletion.steady = s.steady := by
  simp only [State.testCompletion]; split <;> simp

@[simp] theorem State.reexamine_steady (n : Nat) : (s.reexamine n).steady = s.steady := by
  simp only [State.reexamine]; split <;> simp

/-! ### The Order Screen -/

@[simp] theorem State.passPriority_steady (t : PointTel) (a : Addressed) : (s.passPriority t a).steady = s.steady := rfl

@[simp] theorem State.charge_steady (c : Option BudgetClass) (k : Nat) : (s.charge c k).steady = s.steady := by
  unfold State.charge; split <;> rfl

@[simp] theorem State.admitPoint_steady (a : Addressed) (v : Word) : (s.admitPoint a v).steady = s.steady := by
  unfold State.admitPoint; split <;> rfl

@[simp] theorem State.admit_steady (t : PointTel) (a : Addressed) (row : ScreenRow) (c : Option BudgetClass) :
    (s.admitOrder t a row c).steady = s.steady := by
  simp [State.admitOrder]

@[simp] theorem State.holdNew_steady (t : PointTel) (p : Nat) (r : HoldReason) (l : Nat) (c : Option BudgetClass) :
    (s.holdNew t p r l c).steady = s.steady := by
  unfold State.holdNew
  split_ifs <;> simp

@[simp] theorem State.supersede_steady (p : Nat) : (s.supersede p).steady = s.steady := by
  unfold State.supersede; split <;> simp

@[simp] theorem State.applyNew_steady (t : PointTel) (a : Addressed) (v : Verdict) :
    (s.applyNew t a v).steady = s.steady := by
  cases v <;> simp [State.applyNew]

@[simp] theorem State.screenNew_steady (t : PointTel) : (s.screenNew t).steady = s.steady := by
  unfold State.screenNew; split <;> simp

/-- The state a re-screening leaves. -/
def Rescreened.state : Rescreened → State
  | .gone s => s
  | .again s _ => s
  | .faulted s _ => s

@[simp] theorem State.refuseHeld_state_steady (h : HeldRec) (r : RefusalReason) (f : Option EntryRef) :
    (s.refuseHeld h r f).state.steady = s.steady := by
  cases f <;> simp [State.refuseHeld, Rescreened.state]

theorem State.rescreen_steady (h : HeldRec) (ahead : List HeldRec) :
    (s.rescreen h ahead).state.steady = s.steady := by
  unfold State.rescreen
  split
  · simp
  · split
    · simp
    · simp [Rescreened.state]
    · split_ifs <;> simp [Rescreened.state]
    · simp [Rescreened.state]

theorem scanRest_steady (l ahead : List HeldRec) (s : State) : (scanRest s ahead l).steady = s.steady := by
  induction l generalizing s ahead with
  | nil => rfl
  | cons h rest ih =>
    have hr := State.rescreen_steady s h ahead
    unfold scanRest
    cases hx : s.rescreen h ahead with
    | gone s1 => rw [hx] at hr; exact (ih _ _).trans hr
    | again s1 h1 => rw [hx] at hr; exact (ih _ _).trans hr
    | faulted s1 f => rw [hx] at hr; simpa [Rescreened.state] using hr

@[simp] theorem State.scan_steady : s.scan.steady = s.steady := scanRest_steady _ _ _

/-! ### The event in progress -/

@[simp] theorem State.runTask_steady (t : Task) : (s.runTask t).steady = s.steady := by
  cases t <;> simp [State.runTask]

theorem settle_steady (n : Nat) (s : State) : (settle n s).steady = s.steady := by
  induction n generalizing s with
  | zero => rfl
  | succ n ih =>
    unfold settle
    split
    · rfl
    · rw [ih]; simp

/-- Taking an event to its end leaves the steady part as it was. -/
@[simp] theorem State.settled_steady : s.settled.steady = s.steady := settle_steady _ _

/-! ### The image -/

@[simp] theorem State.loadRises_steady (p : Nat) : (s.loadRises p).steady = s.steady := by
  simp only [State.loadRises]; split_ifs <;> rfl

@[simp] theorem State.loadFalls_steady (p : Nat) : (s.loadFalls p).steady = s.steady := by
  simp only [State.loadFalls]; split_ifs <;> rfl

@[simp] theorem State.takeLoad_steady (p : Nat) (old new : PointDyn) : (s.takeLoad p old new).steady = s.steady := by
  simp only [State.takeLoad]; split_ifs <;> simp

@[simp] theorem State.takeFlow_steady (n : Nat) (r : SectionRec) (p : Nat) (new : PointDyn) :
    (s.takeFlow n r p new).steady = s.steady := by
  unfold State.takeFlow; split_ifs <;> rfl

@[simp] theorem State.sectionTakes_steady (p : Nat) (old new : PointDyn) (n : Nat) :
    (State.sectionTakes p old new s n).steady = s.steady := by
  simp only [State.sectionTakes]; split <;> simp

@[simp] theorem State.imageChanged_steady (p : Nat) (old : PointDyn) : (s.imageChanged p old).steady = s.steady := by
  unfold State.imageChanged
  rw [State.startScan_steady, foldl_keeps State.steady _ (fun s n => State.sectionTakes_steady s p old _ n)]
  simp

@[simp] theorem State.loseFlow_steady (p n : Nat) : (State.loseFlow p s n).steady = s.steady := by
  simp only [State.loseFlow]; split_ifs
  · split <;> simp
  · rfl

@[simp] theorem State.repeatFlow_steady (p : Nat) : (s.repeatFlow p).steady = s.steady := by
  unfold State.repeatFlow
  exact foldl_keeps State.steady _ (fun s n => State.loseFlow_steady s p n) _ _

@[simp] theorem State.takeLevel_steady (p : Nat) (v : Word) : (s.takeLevel p v).steady = s.steady := by
  simp [State.takeLevel]

@[simp] theorem State.imageReport_steady (p : Nat) (st : PointStatic) (rs : ReportState) (v : Word) :
    (s.imageReport p st rs v).steady = s.steady := by
  simp only [State.imageReport]; split <;> simp

@[simp] theorem State.reportPoint_steady (p : Nat) (t : PointTel) : (s.reportPoint p t).steady = s.steady := by
  have h : s.countDraw.steady = s.steady := rfl
  simp only [State.reportPoint]
  split
  · split_ifs <;> simp [h]
  · split_ifs <;> simp [h]

@[simp] theorem State.takeReport_steady (d : DnPort) (t : PointTel) : (s.takeReport d t).steady = s.steady := by
  simp only [State.takeReport]
  split
  · split_ifs <;> simp
  · simp
  · simp

@[simp] theorem State.makeStale_steady (p : Nat) : (s.makeStale p).steady = s.steady := by
  unfold State.makeStale; split_ifs <;> simp

/-! ### Entries and replies -/

@[simp] theorem State.removalScans_steady (e : Entry) : (s.removalScans e).steady = s.steady := by
  simp only [State.removalScans]; split_ifs <;> rfl

@[simp] theorem State.removeEntry_steady (e : Entry) : (s.removeEntry e).steady = s.steady := by
  simp [State.removeEntry]

@[simp] theorem State.failEntry_steady (e : Entry) (r : RefusalReason) : (s.failEntry e r).steady = s.steady := by
  unfold State.failEntry; split <;> simp

@[simp] theorem State.matchedReply_steady (t : PointTel) (o : ReplyOutcome) (e : Entry) :
    (s.matchedReply t o e).steady = s.steady := by
  unfold State.matchedReply State.tripReplied
  split
  · simp
  · cases o <;> simp

@[simp] theorem State.emptyEntries_steady : s.emptyEntries.steady = s.steady := by
  unfold State.emptyEntries
  refine foldl_keeps State.steady _ (fun s e => ?_) _ _
  split_ifs <;> simp

end Sys2Proof.Machine
end

