-- ==== Sys2Proof/Laws/Events.lean ====
section
/-! SUPPORT. What the settling of an event can do: nothing where nothing is left to take, and otherwise only what its tasks
do; with the rule that carries an invariant through it. -/

set_option Elab.async false

namespace Sys2Proof.Machine

@[simp] theorem candidates_nil : candidates [] = [] := by simp [candidates]

/-- With no task that would change anything, an event is over. -/
theorem settle_of_no_live (n : Nat) (s : State) (h : s.liveTasks = []) (hn : n ≠ 0) : settle n s = s.setAgenda [] := by
  cases n with
  | zero => exact absurd rfl hn
  | succ n =>
    have hopt : s.options = [] := by simp [State.options, h]
    simp [settle, hopt]

/-- With every task inert, settling empties the agenda and changes nothing else. -/
theorem State.settled_of_inert (s : State) (h : ∀ t ∈ s.agenda, s.isInert t = true) : s.settled = s.setAgenda [] := by
  apply settle_of_no_live
  · simp only [State.liveTasks, List.filter_eq_nil_iff]
    intro t ht; simp [h t ht]
  · simp [Config.settleBound]

/-- With nothing left to take, settling changes nothing. -/
theorem State.settled_of_quiet (s : State) (h : s.agenda = []) : s.settled = s := by
  rw [State.settled_of_inert s (by simp [h])]
  cases s; simp_all [State.setAgenda]

/-- A property that every task keeps, and that does not depend on the agenda or the count of free values, holds after an
event settles. -/
theorem settle_keeps (P : State → Prop) (hagenda : ∀ s l, P s → P (s.setAgenda l)) (hdraw : ∀ s, P s → P s.countDraw)
    (hrun : ∀ s t, P s → P (s.runTask t)) (n : Nat) (s : State) (h : P s) : P (settle n s) := by
  induction n generalizing s with
  | zero => exact h
  | succ n ih =>
    simp only [settle]
    split
    · exact hagenda _ _ h
    · refine ih _ (hrun _ _ (hagenda _ _ ?_))
      unfold State.countChoice
      split
      · exact h
      · exact hdraw _ h

/-- `settle_keeps` for a whole event. -/
theorem State.settled_keeps (P : State → Prop) (hagenda : ∀ s l, P s → P (s.setAgenda l))
    (hdraw : ∀ s, P s → P s.countDraw) (hrun : ∀ s t, P s → P (s.runTask t)) (s : State) (h : P s) : P s.settled :=
  settle_keeps P hagenda hdraw hrun _ _ h

end Sys2Proof.Machine
end

