-- ==== Sys2Proof/Laws/Cascade.lean ====
section
/-! SUPPORT. What the consequences of an event are made of: a relation between states that a few primitive changes respect is
respected by every task a block takes, and by the settling of an event. -/

set_option Elab.async false

namespace Sys2Proof.Machine

/-- A relation between a state and a later one that the primitive changes of a cascade respect. -/
structure Cascading (R : State → State → Prop) : Prop where
  refl : ∀ s, R s s
  trans : ∀ {s t u}, R s t → R t u → R s u
  agenda : ∀ s l, R s (s.setAgenda l)
  draw : ∀ s, R s s.countDraw
  notice : ∀ s k n p c, R s (s.offerNotice k n p c)
  halt : ∀ s n c, haltReaches c (s.phaseOf n) = true → R s (s.setSect n (s.inPhase n .halted (some c)))
  move : ∀ s n t, s.autoMove n = some t → R s (s.setSect n (s.inPhase n t none))
  permitOut : ∀ s k b, R s (s.setPermitOut k b)
  fault : ∀ s e, R s (s.activeFault e)
  trip : ∀ s n a w, R s { s.addEntry (s.tripEntry n a w) with tagCounter := s.tagCounter + 1 }
  campaign : ∀ s m, s.completionMode = some m → R s { s with campaign := m }
  scan : ∀ s, R s s.scan

namespace Cascading

variable {R : State → State → Prop} (h : Cascading R)
include h

theorem addTasks (s : State) (l : List Task) : R s (s.addTasks l) := h.agenda s _

theorem checkReads (s : State) (l : List EntryRef) : R s (s.checkReads l) := by
  unfold State.checkReads
  split
  · exact h.fault _ _
  · exact h.refl _

theorem permitOutOf (s : State) (n : Nat) : R s (s.permitOutOf n) := by
  unfold State.permitOutOf
  split
  · split
    · exact h.permitOut _ _ _
    · exact h.refl _
  · exact h.refl _

/-- What a phase change adds to the new dynamic state respects the relation. -/
theorem afterPhase (s : State) (n : Nat) (t : Phase) (c : Option HaltCause)
    (hs : R s (s.setSect n (s.inPhase n t c))) : R s (s.changePhase n t c) := by
  unfold State.changePhase
  exact h.trans (h.trans (h.trans (h.trans hs (h.notice _ _ _ _ _)) (h.permitOutOf _ _)) (h.checkReads _ _))
    (h.addTasks _ _)

theorem takeHalt (s : State) (n : Nat) (c : HaltCause) : R s (s.takeHalt n c) := by
  unfold State.takeHalt
  split
  · rename_i hc
    exact h.trans (h.afterPhase _ _ _ _ (h.halt _ _ _ hc)) (h.addTasks _ _)
  · exact h.refl _

theorem autoMove_checkReads (s : State) (l : List EntryRef) (n : Nat) (t : Phase)
    (ht : (s.checkReads l).autoMove n = some t) : R (s.checkReads l) ((s.checkReads l).changePhase n t none) :=
  h.afterPhase _ _ _ _ (h.move _ _ _ ht)

theorem reexamine (s : State) (n : Nat) : R s (s.reexamine n) := by
  unfold State.reexamine
  simp only []
  split
  · rename_i t ht
    exact h.trans (h.checkReads _ _) (h.autoMove_checkReads _ _ _ _ ht)
  · exact h.checkReads _ _

theorem issueTrip (s : State) (n : Nat) (a : TripAction) : R s (State.issueTrip n s a) := by
  unfold State.issueTrip State.tripFailed
  split
  · split_ifs
    · exact h.notice _ _ _ _ _
    · exact h.trip _ _ _ _
    · exact h.notice _ _ _ _ _
  · exact h.notice _ _ _ _ _
  · exact h.trans (h.notice _ _ _ _ _) (h.fault _ _)

theorem foldl {α : Type} (f : State → α → State) (hf : ∀ s x, R s (f s x)) (l : List α) (s : State) :
    R s (l.foldl f s) := by
  induction l generalizing s with
  | nil => exact h.refl s
  | cons x rest ih => exact h.trans (hf s x) (ih _)

theorem issueTrips (s : State) (n : Nat) : R s (s.issueTrips n) := by
  unfold State.issueTrips
  split
  · exact h.foldl _ (fun s a => h.issueTrip s n a) _ _
  · exact h.trans (h.notice _ _ _ _ _) (h.fault _ _)

theorem testCompletion (s : State) : R s s.testCompletion := by
  unfold State.testCompletion
  simp only []
  split
  · rename_i m hm
    unfold State.changeCampaign
    exact h.trans (h.checkReads _ _) (h.trans (h.campaign _ _ hm) (h.trans (h.notice _ _ _ _ _) (h.addTasks _ _)))
  · exact h.checkReads _ _

/-- A block's task respects the relation. -/
theorem runTask (s : State) (t : Task) : R s (s.runTask t) := by
  cases t with
  | halt n c => exact h.takeHalt s n c
  | haltFirst n c => exact h.takeHalt s n c
  | reexamine n => exact h.reexamine s n
  | tripActions n => exact h.issueTrips s n
  | completion => exact h.testCompletion s
  | scan => exact h.scan s

/-- The settling of an event respects the relation. -/
theorem settle (n : Nat) (s : State) : R s (Machine.settle n s) := by
  induction n generalizing s with
  | zero => exact h.refl s
  | succ n ih =>
    simp only [Machine.settle]
    split
    · exact h.agenda _ _
    · refine h.trans ?_ (ih _)
      refine h.trans (h.trans ?_ (h.agenda _ _)) (h.runTask _ _)
      unfold State.countChoice
      split
      · exact h.refl s
      · exact h.draw s

/-- An event taken to its end respects the relation. -/
theorem settled (s : State) : R s s.settled := h.settle _ s

end Cascading

/-! ### Release scans -/

/-- A relation that refusals, admissions, faults and changes of the queue respect is respected by a release scan. -/
theorem scan_respects (R : State → State → Prop) (hrefl : ∀ s, R s s) (htrans : ∀ {s t u}, R s t → R t u → R s u)
    (hrefuse : ∀ s t r, R s (s.refuse t r)) (hadmit : ∀ s t a row c, R s (s.admitOrder t a row c))
    (hpriority : ∀ s t a, R s (s.passPriority t a)) (hheld : ∀ s l, R s (s.setHeld l))
    (hfault : ∀ s e, R s (s.activeFault e)) (s : State) : R s s.scan := by
  have hre : ∀ s h ahead, R s (State.rescreen s h ahead).state := by
    intro s h ahead
    have hh : ∀ r f, R s (s.refuseHeld h r f).state := by
      intro r f; cases f <;> exact hrefuse _ _ _
    unfold State.rescreen
    split
    · exact hh _ _
    · split
      · exact hh _ _
      · exact hpriority _ _ _
      · split_ifs
        · exact hrefuse _ _ _
        · exact hrefl _
      · exact hadmit _ _ _ _ _
  have hrest : ∀ l ahead s, R s (scanRest s ahead l) := by
    intro l
    induction l with
    | nil => intro ahead s; exact hheld _ _
    | cons h rest ih =>
      intro ahead s
      have hr := hre s h ahead
      unfold scanRest
      cases hx : s.rescreen h ahead with
      | gone s1 => rw [hx] at hr; exact htrans hr (ih _ _)
      | again s1 h1 => rw [hx] at hr; exact htrans hr (ih _ _)
      | faulted s1 f => rw [hx] at hr; exact htrans hr (htrans (hheld _ _) (hfault _ _))
  exact hrest _ _ _

/-- With nothing held a scan changes nothing (R125). -/
theorem State.scan_of_empty (s : State) (h : s.held = []) : s.scan = s := by
  unfold State.scan
  rw [h]
  cases s; simp_all [scanRest, State.setHeld]

/-- With nothing held an entry to FAIL_HOLD sets the mode and FAULT and offers its notice (R171). -/
theorem State.activeFault_of_empty (s : State) (e : EntryRef) (h : s.held = []) :
    s.activeFault e =
      if s.mode = .screening then
        ({ s with mode := .failHold, fault := true } : State).offerNotice .failHold e.sect? e.point? .integrity
      else s := by
  unfold State.activeFault State.emptyHeld
  split
  · have : (({ s with mode := .failHold, fault := true } : State).offerNotice .failHold e.sect? e.point? .integrity).held
        = [] := by
      unfold State.offerNotice; split_ifs <;> exact h
    rw [this]
    generalize (({ s with mode := .failHold, fault := true } : State).offerNotice .failHold e.sect? e.point? .integrity)
      = u at this
    cases u; simp_all [State.setHeld]
  · rfl

end Sys2Proof.Machine
end

