-- ==== Sys2Proof/Laws/Orders.lean ====
section
/-! SUPPORT. Arrivals and the verdict sequence: what a telegram on a ready port comes to, and what each standing condition of
`Safety` says of the screening. -/

set_option Elab.async false

namespace Sys2Proof.Machine

/-- A refusal is what `refusedWith` says. -/
theorem State.refuse_eq (s : State) (o : PointTel) (r : RefusalReason) : s.refuse o r = s.refusedWith o r := by
  unfold State.refuse State.captureRefusal State.refusedWith State.pushUp State.refusalTel
  cases h : s.capture <;> simp

@[simp] theorem State.refusedWith_agenda (s : State) (o : PointTel) (r : RefusalReason) :
    (s.refusedWith o r).agenda = s.agenda := rfl

/-- A fold of refusals by `refuse` is one by `refusedWith`. -/
theorem State.foldl_refuse_eq (l : List HeldRec) (r : RefusalReason) (s : State) :
    l.foldl (fun s h => s.refuse h.tel r) s = l.foldl (fun s h => s.refusedWith h.tel r) s := by
  induction l generalizing s with
  | nil => rfl
  | cons h rest ih => rw [List.foldl_cons, List.foldl_cons, State.refuse_eq, ih]

/-- A telegram on a ready UP port is taken by its address and the part mode (R158, R159). -/
theorem State.arriveUp_ready (s : State) (t : Telegram) (h : s.portReady .up) :
    s.arriveUp t =
      if destOf t = s.station then
        match t with
        | .mgmt .request m => s.takeRequest m
        | _ => s
      else if s.mode = .transparent then s.repeatDown t
      else
        match t with
        | .point .order o => s.takeOrder o
        | _ => s := by
  obtain ⟨⟨h1, _⟩, h2⟩ := h
  unfold State.arriveUp
  exact (if_neg (by simp [h1])).trans ((if_neg (by simp [h2])).trans rfl)

/-- A telegram on a ready DN port is taken by its kind and the part mode (R158, R159). -/
theorem State.arriveDn_ready (s : State) (d : DnPort) (t : Telegram) (h : s.portReady (.dn d)) :
    s.arriveDn d t =
      if s.mode = .transparent then s.forwardUp d t
      else
        match t with
        | .point .report r => s.takeReport d r
        | .point .reply r => s.takeReply d r
        | _ => s := by
  obtain ⟨⟨h1, _⟩, h2⟩ := h
  unfold State.arriveDn
  exact (if_neg (by simp [h1])).trans ((if_neg (by simp [h2])).trans rfl)

/-- An order that screens is screened as a new order, and the event settles. -/
theorem State.Screens.exec_order {s : State} {o : PointTel} (h : s.Screens o) :
    exec (.order o) s = .next (s.screenNew o).settled := by
  obtain ⟨hr, hb, hd, hq⟩ := h
  have hq' : s.debt < Config.debtLimit := hq
  simp only [exec, execOrder]
  rw [State.arriveUp_ready s _ hr, if_neg (show ¬ destOf (.point .order o) = s.station from hd), if_neg hb]
  simp only [State.takeOrder]
  rw [if_pos hq']

/-- Steps 1 and 2 hand on what `HandsOn` says. -/
theorem State.HandsOn.judged {s : State} {o : PointTel} {w : Window} {st : PointStatic} {a : Action}
    (h : s.HandsOn o w st a) : s.judgeDestination o = .known ⟨w.logicalOf o.point.toNat, w, st, a⟩ := by
  obtain ⟨h1, ⟨i, h2⟩, h3, h4, h5, h6, h7⟩ := h
  rw [State.judgeDestination, if_neg h1]
  simp [h2, h3, h4, State.judgeClass, h5, h6, h7]

/-- With no order held for the point nothing is superseded (R83). -/
theorem State.supersede_none (s : State) (p : Nat) (h : s.noneHeld p) : s.supersede p = s := by
  unfold State.supersede
  have : s.held.find? (fun h => h.point == some p) = none := by
    simp only [List.find?_eq_none]; intro x hx; simpa using h x hx
  simp [this]

/-- An order that steps 1 and 2 hand on, with none held for its point, has the effect of its verdict. -/
theorem State.Screens.exec_verdict {s : State} {o : PointTel} {w : Window} {st : PointStatic} {a : Action}
    (hs : s.Screens o) (h : s.HandsOn o w st a) (hn : s.noneHeld (w.logicalOf o.point.toNat)) :
    exec (.order o) s = .next (s.applyNew o ⟨w.logicalOf o.point.toNat, w, st, a⟩
      (s.judgeOrder o ⟨w.logicalOf o.point.toNat, w, st, a⟩ s.held)).settled := by
  rw [hs.exec_order]
  simp [State.screenNew, h.judged, State.supersede_none s _ hn]

/-- An order whose row passes goes on to steps 9 to 13 (R89 to R93). -/
theorem State.RowPasses.judged {s : State} {o : PointTel} {w : Window} {p : Nat} {st : PointStatic} {a : Action} {n : Nat}
    {r : SectionRec} {row : ScreenRow} (h : s.RowPasses o p st a n r row) (ha : a ≠ .stop) (ha' : a ≠ .closePoint)
    (ahead : List HeldRec) :
    s.judgeOrder o ⟨p, w, st, a⟩ ahead =
      if a = .start then s.judgeStart ⟨p, w, st, a⟩ row r.role.budgetClass ahead
      else s.judgeSlot ⟨p, w, st, a⟩ row none := by
  obtain ⟨h1, h2, h3, h4, h5, h6, h7, h8, h9⟩ := h
  have e1 : s.entries.any (s.sameOrder o) = false := by
    simp only [List.any_eq_false]; intro e he; simpa [State.sameOrder] using h2 e he
  have e2 : (s.optSetReads row.condSet).find? (fun e => !s.activeBank.entryGood e) = none := by
    simp only [List.find?_eq_none]; intro e he; simp [h7 e he]
  have e3 : s.isBusy p = false := by
    simp only [State.isBusy, List.any_eq_false]; intro e he; simpa using h9 e he
  simp [State.judgeOrder, ha, ha', h1, e1, h3, h4, State.judgeRow, h5, h6, e2, h8, State.judgeBusy, e3]

/-- The general part and lane have room (R92). -/
theorem State.generalFree_iff (s : State) (d : DnPort) :
    s.generalFree d = true ↔ s.partCount .general < 48 ∧ (s.lane d .general).length < 16 := by
  simp only [State.generalFree, Bool.and_eq_true, decide_eq_true_eq]
  rfl

/-- The priority part and lane have room (R86). -/
theorem State.priorityFree_iff (s : State) (d : DnPort) :
    s.priorityFree d = true ↔ s.partCount .priority < 16 ∧ (s.lane d .priority).length < 8 := by
  simp only [State.priorityFree, Bool.and_eq_true, decide_eq_true_eq]
  rfl

end Sys2Proof.Machine
end

