-- ==== Sys2Proof/Laws/PerInstr.lean ====
section
/-! SUPPORT. The families of statements made once per constructor of `Instr`. -/

set_option Elab.async false

namespace Sys2Proof.Laws.Shape

/-- The management telegram a telegram is, if it is one. -/
def mgmtOf : Telegram → List MgmtTel
  | .point _ _ => []
  | .mgmt _ t => [t]

/-- The management telegrams a command carries. -/
def telegrams : Instr → List MgmtTel
  | .transparentRepeat t | .transparentForward _ t | .telegramDiscarded _ t => mgmtOf t
  | .mgmtRequestIntake t => [t]
  | .order _ | .report _ _ | .reply _ _ | .checkError _ _ | .unknownRequest | .writeTable | .readTable
  | .copyToStandby | .swapBanks | .swapCheckEnd | .goTransparent | .phase | .campaignStartUp | .campaignWindDown
  | .campaignAbandon | .readStatus | .readImage | .clearMarks | .setNotices | .resetPart | .permitInChange _ _
  | .campaignHaltAsserted | .campaignHaltDeasserted | .resetAsserted _ | .resetReleased _ _ | .lineSignalAppears _
  | .provingSignalAbsent _ | .provingTimerExpiry _ | .lineSignalLost _ | .lineSignalReturns _ | .lossTimerExpiry _
  | .staleTimerExpiry _ | .confirmationTimerExpiry _ | .overdueTimerExpiry _ | .periodBoundary | .tallyDecay
  | .holdExpired _ _ | .replyTimeout _ | .transmission _ | .repeatLaneSend _ | .upTransmitStart | .upTransmitEnd => []

/-- The index operands of a command, each with the number of things it picks from: PERMIT-IN lines (section 11.6), logical
points (R2) and sections (R22). -/
def indices : Instr → List (Nat × Nat)
  | .permitInChange k _ => [(k, 4)]
  | .staleTimerExpiry p => [(p, 2048)]
  | .confirmationTimerExpiry n => [(n, 16)]
  | .overdueTimerExpiry n => [(n, 16)]
  | .order _ | .report _ _ | .reply _ _ | .transparentRepeat _ | .transparentForward _ _ | .telegramDiscarded _ _
  | .checkError _ _ | .mgmtRequestIntake _ | .unknownRequest | .writeTable | .readTable | .copyToStandby | .swapBanks
  | .swapCheckEnd | .goTransparent | .phase | .campaignStartUp | .campaignWindDown | .campaignAbandon | .readStatus
  | .readImage | .clearMarks | .setNotices | .resetPart | .campaignHaltAsserted | .campaignHaltDeasserted
  | .resetAsserted _ | .resetReleased _ _ | .lineSignalAppears _ | .provingSignalAbsent _ | .provingTimerExpiry _
  | .lineSignalLost _ | .lineSignalReturns _ | .lossTimerExpiry _ | .periodBoundary | .tallyDecay | .holdExpired _ _
  | .replyTimeout _ | .transmission _ | .repeatLaneSend _ | .upTransmitStart | .upTransmitEnd => []

/-- A command is well formed exactly when every management body it carries has at most 240 bytes (R155) and every index it
carries is below its bound (R2, R22, section 11.6). -/
def Statement (i : Instr) : Prop :=
  i.wf = true ↔ (∀ t ∈ telegrams i, t.body.length ≤ 240) ∧ ∀ x ∈ indices i, x.1 < x.2

/-- A command that carries neither is well formed. -/
theorem plain (i : Instr) (h : i.wf = true) (ht : telegrams i = []) (hi : indices i = []) : Statement i := by
  simp [Statement, h, ht, hi]

/-- A command that carries one telegram. -/
theorem carrying (i : Instr) (t : Telegram) (h : i.wf = t.wf) (ht : telegrams i = mgmtOf t) (hi : indices i = []) :
    Statement i := by
  cases t <;> simp [Statement, h, ht, hi, Telegram.wf, MgmtTel.wf, mgmtOf]

/-- A command that carries one index. -/
theorem indexed (i : Instr) (k n : Nat) (h : i.wf = decide (k < n)) (ht : telegrams i = []) (hi : indices i = [(k, n)]) :
    Statement i := by
  simp [Statement, h, ht, hi]

theorem order (tel : PointTel) : Statement (.order tel) := plain _ rfl rfl rfl
theorem report (d : DnPort) (tel : PointTel) : Statement (.report d tel) := plain _ rfl rfl rfl
theorem reply (d : DnPort) (tel : PointTel) : Statement (.reply d tel) := plain _ rfl rfl rfl
theorem transparentRepeat (tel : Telegram) : Statement (.transparentRepeat tel) := carrying _ tel rfl rfl rfl
theorem transparentForward (d : DnPort) (tel : Telegram) : Statement (.transparentForward d tel) := carrying _ tel rfl rfl rfl
theorem telegramDiscarded (p : PortId) (tel : Telegram) : Statement (.telegramDiscarded p tel) := carrying _ tel rfl rfl rfl
theorem checkError (p : PortId) (rx : Reception) : Statement (.checkError p rx) := plain _ rfl rfl rfl
theorem mgmtRequestIntake (tel : MgmtTel) : Statement (.mgmtRequestIntake tel) := carrying _ (.mgmt .request tel) rfl rfl rfl
theorem unknownRequest : Statement (.unknownRequest) := plain _ rfl rfl rfl
theorem writeTable : Statement (.writeTable) := plain _ rfl rfl rfl
theorem readTable : Statement (.readTable) := plain _ rfl rfl rfl
theorem copyToStandby : Statement (.copyToStandby) := plain _ rfl rfl rfl
theorem swapBanks : Statement (.swapBanks) := plain _ rfl rfl rfl
theorem swapCheckEnd : Statement (.swapCheckEnd) := plain _ rfl rfl rfl
theorem goTransparent : Statement (.goTransparent) := plain _ rfl rfl rfl
theorem phase : Statement (.phase) := plain _ rfl rfl rfl
theorem campaignStartUp : Statement (.campaignStartUp) := plain _ rfl rfl rfl
theorem campaignWindDown : Statement (.campaignWindDown) := plain _ rfl rfl rfl
theorem campaignAbandon : Statement (.campaignAbandon) := plain _ rfl rfl rfl
theorem readStatus : Statement (.readStatus) := plain _ rfl rfl rfl
theorem readImage : Statement (.readImage) := plain _ rfl rfl rfl
theorem clearMarks : Statement (.clearMarks) := plain _ rfl rfl rfl
theorem setNotices : Statement (.setNotices) := plain _ rfl rfl rfl
theorem resetPart : Statement (.resetPart) := plain _ rfl rfl rfl
theorem permitInChange (line : Nat) (level : Bool) : Statement (.permitInChange line level) := indexed _ line 4 rfl rfl rfl
theorem campaignHaltAsserted : Statement (.campaignHaltAsserted) := plain _ rfl rfl rfl
theorem campaignHaltDeasserted : Statement (.campaignHaltDeasserted) := plain _ rfl rfl rfl
theorem resetAsserted (c : ResetCause) : Statement (.resetAsserted c) := plain _ rfl rfl rfl
theorem resetReleased (c : ResetCause) (straps : BitVec 3) : Statement (.resetReleased c straps) := plain _ rfl rfl rfl
theorem lineSignalAppears (p : PortId) : Statement (.lineSignalAppears p) := plain _ rfl rfl rfl
theorem provingSignalAbsent (p : PortId) : Statement (.provingSignalAbsent p) := plain _ rfl rfl rfl
theorem provingTimerExpiry (p : PortId) : Statement (.provingTimerExpiry p) := plain _ rfl rfl rfl
theorem lineSignalLost (p : PortId) : Statement (.lineSignalLost p) := plain _ rfl rfl rfl
theorem lineSignalReturns (p : PortId) : Statement (.lineSignalReturns p) := plain _ rfl rfl rfl
theorem lossTimerExpiry (p : PortId) : Statement (.lossTimerExpiry p) := plain _ rfl rfl rfl
theorem staleTimerExpiry (point : Nat) : Statement (.staleTimerExpiry point) := indexed _ point 2048 rfl rfl rfl
theorem confirmationTimerExpiry (sect : Nat) : Statement (.confirmationTimerExpiry sect) := indexed _ sect 16 rfl rfl rfl
theorem overdueTimerExpiry (sect : Nat) : Statement (.overdueTimerExpiry sect) := indexed _ sect 16 rfl rfl rfl
theorem periodBoundary : Statement (.periodBoundary) := plain _ rfl rfl rfl
theorem tallyDecay : Statement (.tallyDecay) := plain _ rfl rfl rfl
theorem holdExpired (dest : Byte) (point : Word) : Statement (.holdExpired dest point) := plain _ rfl rfl rfl
theorem replyTimeout (seq : Nat) : Statement (.replyTimeout seq) := plain _ rfl rfl rfl
theorem transmission (d : DnPort) : Statement (.transmission d) := plain _ rfl rfl rfl
theorem repeatLaneSend (d : DnPort) : Statement (.repeatLaneSend d) := plain _ rfl rfl rfl
theorem upTransmitStart : Statement (.upTransmitStart) := plain _ rfl rfl rfl
theorem upTransmitEnd : Statement (.upTransmitEnd) := plain _ rfl rfl rfl

end Sys2Proof.Laws.Shape
end

