-- ==== Sys2Proof/Laws/Reports.lean ====
section
/-! SUPPORT. What the consequences of an event leave of the image: the reports, freshness and marks of every point, and, with
nothing held, everything but phases, outputs, notices and the part's own orders. -/

set_option Elab.async false

namespace Sys2Proof.Machine

/-- No report, freshness or change mark of the image changes. -/
def KeepsReports (s t : State) : Prop :=
  ∀ q, (t.point q).report = (s.point q).report ∧ (t.point q).fresh = (s.point q).fresh ∧
    (t.point q).mark = (s.point q).mark

theorem KeepsReports.of_image {s t : State} (h : t.image = s.image) : KeepsReports s t := by
  intro q; simp only [State.point, h, and_self]

theorem KeepsReports.refuse (s : State) (t : PointTel) (r : RefusalReason) : KeepsReports s (State.refuse s t r) := by
  apply KeepsReports.of_image; rw [State.refuse_eq]; rfl

theorem State.offerNotice_image_eq (s : State) (k : NoticeKind) (n p : Option Nat) (c : Cause) : (s.offerNotice k n p c).image = s.image := by
  unfold State.offerNotice; split_ifs <;> rfl

theorem KeepsReports.trans {s t u : State} (h : KeepsReports s t) (g : KeepsReports t u) : KeepsReports s u := fun q =>
  ⟨(g q).1.trans (h q).1, (g q).2.1.trans (h q).2.1, (g q).2.2.trans (h q).2.2⟩

theorem KeepsReports.foldl {α : Type} (f : State → α → State) (hf : ∀ s x, KeepsReports s (f s x)) (l : List α) (s : State) :
    KeepsReports s (l.foldl f s) := by
  induction l generalizing s with
  | nil => exact KeepsReports.of_image rfl
  | cons x rest ih => exact (hf s x).trans (ih _)

theorem KeepsReports.activeFault (s : State) (e : EntryRef) : KeepsReports s (State.activeFault s e) := by
  unfold State.activeFault
  split
  · refine KeepsReports.trans (t := State.offerNotice { s with mode := .failHold, fault := true } .failHold e.sect? e.point? .integrity) (KeepsReports.of_image ?_) ?_
    · rw [State.offerNotice_image_eq]
    · unfold State.emptyHeld
      exact KeepsReports.trans (KeepsReports.of_image (t := State.setHeld _ []) rfl) (KeepsReports.foldl _ (fun s h => KeepsReports.refuse _ _ _) _ _)
  · exact KeepsReports.of_image rfl

theorem KeepsReports.setPoint (s : State) (p : Nat) (v : PointDyn) (h1 : v.report = (s.point p).report) (h2 : v.fresh = (s.point p).fresh) (h3 : v.mark = (s.point p).mark) :
    KeepsReports s (s.setPoint p v) := by
  intro q; rw [State.point_setPoint]; split
  · rename_i h; subst h; exact ⟨h1, h2, h3⟩
  · exact ⟨rfl, rfl, rfl⟩

theorem KeepsReports.charge (s : State) (c : Option BudgetClass) (k : Nat) : KeepsReports s (s.charge c k) := by
  unfold State.charge; split <;> exact KeepsReports.of_image rfl
theorem KeepsReports.admitPoint (s : State) (a : Addressed) (v : Word) : KeepsReports s (s.admitPoint a v) := by
  unfold State.admitPoint; split
  · exact KeepsReports.setPoint _ _ _ rfl rfl rfl
  · exact KeepsReports.setPoint _ _ _ rfl rfl rfl
  · exact KeepsReports.of_image rfl
theorem KeepsReports.admission (s : State) (t : PointTel) (a : Addressed) (row : ScreenRow) (c : Option BudgetClass) : KeepsReports s (State.admitOrder s t a row c) := by
  unfold State.admitOrder
  exact KeepsReports.trans (KeepsReports.trans (KeepsReports.charge _ _ _) (KeepsReports.admitPoint _ _ _)) (KeepsReports.of_image rfl)

theorem KeepsReports.cascading : Cascading KeepsReports where
  refl _ := KeepsReports.of_image rfl
  trans := KeepsReports.trans
  agenda _ _ := KeepsReports.of_image rfl
  draw _ := KeepsReports.of_image rfl
  notice _ _ _ _ _ := KeepsReports.of_image (State.offerNotice_image_eq _ _ _ _ _)
  halt _ _ _ _ := KeepsReports.of_image rfl
  move _ _ _ _ := KeepsReports.of_image rfl
  permitOut _ _ _ := KeepsReports.of_image rfl
  fault := KeepsReports.activeFault
  trip _ _ _ _ := KeepsReports.of_image rfl
  campaign _ _ _ := KeepsReports.of_image rfl
  scan s := scan_respects KeepsReports (fun _ => KeepsReports.of_image rfl) KeepsReports.trans KeepsReports.refuse KeepsReports.admission (fun _ _ _ => KeepsReports.of_image rfl) (fun _ _ => KeepsReports.of_image rfl) KeepsReports.activeFault s

/-- With nothing held, the consequences of an event change neither the image nor the load account, the budget figures, the
refusal capture or what is steady, and nothing comes to be held. -/
def Stands (s t : State) : Prop := s.held = [] → t.held = [] ∧ t.image = s.image ∧ t.load = s.load ∧ t.pledgeSum = s.pledgeSum ∧
  t.remaining = s.remaining ∧ t.unusedReserve = s.unusedReserve ∧ t.capture = s.capture ∧ t.moreRefusals = s.moreRefusals ∧ t.steady = s.steady

theorem Stands.trans {s t u : State} (h : Stands s t) (g : Stands t u) : Stands s u := by
  intro h0; have := h h0; have g' := g this.1
  simp_all

theorem Stands.offerNotice (s : State) (k : NoticeKind) (n p : Option Nat) (c : Cause) : Stands s (s.offerNotice k n p c) := by
  intro h; unfold State.offerNotice; split_ifs <;> exact ⟨h, rfl, rfl, rfl, rfl, rfl, rfl, rfl, rfl⟩

theorem Stands.cascading : Cascading Stands where
  refl s := fun h => ⟨h, rfl, rfl, rfl, rfl, rfl, rfl, rfl, rfl⟩
  trans := Stands.trans
  agenda s l := fun h => ⟨h, rfl, rfl, rfl, rfl, rfl, rfl, rfl, rfl⟩
  draw s := fun h => ⟨h, rfl, rfl, rfl, rfl, rfl, rfl, rfl, rfl⟩
  notice := Stands.offerNotice
  halt s n c _ := fun h => ⟨h, rfl, rfl, rfl, rfl, rfl, rfl, rfl, rfl⟩
  move s n c _ := fun h => ⟨h, rfl, rfl, rfl, rfl, rfl, rfl, rfl, rfl⟩
  permitOut s n c := fun h => ⟨h, rfl, rfl, rfl, rfl, rfl, rfl, rfl, rfl⟩
  fault s e := by
    intro h; rw [State.activeFault_of_empty s e h]; split
    · have := Stands.offerNotice { s with mode := .failHold, fault := true } .failHold e.sect? e.point? .integrity h
      exact this
    · exact ⟨h, rfl, rfl, rfl, rfl, rfl, rfl, rfl, rfl⟩
  trip _ _ _ _ := fun h => ⟨h, rfl, rfl, rfl, rfl, rfl, rfl, rfl, rfl⟩
  campaign _ _ _ := fun h => ⟨h, rfl, rfl, rfl, rfl, rfl, rfl, rfl, rfl⟩
  scan s := by intro h; rw [State.scan_of_empty s h]; exact ⟨h, rfl, rfl, rfl, rfl, rfl, rfl, rfl, rfl⟩

/-! ### Image changes -/

theorem KeepsReports.takeLoad (s : State) (p : Nat) (o n : PointDyn) : KeepsReports s (s.takeLoad p o n) := by
  unfold State.takeLoad
  split
  · exact KeepsReports.of_image rfl
  · refine KeepsReports.trans ?_ (KeepsReports.cascading.checkReads _ _)
    unfold State.loadRises State.loadFalls
    simp only []
    split_ifs <;> exact KeepsReports.of_image rfl

theorem KeepsReports.sectionTakes (p : Nat) (o n : PointDyn) (s : State) (m : Nat) : KeepsReports s (State.sectionTakes p o n s m) := by
  unfold State.sectionTakes
  simp only []
  split
  · refine KeepsReports.trans (KeepsReports.cascading.checkReads s (s.imageReads m)) ?_
    unfold State.takeFlow State.addTasks
    split_ifs <;> exact KeepsReports.of_image rfl
  · exact KeepsReports.cascading.checkReads _ _

theorem KeepsReports.imageChanged (s : State) (p : Nat) (o : PointDyn) : KeepsReports s (s.imageChanged p o) := by
  unfold State.imageChanged
  generalize sectionNumbers = l
  exact KeepsReports.trans (KeepsReports.trans (KeepsReports.takeLoad _ _ _ _) (KeepsReports.foldl _ (fun s m => KeepsReports.sectionTakes _ _ _ _ _) _ _)) (KeepsReports.of_image rfl)

theorem KeepsReports.takeLevel (s : State) (p : Nat) (v : Word) : KeepsReports s (s.takeLevel p v) := by
  unfold State.takeLevel
  exact KeepsReports.trans (KeepsReports.cascading.checkReads _ _) (KeepsReports.of_image rfl)

theorem State.checkReads_of_good (s : State) (l : List EntryRef) (h : ∀ e ∈ l, s.activeBank.entryGood e = true) : s.checkReads l = s := by
  unfold State.checkReads
  rw [List.find?_eq_none.2]
  intro x hx; simp [h x hx]

theorem KeepsReports.loseFlow (p : Nat) (s : State) (m : Nat) : KeepsReports s (State.loseFlow p s m) := by
  unfold State.loseFlow
  split
  · simp only []
    split
    · refine KeepsReports.trans (KeepsReports.cascading.checkReads s [⟨.sections, m⟩]) ?_
      unfold State.takeFlow
      split_ifs <;> exact KeepsReports.of_image rfl
    · exact KeepsReports.cascading.checkReads _ _
  · exact KeepsReports.of_image rfl

theorem KeepsReports.repeatFlow (s : State) (p : Nat) : KeepsReports s (s.repeatFlow p) := by
  unfold State.repeatFlow
  exact KeepsReports.foldl _ (fun s m => KeepsReports.loseFlow p s m) _ _

theorem KeepsReports.imageReport (s : State) (p : Nat) (st : PointStatic) (rs : ReportState) (v : Word) : KeepsReports (s.setPoint p ((s.point p).imaged st rs v s.clock)) (s.imageReport p st rs v) := by
  unfold State.imageReport
  simp only []
  refine KeepsReports.trans ?_ (KeepsReports.takeLevel _ _ _)
  split
  · exact KeepsReports.imageChanged _ _ _
  · exact KeepsReports.repeatFlow _ _

/-- With nothing held, an image change changes nothing more of the image, and of the rest only what the consequences of an
event may change, the load account and the pledges. -/
def StandsButLoad (s t : State) : Prop := s.held = [] → t.held = [] ∧ t.image = s.image ∧ t.remaining = s.remaining ∧ t.unusedReserve = s.unusedReserve ∧ t.capture = s.capture ∧ t.moreRefusals = s.moreRefusals ∧ t.steady = s.steady
theorem StandsButLoad.trans {s t u : State} (h : StandsButLoad s t) (g : StandsButLoad t u) : StandsButLoad s u := by
  intro h0; have := h h0; have g' := g this.1
  simp_all
theorem Stands.butLoad {s t : State} (h : Stands s t) : StandsButLoad s t := fun g => by have := h g; simp_all

theorem Stands.sectionTakes (p : Nat) (o n : PointDyn) (s : State) (m : Nat) : Stands s (State.sectionTakes p o n s m) := by
  unfold State.sectionTakes
  simp only []
  split
  · refine Stands.trans (Stands.cascading.checkReads s (s.imageReads m)) ?_
    unfold State.takeFlow State.addTasks
    split_ifs <;> exact fun h => ⟨h, rfl, rfl, rfl, rfl, rfl, rfl, rfl, rfl⟩
  · exact Stands.cascading.checkReads _ _

theorem Stands.foldl {α : Type} (f : State → α → State) (hf : ∀ s x, Stands s (f s x)) (l : List α) (s : State) :
    Stands s (l.foldl f s) := by
  induction l generalizing s with
  | nil => exact fun h => ⟨h, rfl, rfl, rfl, rfl, rfl, rfl, rfl, rfl⟩
  | cons x rest ih => exact (hf s x).trans (ih _)

theorem StandsButLoad.takeLoad (s : State) (p : Nat) (o n : PointDyn) : StandsButLoad s (s.takeLoad p o n) := by
  unfold State.takeLoad
  split
  · exact fun h => ⟨h, rfl, rfl, rfl, rfl, rfl, rfl⟩
  · refine StandsButLoad.trans ?_ (Stands.cascading.checkReads _ _).butLoad
    unfold State.loadRises State.loadFalls
    simp only []
    split_ifs <;> exact fun h => ⟨h, rfl, rfl, rfl, rfl, rfl, rfl⟩

theorem StandsButLoad.imageChanged (s : State) (p : Nat) (o : PointDyn) : StandsButLoad s (s.imageChanged p o) := by
  unfold State.imageChanged
  generalize sectionNumbers = l
  exact StandsButLoad.trans (StandsButLoad.trans (StandsButLoad.takeLoad _ _ _ _) (Stands.foldl _ (fun s m => Stands.sectionTakes _ _ _ _ _) _ _).butLoad) (fun h => ⟨h, rfl, rfl, rfl, rfl, rfl, rfl⟩)

theorem Stands.takeLevel (s : State) (p : Nat) (v : Word) : Stands s (s.takeLevel p v) := by
  unfold State.takeLevel
  exact Stands.trans (Stands.cascading.checkReads _ _) (fun h => ⟨h, rfl, rfl, rfl, rfl, rfl, rfl, rfl, rfl⟩)

theorem State.takeLoad_load (s : State) (p : Nat) (o n : PointDyn) (h : s.held = []) : (s.takeLoad p o n).load = 
   if (s.activeBank.pointStatic p).content.cls = .drive ∧ o.isOn = false ∧ n.isOn = true then s.load + (s.activeBank.pointStatic p).content.ratedLoad
   else if (s.activeBank.pointStatic p).content.cls = .drive ∧ o.isOn = true ∧ n.isOn = false then s.load - (s.activeBank.pointStatic p).content.ratedLoad
   else s.load := by
  unfold State.takeLoad State.countsInLoad
  have hc : ∀ u : State, u.held = [] → (u.checkReads [⟨.points, p⟩]).load = u.load := fun u hu => (Stands.cascading.checkReads u _ hu).2.2.1
  have hr : (s.loadRises p).load = s.load + (s.activeBank.pointStatic p).content.ratedLoad ∧ (s.loadRises p).held = [] := by
    unfold State.loadRises; simp only []; split_ifs <;> exact ⟨rfl, h⟩
  have hf : (s.loadFalls p).load = s.load - (s.activeBank.pointStatic p).content.ratedLoad ∧ (s.loadFalls p).held = [] := by
    unfold State.loadFalls; simp only []; split_ifs <;> exact ⟨rfl, h⟩
  cases hcls : (s.activeBank.pointStatic p).content.cls <;> cases ho : o.isOn <;> cases hn : n.isOn <;> simp [hc, hr, hf]

theorem State.imageChanged_load (s : State) (p : Nat) (o : PointDyn) (h : s.held = []) : (s.imageChanged p o).load = (s.takeLoad p o (s.point p)).load := by
  unfold State.imageChanged
  generalize sectionNumbers = l
  exact (Stands.foldl _ (fun s m => Stands.sectionTakes _ _ _ _ _) _ _ ((StandsButLoad.takeLoad _ _ _ _ h).1)).2.2.1

theorem State.readPoint_static {s : State} {p : Nat} {st : PointStatic} (h : s.readPoint p = some st) : (s.activeBank.pointStatic p).good = true ∧ (s.activeBank.pointStatic p).content = st := by
  unfold State.readPoint Stored.checked at h
  split at h
  · rename_i hg; exact ⟨hg, by simpa using h⟩
  · cases h

end Sys2Proof.Machine
end

