-- ==== Sys2Proof/Laws/Swap.lean ====
section
/-! SUPPORT. What a swap takes of the old bank: the stored content of an entry that reads good, and of a damaged record that a
section whose dynamic state shows it was defined. -/
namespace Sys2Proof.Machine

theorem State.sameClass_of_good (s : State) (old : Bank) (p : Nat) (h : (old.pointStatic p).good = true) :
    s.sameClass old p = ((old.pointStatic p).content.cls == (s.activeBank.pointStatic p).content.cls) := by
  simp [State.sameClass, Stored.checked, h]

theorem State.wasDefined_of_good (s : State) (old : Bank) (n : Nat) (h : (old.sectionRec n).good = true) :
    s.wasDefined old n = old.isDefined n := by
  simp [State.wasDefined, Stored.checked, h, Bank.isDefined, Bank.sec]

theorem State.sameFlow_of_good (s : State) (old : Bank) (n : Nat) (h : (old.sectionRec n).good = true) :
    s.sameFlow old n = ((old.sec n).flowPoints == (s.activeBank.sec n).flowPoints) := by
  simp [State.sameFlow, Stored.checked, h, Bank.sec]

theorem State.showsDefined_iff (s : State) (n : Nat) :
    s.showsDefined n = true ↔ s.phaseOf n ≠ .idle ∨ (s.sect n).mark = true ∨ (s.sect n).overdue = true := by
  simp [State.showsDefined, or_assoc]

theorem State.wasDefined_of_shown (s : State) (old : Bank) (n : Nat) (h : (old.sectionRec n).good = false)
    (hs : s.showsDefined n = true) : s.wasDefined old n = true := by
  simp [State.wasDefined, Stored.checked, h, hs]

/-- A section that the active bank does not define has its change mark clear after the carry, if the old record reads good and
an undefined section had it clear, or if the old record is damaged (R22, R23, R46). -/
theorem State.carriedSection_mark (s : State) (old : Bank) (n : Nat) (hn : s.activeBank.isDefined n = false)
    (h : (old.sectionRec n).good = true → old.isDefined n = false → (s.sect n).mark = false) :
    (s.carriedSection old n).mark = false := by
  cases hg : (old.sectionRec n).good with
  | true =>
    cases hd : old.isDefined n <;> simp [State.carriedSection, State.wasDefined_of_good _ _ _ hg, hd, hn]
    exact h hg hd
  | false =>
    cases hm : (s.sect n).mark with
    | true =>
      have hs : s.showsDefined n = true := (s.showsDefined_iff n).2 (.inr (.inl hm))
      simp [State.carriedSection, State.wasDefined_of_shown _ _ _ hg hs, hn]
    | false => cases hw : s.wasDefined old n <;> simp [State.carriedSection, hw, hn, hm]

end Sys2Proof.Machine
end

