-- ==== Sys2Proof/Laws/Tick.lean ====
section
/-! SUPPORT. What a guarded read and the freeing of a DN line can do. -/

set_option Elab.async false

namespace Sys2Proof.Machine

/-- A guarded action runs where its entry reads good. -/
theorem State.ifReadable_good (s : State) (e : EntryRef) (f : State → State) (h : s.activeBank.entryGood e = true) :
    s.ifReadable e f = f s := by
  simp [State.ifReadable, h]

/-- At a damaged entry a guarded action changes nothing, and the fault is taken (R165). -/
theorem State.ifReadable_damaged (s : State) (e : EntryRef) (f : State → State) (h : s.activeBank.entryGood e = false) :
    s.ifReadable e f = s.activeFault e := by
  simp [State.ifReadable, h]

/-- Freeing a DN line changes the ports and the count of free values alone. -/
theorem State.freeLine_frame (s : State) (d : DnPort) :
    s.freeLine d = { s with ports := (s.freeLine d).ports, draws := (s.freeLine d).draws } := by
  unfold State.freeLine
  split
  · rfl
  · split <;> rfl

/-- Freeing a DN line clears no line but its own, and nothing else of a port. -/
theorem State.freeLine_port (s : State) (d : DnPort) (q : PortId) :
    ∃ l, (l = (s.port q).line ∨ (l = none ∧ q = .dn d)) ∧ (s.freeLine d).port q = { s.port q with line := l } := by
  unfold State.freeLine
  split
  · exact ⟨_, .inl rfl, rfl⟩
  · split
    · by_cases h : q = .dn d
      · subst h
        exact ⟨none, .inr ⟨rfl, rfl⟩, State.port_setPort_same _ _ _⟩
      · exact ⟨_, .inl rfl, State.port_setPort_other _ _ h⟩
    · exact ⟨_, .inl rfl, rfl⟩

/-- With its line busy a DN transmitter takes no order (R163). -/
theorem State.transmitNext_busy (s : State) (d : DnPort) (h : s.lineFree d = false) : s.transmitNext d = s := by
  simp [State.transmitNext, h]

/-- With its line busy a DN transmitter takes no copy (R163). -/
theorem State.repeatNext_busy (s : State) (d : DnPort) (h : s.lineFree d = false) : s.repeatNext d = s := by
  simp [State.repeatNext, h]

end Sys2Proof.Machine
end

