-- ==== Sys2Proof/Tests/Slice0.lean ====
section
/-! SUPPORT. The model's own tests: ill-formed commands refused, values worked out by hand from the spec, and for every
statement with hypotheses a state that meets them. -/

set_option Elab.async false

namespace Sys2Proof.Tests
open Sys2Proof Sys2Proof.Machine

/-! ### Ill-formed commands (R2, R22, R155, section 11.6) -/

def longBody : MgmtTel := ⟨240, 1, 0, 1, List.replicate 241 0⟩
def fullBody : MgmtTel := ⟨240, 1, 0, 1, List.replicate 240 0⟩
theorem test_wf_transparentRepeat : Instr.wf (.transparentRepeat (.mgmt .request longBody)) = false := by decide +kernel
theorem test_wf_transparentForward : Instr.wf (.transparentForward .dn0 (.mgmt .response longBody)) = false := by decide +kernel
theorem test_wf_telegramDiscarded : Instr.wf (.telegramDiscarded .up (.mgmt .notice longBody)) = false := by decide +kernel
theorem test_wf_mgmtRequestIntake : Instr.wf (.mgmtRequestIntake longBody) = false := by decide +kernel
theorem test_wf_full_body : Instr.wf (.mgmtRequestIntake fullBody) = true := by decide +kernel
theorem test_wf_permit_line : Instr.wf (.permitInChange 4 true) = false := by decide +kernel
theorem test_wf_point : Instr.wf (.staleTimerExpiry 2048) = false := by decide +kernel
theorem test_wf_confirmation : Instr.wf (.confirmationTimerExpiry 16) = false := by decide +kernel
theorem test_wf_overdue : Instr.wf (.overdueTimerExpiry 16) = false := by decide +kernel

/-! ### A small plant -/

def w0 : Window := ⟨true, .dn0, 10, 0, 1023, 0, false, 50, 255⟩
/-- A PROTECTED window. -/
def w1 : Window := ⟨true, .dn1, 11, 0, 9, 1024, true, 50, 255⟩
/-- A window whose port is not UP. -/
def w2 : Window := ⟨true, .dn2, 12, 0, 9, 1100, false, 50, 255⟩
def measure : PointStatic := ⟨.measure, none, 0, 0, 0, 2⟩
def drive : PointStatic := ⟨.drive, some 0, 100, 5, 3, 0⟩
def valve : PointStatic := ⟨.valve, some 0, 0, 0, 0, 0⟩
def setpoint : PointStatic := ⟨.setpoint, some 0, 0, 0, 0, 0⟩
def gateset : PointStatic := ⟨.gateset, some 0, 0, 0, 0, 0⟩
def utilityDrive : PointStatic := ⟨.drive, some 1, 0, 7, 0, 0⟩
def sec0 : SectionRec := { SectionRec.empty with defined := true, flowPoints := [⟨0, 5⟩], permitIn := some 0, drainLimit := 1 }
def sec1 : SectionRec :=
  { SectionRec.empty with defined := true, role := .utility, permitOut := some 1, tripActions := [⟨2, .closePoint, 9⟩] }
def okRow : ScreenRow := ⟨.pass, none, 0x8000, 0x7FFF, 0, 0xFFFF, 3⟩
/-- Condition set 0: the measure point 0 GOOD and at least 3. -/
def set0 : ConditionSet := ⟨true, .all, [⟨0, .oneOf [.good], .atLeast, 3, 0⟩]⟩
def plantRows : Store (Stored ScreenRow) :=
  [(0, ⟨okRow, true⟩), (2, ⟨okRow, true⟩), (4, ⟨{ okRow with low := 0xFF9C, high := 100, ramp := 60 }, true⟩),
   (5, ⟨{ okRow with gates := 0x00FF }, true⟩), (6, ⟨okRow, true⟩), (7, ⟨{ okRow with condSet := some 0 }, true⟩),
   (12, ⟨okRow, true⟩), (14, ⟨{ okRow with condSet := some 0, holdLimit := 0 }, true⟩)]
def plant : Bank where
  windows := [(0, ⟨w0, true⟩), (1, ⟨w1, true⟩), (2, ⟨w2, true⟩)]
  points := [(0, ⟨measure, true⟩), (1, ⟨drive, true⟩), (2, ⟨valve, true⟩), (3, ⟨setpoint, true⟩), (4, ⟨gateset, true⟩),
    (5, ⟨utilityDrive, true⟩)]
  sections := [(0, ⟨sec0, true⟩), (1, ⟨sec1, true⟩)]
  sets := [(0, ⟨set0, true⟩)]
  rows := plantRows
  budget := ⟨⟨100, 30, 10, 500, 60⟩, true⟩
def portUp : Port := { Port.clear with state := .up, signal := true }
/-- The part in SCREENING with the plant in bank A, UP, DN0 and DN1 up, and three points reported. -/
def live : State :=
  { State.reset with
    mode := .screening
    active := some .a
    standby := .b
    bankA := plant
    bankB := plant
    clock := 1000
    ports := [(0, portUp), (1, portUp), (2, portUp)]
    image := [(0, ⟨some ⟨.good, 40, 990⟩, true, false, 0, none⟩), (3, ⟨some ⟨.auto, 10, 990⟩, true, false, 0, none⟩),
      (4, ⟨some ⟨.gatesGood, 0x0F0F, 990⟩, true, false, 0, none⟩)]
    remaining := 30
    unusedReserve := 10
    periodTimer := some ⟨950, 100⟩
    tallyTimer := some ⟨950, 60⟩ }
def failed : State := { live with mode := .failHold, fault := true }
/-- The live part on another bank. -/
def onBank (b : Bank) : State := { live with bankA := b }
/-- The plant with the static part of point 1 damaged. -/
def damaged : Bank := { plant with points := [(0, ⟨measure, true⟩), (1, ⟨drive, false⟩)] }
/-- The plant with its first window damaged. -/
def windowless : Bank := { plant with windows := [(0, ⟨w0, false⟩)] }
/-- The plant with the record of section 0, its START row in IDLE, or condition set 0 damaged. -/
def sectionless : Bank := { plant with sections := [(0, ⟨sec0, false⟩), (1, ⟨sec1, true⟩)] }
def rowless : Bank := { plant with rows := [(0, ⟨okRow, false⟩)] }
def setless : Bank := { plant with sets := [(0, ⟨set0, false⟩)] }
/-- Section 0 trips by condition set 0, and the utility section 1 feeds it. -/
def tripBank : Bank :=
  { plant with sections := [(0, ⟨{ sec0 with tripSet := some 0 }, true⟩), (1, ⟨{ sec1 with feeds := [0] }, true⟩)] }
/-- The plant with its budget record damaged. -/
def budgetless : Bank := { plant with budget := ⟨BudgetRec.empty, false⟩ }
def inPhase (s : State) (n : Nat) (p : Phase) : State :=
  s.setSect n ⟨p, 900, if p = .halted then some .trip else none, .notCounting, false, false⟩
def order (code : Byte) (point : Word) (v : Word) : PointTel := ⟨10, 1, 7, point, code, 0, v⟩
def filler (k : EntryPart) (d : DnPort) (l : LaneState) (n : Nat) : Entry :=
  ⟨n, k, .supervisory 9, 99, 500, 0, .stop, 0, none, d, l, 50, none, false⟩
def crowd (k : EntryPart) (d : DnPort) (l : LaneState) (n : Nat) : List Entry := (List.range n).map (filler k d l)
def heldFor (p : Nat) : HeldRec := ⟨⟨98, 1, 3, 4, 0, 0, 0⟩, some p, 990, 1020, .condition, none⟩
def answers (n : Nat) : List UpItem := List.replicate n ⟨.answer (.point .reply (order 0 0 0)), false⟩
def indebted (n : Nat) : State := { live with upQueue := answers n }

theorem read_law {α : Type} (P : α → Prop) (d : α) (hd : P d) (m : Store α) (h : ∀ e ∈ m, P e.2) (k : Nat) :
    P (Store.read d m k) := by
  unfold Store.read
  induction m with
  | nil => exact hd
  | cons e rest ih =>
    simp only [Store.find]
    split
    · exact h e (by simp)
    · exact ih (fun x hx => h x (by simp [hx]))

/-- Every entry of a bank reads good where every listed one does. -/
theorem good_law (b : Bank) (hw : ∀ e ∈ b.windows, e.2.good = true) (hp : ∀ e ∈ b.points, e.2.good = true)
    (hc : ∀ e ∈ b.sections, e.2.good = true) (hs : ∀ e ∈ b.sets, e.2.good = true) (hr : ∀ e ∈ b.rows, e.2.good = true)
    (hb : b.budget.good = true) : ∀ e, b.entryGood e = true := by
  rintro ⟨t, i⟩
  cases t
  · exact read_law (fun x : Stored Window => x.good = true) _ rfl _ hw i
  · exact read_law (fun x : Stored PointStatic => x.good = true) _ rfl _ hp i
  · exact read_law (fun x : Stored SectionRec => x.good = true) _ rfl _ hc i
  · exact read_law (fun x : Stored ConditionSet => x.good = true) _ rfl _ hs i
  · exact read_law (fun x : Stored ScreenRow => x.good = true) _ rfl _ hr i
  · exact hb

theorem plant_good : ∀ e, plant.entryGood e = true := by
  apply good_law <;> decide
theorem trip_good : ∀ e, tripBank.entryGood e = true := by
  apply good_law <;> decide

theorem live_good (s : State) (h : s.activeBank = plant) : ∀ e, s.activeBank.entryGood e = true := by
  rw [h]; exact plant_good

/-! ### The step and the queue -/

def waiting : State := { live with pending := [.tallyDecay, .periodBoundary] }
theorem witness_StepTakesTheFrontCommand : waiting.pending = .tallyDecay :: [.periodBoundary] := rfl

theorem witness_AMillisecondPassesWhenNothingWaits :
    (live.pending = [] ∧ live.inReset = false ∧ live.subMs + 1 < 100) ∧
    (({ live with subMs := 98 } : State).pending = [] ∧ ({ live with subMs := 98 } : State).subMs + 1 < 100) ∧
    (({ live with subMs := 99 } : State).pending = [] ∧ ¬ ({ live with subMs := 99 } : State).subMs + 1 < 100) ∧
    (({ live with resetLine := true } : State).pending = [] ∧ ({ live with resetLine := true } : State).inReset = true) := by
  decide
/-- Timers at their limits: the stale limit of point 0, the period, and the drain limit of section 0. -/
def dueState : State := { live.setSect 0 ⟨.draining, 400, none, .counting 990, false, false⟩ with clock := 3540 }
theorem test_due_now :
    dueNow dueState (.staleTimerExpiry 0) ∧ ¬ dueNow { dueState with clock := 3539 } (.staleTimerExpiry 0) ∧
    dueNow dueState .periodBoundary ∧ dueNow dueState (.confirmationTimerExpiry 0) ∧ dueNow dueState (.overdueTimerExpiry 0) := by
  refine ⟨⟨by decide +kernel, ⟨.good, 40, 990⟩, 0, by decide +kernel, ⟨by decide, by decide +kernel, ?_⟩, by decide +kernel⟩,
    ?_, ⟨⟨950, 100⟩, rfl, by decide⟩, ⟨by decide, 990, by decide +kernel, by decide +kernel⟩, by decide, ?_, ?_, ?_⟩
  · intro j hj; omega
  · rintro ⟨_, rep, i, hr, ⟨hi, hh, hw⟩, hd⟩
    have h1 : ({ dueState with clock := 3539 } : State).point 0 = ⟨some ⟨.good, 40, 990⟩, true, false, 0, none⟩ := by
      decide +kernel
    rw [h1] at hr
    cases hr
    rcases Nat.eq_zero_or_pos i with rfl | h0
    · exact absurd hd (by decide +kernel)
    · exact absurd (hw 0 h0) (by decide +kernel)
  all_goals decide +kernel

/-- The state a command leaves. -/
def after (c : Instr) (s : State) : State :=
  match exec c s with
  | .next t => t
  | _ => s

/-! ### Orders -/

theorem rest (s : State) (h : s.inReset = false ∧ s.agenda = []) : s.atRest := h
theorem ready (s : State) (p : PortId) (h : s.inReset = false ∧ s.agenda = [] ∧ (s.port p).state = .up) :
    s.portReady p := ⟨⟨h.1, h.2.1⟩, h.2.2⟩
theorem banked (s : State) (h : s.mode ≠ .transparent) : s.banked := h
theorem turn (s : State) (r : MgmtTel) (l : List MgmtTel)
    (h : s.inReset = false ∧ s.agenda = [] ∧ s.swapCheck = none ∧ s.requests = r :: l) : s.turnOf r l :=
  ⟨⟨h.1, h.2.1⟩, h.2.2⟩
theorem unheld (s : State) (p : Nat) (h : ∀ x ∈ s.held, x.point ≠ some p) : s.noneHeld p := h
theorem screens (s : State) (o : PointTel) (h : s.inReset = false ∧ s.agenda = [] ∧ (s.port .up).state = .up ∧
    s.mode ≠ .transparent ∧ o.dest ≠ s.station ∧ s.debt < 120) : s.Screens o :=
  ⟨ready _ _ ⟨h.1, h.2.1, h.2.2.1⟩, h.2.2.2.1, h.2.2.2.2.1, h.2.2.2.2.2⟩
theorem handed (s : State) (o : PointTel) (w : Window) (st : PointStatic) (a : Action) (i : Nat)
    (h : o.dest ≠ 255 ∧ s.covering o.dest o.point = .window i w ∧ (s.port (.dn w.port)).state = .up ∧
      w.guarded = false ∧ s.readPoint (w.logicalOf o.point.toNat) = some st ∧ Action.ofCode o.code = some a ∧
      st.cls.takes a = true) : s.HandsOn o w st a :=
  ⟨h.1, ⟨i, h.2.1⟩, h.2.2.1, h.2.2.2.1, h.2.2.2.2.1, h.2.2.2.2.2.1, h.2.2.2.2.2.2⟩
theorem passes (s : State) (o : PointTel) (p : Nat) (st : PointStatic) (a : Action) (n : Nat) (r : SectionRec)
    (row : ScreenRow) (h : s.mode = .screening ∧
      (∀ e ∈ s.entries, ¬ (s.entrySource e = o.src ∧ e.dest = o.dest ∧ e.tag = o.tag ∧ e.point = o.point)) ∧
      st.sect = some n ∧ s.readSection n = some r ∧ s.readRow (rowIndex r.profile (s.phaseOf n) a) = some row ∧
      row.base = .pass ∧ (∀ e ∈ s.optSetReads row.condSet, s.activeBank.entryGood e = true) ∧
      s.setHoldsOr true row.condSet = true ∧ ∀ e ∈ s.entries, ¬ (e.part = .general ∧ e.logical = some p)) :
    s.RowPasses o p st a n r row :=
  ⟨h.1, h.2.1, h.2.2.1, h.2.2.2.1, h.2.2.2.2.1, h.2.2.2.2.2.1, h.2.2.2.2.2.2.1, h.2.2.2.2.2.2.2.1,
    h.2.2.2.2.2.2.2.2⟩

theorem witness_IntakeUnderTheAnswerDebtLimit :
    ((indebted 120).portReady .up ∧ (indebted 120).banked ∧ (order 0 1 0).dest ≠ (indebted 120).station ∧
      120 ≤ (indebted 120).debt) ∧
    ((indebted 119).portReady .up ∧ fullBody.dest = (indebted 119).station ∧ (indebted 119).debt < 120) ∧
    ((indebted 120).portReady .up ∧ fullBody.dest = (indebted 120).station ∧ 120 ≤ (indebted 120).debt) :=
  ⟨⟨ready _ _ (by decide +kernel), banked _ (by decide), by decide, by decide +kernel⟩,
   ⟨ready _ _ (by decide +kernel), by decide, by decide +kernel⟩,
   ⟨ready _ _ (by decide +kernel), by decide, by decide +kernel⟩⟩

/-- Priority orders: `q` in the lane of DN0 and 8 SENT on DN1. -/
def priorities (q : Nat) : State :=
  { live with entries := crowd .priority .dn0 .queued q ++ crowd .priority .dn1 (.sent 0) 8 }
/-- General orders: `q` in the lane of DN0 and 32 SENT on DN1. -/
def generals (q : Nat) : State :=
  { live with entries := crowd .general .dn0 .queued q ++ crowd .general .dn1 (.sent 0) 32, load := 400 }

theorem witness_StopAndCloseTakeThePriorityPath :
    ((priorities 7).Screens (order 1 1 0) ∧ (priorities 7).HandsOn (order 1 1 0) w0 drive .stop ∧
      (priorities 7).noneHeld 1 ∧ (priorities 7).partCount .priority < 16 ∧
      ((priorities 7).lane .dn0 .priority).length < 8) ∧
    ((priorities 8).Screens (order 3 2 0) ∧ (priorities 8).HandsOn (order 3 2 0) w0 valve .closePoint ∧
      (priorities 8).noneHeld 2 ∧ (16 ≤ (priorities 8).partCount .priority ∨ 8 ≤ ((priorities 8).lane .dn0 .priority).length)) :=
  ⟨⟨screens _ _ (by decide +kernel), handed _ _ _ _ _ 0 (by decide +kernel), unheld _ _ (by decide), by decide +kernel⟩,
   ⟨screens _ _ (by decide +kernel), handed _ _ _ _ _ 0 (by decide +kernel), unheld _ _ (by decide), by decide +kernel⟩⟩

/-- 15 general orders in the lane, 47 in all; the load and the budget at their limits. -/
def edge : State := { generals 15 with remaining := 15 }
theorem witness_AdmittedStartChargesPledgesAndCounts :
    (edge.Screens (order 0 1 0) ∧ edge.HandsOn (order 0 1 0) w0 drive .start ∧ edge.noneHeld 1 ∧
      edge.RowPasses (order 0 1 0) 1 drive .start 0 sec0 okRow ∧ (edge.point 1).tally < drive.startLimit ∧
      edge.readBudget = some plant.budget.content ∧ edge.load + edge.pledgeSum + drive.ratedLoad = 500 ∧
      sec0.role ≠ .utility ∧ drive.startCost + edge.unusedReserve = edge.remaining ∧ edge.held = [] ∧
      edge.partCount .general = 47 ∧ (edge.lane .dn0 .general).length = 15) ∧
    (live.HandsOn (order 0 5 0) w0 utilityDrive .start ∧ live.RowPasses (order 0 5 0) 5 utilityDrive .start 1 sec1 okRow ∧
      utilityDrive.startLimit = 0 ∧ sec1.role = .utility ∧ utilityDrive.startCost ≤ live.remaining) :=
  ⟨⟨screens _ _ (by decide +kernel), handed _ _ _ _ _ 0 (by decide +kernel), unheld _ _ (by decide),
    passes _ _ _ _ _ _ _ _ (by decide +kernel), by decide +kernel⟩,
   ⟨handed _ _ _ _ _ 0 (by decide +kernel), passes _ _ _ _ _ _ _ _ (by decide +kernel), by decide +kernel⟩⟩

def setRow : ScreenRow := { okRow with low := 0xFF9C, high := 100, ramp := 60 }
theorem witness_AdmittedSetIsRampedThenBanded :
    (generals 15).Screens (order 4 3 200) ∧ (generals 15).HandsOn (order 4 3 200) w0 setpoint .set ∧
    (generals 15).noneHeld 3 ∧ (generals 15).RowPasses (order 4 3 200) 3 setpoint .set 0 sec0 setRow ∧
    (generals 15).partCount .general < 48 ∧ ((generals 15).lane .dn0 .general).length < 16 :=
  ⟨screens _ _ (by decide +kernel), handed _ _ _ _ _ 0 (by decide +kernel), unheld _ _ (by decide),
   passes _ _ _ _ _ _ _ _ (by decide +kernel), by decide +kernel⟩

/-- The plant in WARMING with the gate set STALE, and the same in IDLE. -/
def staleGates (p : Phase) : State := inPhase { live with image := [] } 0 p
def gateRow : ScreenRow := { okRow with gates := 0x00FF }
theorem witness_AdmittedGatesMoveOnlyReleasedGates :
    (live.Screens (order 5 4 0xAAAA) ∧ live.HandsOn (order 5 4 0xAAAA) w0 gateset .gates ∧ live.noneHeld 4 ∧
      live.RowPasses (order 5 4 0xAAAA) 4 gateset .gates 0 sec0 gateRow ∧ live.partCount .general < 48 ∧
      (live.lane .dn0 .general).length < 16 ∧ (live.point 4).fresh = true ∧
      (live.point 4).report = some ⟨.gatesGood, 0x0F0F, 990⟩) ∧
    ((staleGates .warming).Screens (order 5 4 1) ∧ (staleGates .warming).HandsOn (order 5 4 1) w0 gateset .gates ∧
      (staleGates .warming).noneHeld 4 ∧ (staleGates .warming).RowPasses (order 5 4 1) 4 gateset .gates 0 sec0 okRow ∧
      ((staleGates .warming).point 4).fresh = false ∧ ∀ i < 16, okRow.gates.getLsbD i = true) ∧
    ((staleGates .idle).HandsOn (order 5 4 1) w0 gateset .gates ∧
      (staleGates .idle).RowPasses (order 5 4 1) 4 gateset .gates 0 sec0 gateRow ∧
      ((staleGates .idle).point 4).fresh = false ∧ ∃ i < 16, gateRow.gates.getLsbD i = false) :=
  ⟨⟨screens _ _ (by decide +kernel), handed _ _ _ _ _ 0 (by decide +kernel), unheld _ _ (by decide),
    passes _ _ _ _ _ _ _ _ (by decide +kernel), by decide +kernel⟩,
   ⟨screens _ _ (by decide +kernel), handed _ _ _ _ _ 0 (by decide +kernel), unheld _ _ (by decide),
    passes _ _ _ _ _ _ _ _ (by decide +kernel), by decide +kernel⟩,
   ⟨handed _ _ _ _ _ 0 (by decide +kernel), passes _ _ _ _ _ _ _ _ (by decide +kernel), by decide +kernel⟩⟩

theorem witness_AdmittedOpenAndResetFaultCarryZero :
    (live.Screens (order 2 2 9) ∧ live.HandsOn (order 2 2 9) w0 valve .openPoint ∧ live.noneHeld 2 ∧
      live.RowPasses (order 2 2 9) 2 valve .openPoint 0 sec0 okRow ∧ live.partCount .general < 48 ∧
      (live.lane .dn0 .general).length < 16) ∧
    (live.HandsOn (order 6 4 9) w0 gateset .resetFault ∧ live.noneHeld 4 ∧
      live.RowPasses (order 6 4 9) 4 gateset .resetFault 0 sec0 okRow) :=
  ⟨⟨screens _ _ (by decide +kernel), handed _ _ _ _ _ 0 (by decide +kernel), unheld _ _ (by decide),
    passes _ _ _ _ _ _ _ _ (by decide +kernel), by decide +kernel⟩,
   ⟨handed _ _ _ _ _ 0 (by decide +kernel), unheld _ _ (by decide), passes _ _ _ _ _ _ _ _ (by decide +kernel)⟩⟩

/-- `n` orders held for points 100 and on, no condition set holding. -/
def holding (n : Nat) (p : Phase) : State :=
  inPhase { live with held := (List.range n).map (fun i => heldFor (100 + i)), image := [] } 0 p
theorem witness_HeldOrderJoinsTheTail :
    (∀ n ∈ [31, 32], (holding n .warming).Screens (order 0 1 0) ∧ (holding n .warming).HandsOn (order 0 1 0) w0 drive .start ∧
      (holding n .warming).noneHeld 1 ∧
      (holding n .warming).judgeOrder (order 0 1 0) ⟨1, w0, drive, .start⟩ (holding n .warming).held =
        .hold .condition 3 (some .general) ∧ (holding n .warming).held.length = n) ∧
    ((holding 0 .ready).Screens (order 0 1 0) ∧ (holding 0 .ready).HandsOn (order 0 1 0) w0 drive .start ∧
      (holding 0 .ready).judgeOrder (order 0 1 0) ⟨1, w0, drive, .start⟩ (holding 0 .ready).held =
        .hold .condition 0 (some .general)) := by
  refine ⟨fun n hn => ?_, screens _ _ (by decide +kernel), handed _ _ _ _ _ 0 (by decide +kernel), by decide +kernel⟩
  fin_cases hn <;>
    exact ⟨screens _ _ (by decide +kernel), handed _ _ _ _ _ 0 (by decide +kernel), unheld _ _ (by decide +kernel),
      by decide +kernel⟩

theorem witness_RefusedOrderIsAnsweredAndCaptured :
    (live.Screens { order 0 1 0 with dest := 255 } ∧
      live.judgeDestination { order 0 1 0 with dest := 255 } = .refused .broadcast none) ∧
    (failed.Screens (order 0 1 0) ∧ failed.HandsOn (order 0 1 0) w0 drive .start ∧ failed.noneHeld 1 ∧
      failed.judgeOrder (order 0 1 0) ⟨1, w0, drive, .start⟩ failed.held = .refuse .failHold none) :=
  ⟨⟨screens _ _ (by decide +kernel), by decide +kernel⟩,
   ⟨screens _ _ (by decide +kernel), handed _ _ _ _ _ 0 (by decide +kernel), unheld _ _ (by decide), by decide +kernel⟩⟩

def queued3 : State := { live with held := [heldFor 7, heldFor 1, heldFor 8] }
def superseding (s : State) : State := { s with held := [heldFor 7, heldFor 1, heldFor 8] }
/-- The state with the order held for point 1 refused SUPERSEDED and removed. -/
def removed (s : State) : State :=
  { (superseding s).refusedWith (heldFor 1).tel .superseded with held := [heldFor 7] ++ [heldFor 8] }
theorem witness_NewOrderSupersedesTheHeldOrder :
    (queued3.Screens (order 1 1 0) ∧ queued3.HandsOn (order 1 1 0) w0 drive .stop ∧
      queued3.held = [heldFor 7] ++ heldFor 1 :: [heldFor 8] ∧ (heldFor 1).point = some 1 ∧
      (∀ x ∈ [heldFor 7] ++ [heldFor 8], x.point ≠ some 1) ∧ queued3.partCount .priority < 16 ∧
      (queued3.lane .dn0 .priority).length < 8) ∧
    ((superseding (priorities 8)).Screens (order 1 1 0) ∧ (superseding (priorities 8)).HandsOn (order 1 1 0) w0 drive .stop ∧
      8 ≤ ((superseding (priorities 8)).lane .dn0 .priority).length) ∧
    (∀ s ∈ [superseding live, superseding (holding 0 .warming), superseding (holding 0 .ready),
        superseding (live.setPoint 1 { PointDyn.clear with tally := 3 }), superseding (onBank rowless)],
      s.Screens (order 0 1 0) ∧ s.HandsOn (order 0 1 0) w0 drive .start ∧
        s.held = [heldFor 7] ++ heldFor 1 :: [heldFor 8]) ∧
    (removed live).judgeOrder (order 0 1 0) ⟨1, w0, drive, .start⟩ (removed live).held = .admission okRow (some .general) ∧
    (removed (holding 0 .warming)).judgeOrder (order 0 1 0) ⟨1, w0, drive, .start⟩ (removed live).held =
      .hold .condition 3 (some .general) ∧
    (removed (holding 0 .ready)).judgeOrder (order 0 1 0) ⟨1, w0, drive, .start⟩ (removed live).held =
      .hold .condition 0 (some .general) ∧
    (removed (live.setPoint 1 { PointDyn.clear with tally := 3 })).judgeOrder (order 0 1 0) ⟨1, w0, drive, .start⟩
      (removed live).held = .refuse .startLimit none ∧
    (removed (onBank rowless)).judgeOrder (order 0 1 0) ⟨1, w0, drive, .start⟩ (removed live).held =
      .refuse .failHold (some ⟨.rows, 0⟩) := by
  refine ⟨⟨screens _ _ (by decide +kernel), handed _ _ _ _ _ 0 (by decide +kernel), by decide +kernel⟩,
    ⟨screens _ _ (by decide +kernel), handed _ _ _ _ _ 0 (by decide +kernel), by decide +kernel⟩, fun s hs => ?_,
    by decide +kernel⟩
  fin_cases hs <;> exact ⟨screens _ _ (by decide +kernel), handed _ _ _ _ _ 0 (by decide +kernel), rfl⟩

theorem witness_DestinationAndClassAreJudgedFirst :
    live.covering 13 0 = .absent ∧ live.covering 10 1023 = .window 0 w0 ∧ live.covering 10 1024 = .absent ∧
    (live.port (.dn w0.port)).state = .up ∧ w0.guarded = false ∧
    live.covering 12 0 = .window 2 w2 ∧ (live.port (.dn w2.port)).state ≠ .up ∧
    live.covering 11 9 = .window 1 w1 ∧ (live.port (.dn w1.port)).state = .up ∧ w1.guarded = true ∧
    live.readPoint 1 = some drive ∧ drive.cls.takes .start = true ∧ drive.cls.takes .set = false ∧
    Action.ofCode 4 = some .set ∧ 6 < (order 7 1 0).code.toNat ∧
    (onBank damaged).covering 10 1 = .window 0 w0 ∧ (onBank damaged).readPoint 1 = none ∧
    (order 0 1 0).dest ≠ 255 ∧ (onBank windowless).covering 10 1 = .faulty 0 := by
  decide +kernel

def dueRow : ScreenRow := { okRow with condSet := some 0 }
def busyAt (p : Nat) : State := { live with entries := [{ filler .general .dn1 (.sent 0) 0 with logical := some p }] }
def again (o : PointTel) : Entry := { filler .general .dn1 (.sent 0) 0 with origin := .supervisory o.src, dest := o.dest, tag := o.tag, point := o.point }
theorem witness_VerdictIsThatOfTheFirstFailingStep :
    failed.mode = .failHold ∧
    (∃ e ∈ ({ live with entries := [again (order 0 1 0)] } : State).entries,
      live.entrySource e = (order 0 1 0).src ∧ e.dest = (order 0 1 0).dest ∧ e.tag = (order 0 1 0).tag ∧
      e.point = (order 0 1 0).point) ∧
    (live.mode = .screening ∧ drive.sect = some 0 ∧ live.readSection 0 = some sec0 ∧
      live.readRow (rowIndex 0 (live.phaseOf 0) .start) = some okRow ∧ okRow.base = .pass ∧
      (inPhase live 0 .warming).readRow (rowIndex 0 .warming .openPoint) = some ScreenRow.empty ∧
      ScreenRow.empty.base = .refuse) ∧
    ((holding 0 .warming).readRow (rowIndex 0 ((holding 0 .warming).phaseOf 0) .start) = some dueRow ∧
      (∀ e ∈ (holding 0 .warming).optSetReads dueRow.condSet, (holding 0 .warming).activeBank.entryGood e = true) ∧
      (holding 0 .warming).setHoldsOr true dueRow.condSet = false) ∧
    (∃ e ∈ (busyAt 1).entries, e.part = .general ∧ e.logical = some 1) ∧
    (live.RowPasses (order 0 1 0) 1 drive .start 0 sec0 okRow ∧ (live.point 1).tally < drive.startLimit ∧
      live.readBudget = some plant.budget.content ∧
      plant.budget.content.capacity < ({ live with load := 401 } : State).load + live.pledgeSum + drive.ratedLoad ∧
      ({ live with remaining := 14 } : State).remaining < drive.startCost + live.unusedReserve) ∧
    (let s := live.setPoint 1 { PointDyn.clear with tally := 3 }
     s.RowPasses (order 0 1 0) 1 drive .start 0 sec0 okRow ∧ drive.startLimit ≠ 0 ∧
      drive.startLimit ≤ (s.point 1).tally) ∧
    ((generals 16).RowPasses (order 2 2 0) 2 valve .openPoint 0 sec0 okRow ∧ 48 ≤ (generals 16).partCount .general ∧
      16 ≤ ((generals 16).lane w0.port .general).length) ∧
    ((onBank sectionless).readSection 0 = none ∧
      (onBank rowless).readRow (rowIndex 0 ((onBank rowless).phaseOf 0) .start) = none ∧
      (onBank setless).optSetReads dueRow.condSet = [] ++ ⟨.sets, 0⟩ :: [] ∧
      (onBank setless).activeBank.entryGood ⟨.sets, 0⟩ = false) ∧
    ((onBank budgetless).RowPasses (order 0 1 0) 1 drive .start 0 sec0 okRow ∧ (onBank budgetless).readBudget = none) ∧
    ((generals 16).RowPasses (order 0 1 0) 1 drive .start 0 sec0 okRow ∧
      (generals 16).readBudget = some plant.budget.content ∧
      (generals 16).load + (generals 16).pledgeSum + drive.ratedLoad ≤ plant.budget.content.capacity ∧
      drive.startCost + (generals 16).unusedReserve ≤ (generals 16).remaining) ∧
    ((staleGates .idle).RowPasses (order 5 4 1) 4 gateset .gates 0 sec0 gateRow ∧ (staleGates .idle).partCount .general < 48 ∧
      ((staleGates .idle).lane w0.port .general).length < 16 ∧ ((staleGates .idle).point 4).fresh = false ∧
      ∃ i < 16, gateRow.gates.getLsbD i = false) :=
  ⟨by decide, by decide +kernel, by decide +kernel, by decide +kernel, by decide +kernel,
   ⟨passes _ _ _ _ _ _ _ _ (by decide +kernel), by decide +kernel⟩,
   ⟨passes _ _ _ _ _ _ _ _ (by decide +kernel), by decide +kernel⟩,
   ⟨passes _ _ _ _ _ _ _ _ (by decide +kernel), by decide +kernel⟩, by decide +kernel,
   ⟨passes _ _ _ _ _ _ _ _ (by decide +kernel), by decide +kernel⟩,
   ⟨passes _ _ _ _ _ _ _ _ (by decide +kernel), by decide +kernel⟩,
   ⟨passes _ _ _ _ _ _ _ _ (by decide +kernel), by decide +kernel⟩⟩

/-! ### Reports and replies -/

/-- The small factory of section 2.11, RUNNING, at a clock value, its points on station 10. -/
def diffuser : SectionRec where
  __ := SectionRec.empty
  defined := true
  feeds := [2]
  needs := [0]
  flowPoints := [⟨140, 5⟩]
  confirmTime := 60
  drainLimit := 30
def tank : SectionRec where
  __ := SectionRec.empty
  defined := true
  role := .store
  feeds := [3]
  needs := [0]
  flowPoints := [⟨150, 200⟩]
  level := some ⟨150, 200, 9000⟩
def sugarEnd : SectionRec := { SectionRec.empty with defined := true, needs := [0], flowPoints := [⟨160, 10⟩] }
def powerHouse : SectionRec := { SectionRec.empty with defined := true, role := .utility }
def factory : Bank :=
  { Bank.empty with
    windows := [(0, ⟨w0, true⟩)]
    points := [(140, ⟨measure, true⟩), (150, ⟨measure, true⟩), (160, ⟨measure, true⟩)]
    sections := [(0, ⟨powerHouse, true⟩), (1, ⟨diffuser, true⟩), (2, ⟨tank, true⟩), (3, ⟨sugarEnd, true⟩)] }
def factoryAt (c : Clock) (p : Phase) (e : RunEmpty) : State :=
  { onBank factory with
    clock := c
    campaign := .inCampaign
    image := [(140, ⟨some ⟨.good, 85, 4985⟩, true, true, 0, none⟩), (150, ⟨some ⟨.good, 5000, 4985⟩, true, true, 0, none⟩)]
    sects := [(0, ⟨.running, 1, none, .notCounting, false, false⟩), (1, ⟨p, 5000, none, e, false, true⟩),
      (2, ⟨.running, 1, none, .notCounting, false, false⟩), (3, ⟨.running, 1, none, .notCounting, false, false⟩)] }
theorem factory_good : ∀ e, factory.entryGood e = true := by
  apply good_law <;> decide

def report (dest : Byte) (point : Word) (code : Byte) (v : Word) : PointTel := ⟨1, dest, 0, point, code, 0, v⟩
/-- The report of station 10 for station point `n`, and a queue of `a` answers and then the reports for `k` station points. -/
def keyed (n : Nat) : PointTel := ⟨1, 10, 0, BitVec.ofNat 16 n, 0x30, 0, 5⟩
def reports (a k : Nat) : List UpItem := answers a ++ (List.range k).map (fun n => ⟨.report (keyed n), false⟩)
theorem sameKey_iff (r : PointTel) (x : UpItem) : sameKey r x ↔ UpItem.hasKey r.src r.point x = true := by
  unfold UpItem.hasKey sameKey
  cases x.content <;> simp
theorem witness_UncoveredReportIsOnlyForwarded :
    (live.portReady (.dn .dn1) ∧ live.banked ∧ live.covering 13 0 = .absent) ∧
    (live.covering 10 1 = .window 0 w0 ∧ w0.port ≠ .dn1) ∧
    (live.covering 10 1 = .window 0 w0 ∧ live.readPoint (w0.logicalOf 1) = some drive ∧
      (∀ rs, ReportState.ofCode 0x30 = some rs → rs.cls ≠ drive.cls)) ∧
    ((reports 1 47).length = 48 ∧ reports 1 47 = answers 1 ++ ⟨.report (keyed 0), false⟩ :: (reports 0 47).tail ∧
      sameKey (keyed 0) ⟨.report (keyed 0), false⟩ ∧ (∀ y ∈ answers 1 ++ (reports 0 47).tail, ¬ sameKey (keyed 0) y) ∧
      (∀ y ∈ reports 1 47, ¬ sameKey (keyed 50) y) ∧ reportsIn (reports 1 47) = 47) ∧
    (48 ≤ reportsIn (reports 0 48) ∧ (∀ y ∈ reports 0 48, ¬ sameKey (keyed 50) y)) ∧
    ((∀ r, UpContent.answer (.point .reply (order 0 0 0)) ≠ .report r) ∧ (reports 80 47).length = 127 ∧
      (reports 80 48).length = 128 ∧ ∃ y ∈ reports 80 48, holdsReport y) ∧
    (reports 1 0 ++ [⟨.place, false⟩] = answers 1 ++ ⟨.place, false⟩ :: [] ∧ ∀ y ∈ answers 1, y.content ≠ .place) := by
  refine ⟨⟨ready _ _ (by decide +kernel), banked _ (by decide), by decide +kernel⟩, by decide +kernel,
    ⟨by decide +kernel, by decide +kernel, by intro rs h; cases h; decide⟩,
    ⟨by decide, by decide, ⟨keyed 0, rfl, rfl, rfl⟩, fun y hy => ?_, fun y hy => ?_, by decide +kernel⟩,
    ⟨by decide +kernel, fun y hy => ?_⟩,
    ⟨(fun _ h => nomatch h), by decide +kernel, by decide +kernel, ⟨.report (keyed 0), false⟩, by decide +kernel, keyed 0, rfl⟩,
    by decide, by decide⟩ <;> (rw [sameKey_iff]; revert y; decide +kernel)

/-- Two SENT orders of one address and tag, and a trip action of section 1. -/
def sent (n : Nat) (o : Originator) (k : EntryPart) (pledge : Option Nat) : Entry :=
  ⟨n, k, o, 10, 1, 7, .start, 0, some 1, .dn0, .sent 990, 50, pledge, true⟩
def awaiting : State :=
  { live with
    entries := [filler .general .dn0 .queued 0, sent 1 (.supervisory 1) .general (some 100), sent 2 (.supervisory 1) .general none]
    pledgeSum := 100
    nextSeq := 3 }
def tripping : State := { live with entries := [{ sent 0 (.part 1) .priority none with action := .closePoint }], nextSeq := 1 }
def reply (dest : Byte) (code : Byte) : PointTel := ⟨dest, 10, 7, 1, code, 1, 0⟩
theorem awaiting_pledges : awaiting.PledgeLaw := ⟨by decide, by decide, by decide⟩
theorem tripping_pledges : tripping.PledgeLaw := ⟨by decide, by decide, by decide⟩
theorem witness_MatchedReplyRemovesTheOldestEntry :
    (awaiting.portReady (.dn .dn0) ∧ awaiting.banked ∧ awaiting.PledgeLaw ∧ ReplyOutcome.ofCode 1 = some .failed ∧
      awaiting.entries = [filler .general .dn0 .queued 0] ++ sent 1 (.supervisory 1) .general (some 100) ::
        [sent 2 (.supervisory 1) .general none] ∧
      awaiting.replyMatches (reply 1 1) (sent 1 (.supervisory 1) .general (some 100)) = true ∧
      (∀ x ∈ [filler .general .dn0 .queued 0], awaiting.replyMatches (reply 1 1) x = false) ∧ awaiting.held = []) ∧
    (tripping.portReady (.dn .dn0) ∧ tripping.banked ∧ tripping.PledgeLaw ∧ ReplyOutcome.ofCode 0 = some .done ∧
      (∀ e ∈ tripping.entries, tripping.replyMatches (reply 240 0) e = true ∧ e.origin = .part 1 ∧
        tripping.replyMatches (reply 240 2) e = true) ∧ ReplyOutcome.ofCode 2 = some .notPossible) :=
  ⟨⟨ready _ _ (by decide +kernel), banked _ (by decide), awaiting_pledges, by decide +kernel⟩,
   ⟨ready _ _ (by decide +kernel), banked _ (by decide), tripping_pledges, by decide +kernel⟩⟩

theorem witness_UnmatchedReplyIsForwardedLate :
    ((indebted 119).portReady (.dn .dn0) ∧ (indebted 119).banked ∧ ReplyOutcome.ofCode 3 = none ∧ (indebted 119).debt < 120) ∧
    ((indebted 120).portReady (.dn .dn0) ∧ (indebted 120).banked ∧
      (∀ e ∈ (indebted 120).entries, (indebted 120).replyMatches (reply 1 0) e = false) ∧ 120 ≤ (indebted 120).debt) :=
  ⟨⟨ready _ _ (by decide +kernel), banked _ (by decide), by decide +kernel⟩,
   ⟨ready _ _ (by decide +kernel), banked _ (by decide), by decide +kernel⟩⟩

theorem imaged (s : State) (d : DnPort) (r : PointTel) (w : Window) (st : PointStatic) (rs : ReportState) (i : Nat)
    (h : s.inReset = false ∧ s.agenda = [] ∧ (s.port (.dn d)).state = .up ∧ s.mode ≠ .transparent ∧
      s.covering r.src r.point = .window i w ∧ w.port = d ∧ s.readPoint (w.logicalOf r.point.toNat) = some st ∧
      ReportState.ofCode r.code = some rs ∧ rs.cls = st.cls) : IsImaged s d r w st rs :=
  ⟨ready _ _ ⟨h.1, h.2.1, h.2.2.1⟩, h.2.2.2.1, ⟨i, h.2.2.2.2.1⟩, h.2.2.2.2.2.1, h.2.2.2.2.2.2.1, h.2.2.2.2.2.2.2.1,
    h.2.2.2.2.2.2.2.2⟩
theorem changed (s : State) (p : Nat) (rs : ReportState) (v : Word)
    (h : ((s.point p).report.any (fun old => old.state == rs && old.value == v)) = false) : imageChanges s p rs v := by
  rintro ⟨_, old, hr, hs, hv⟩
  rw [hr] at h
  simp [hs, hv] at h
/-- The trip bank with section 0 RUNNING and its feeder READY. -/
def armed : State := inPhase (inPhase (onBank tripBank) 0 .running) 1 .ready
/-- The live part with its drive STARTING. -/
def driving : State := { live.setPoint 1 ⟨some ⟨.starting, 0, 990⟩, true, false, 1, none⟩ with load := 100 }
/-- Section 1 of the factory DRAINING, its flow point reported low. -/
def lowFlow : State := factoryAt 5120 .draining .notCounting
def fullTank : State := factoryAt 6000 .running .notCounting
/-- Section 1 counting although its flow point stands above its threshold, as a swap may leave it. -/
def highFlow : State := factoryAt 5120 .draining (.counting 5000)
theorem witness_CoveredReportIsImaged :
    (IsImaged awaiting .dn0 (report 10 1 2 0) w0 drive .running ∧ (∀ e, awaiting.activeBank.entryGood e = true) ∧
      (awaiting.point 1).isOn = false ∧ (sent 1 (.supervisory 1) .general (some 100)) ∈ awaiting.entries ∧
      awaiting.held = []) ∧
    (IsImaged driving .dn0 (report 10 1 0 0) w0 drive .stopped ∧ (∀ e, driving.activeBank.entryGood e = true) ∧
      (driving.point 1).isOn = true) ∧
    ((onBank damaged).portReady (.dn .dn0) ∧ (onBank damaged).banked ∧ (onBank damaged).covering 10 1 = .window 0 w0 ∧
      w0.logicalOf 1 = 1 ∧ w0.port = .dn0 ∧ ((onBank damaged).activeBank.pointStatic 1).good = false ∧
      (∃ rs, ReportState.ofCode 2 = some rs ∧ rs.cls = ((onBank damaged).activeBank.pointStatic 1).content.cls) ∧
      ∃ rs, ReportState.ofCode 0x30 = some rs ∧ rs.cls ≠ ((onBank damaged).activeBank.pointStatic 1).content.cls) ∧
    (IsImaged live .dn0 (report 10 4 0x40 0) w0 gateset .gatesGood) ∧
    (IsImaged armed .dn0 (report 10 0 0x30 50) w0 measure .good ∧ (∀ e, armed.activeBank.entryGood e = true) ∧
      trips armed (armed.setPoint 0 (imagedPoint armed 0 measure .good 50)) 0 0 .good 50 ∧
      (armed.phaseOf 0).working = true ∧ armed.definedRec 1 = some { sec1 with feeds := [0] } ∧ sec1.role ≠ .store ∧
      armed.phaseOf 1 = .ready ∧ armed.campaign ≠ .windDown) ∧
    (IsImaged fullTank .dn0 (report 10 150 0x30 9000) w0 measure .good ∧
      (∀ e, fullTank.activeBank.entryGood e = true) ∧ storeFills fullTank 1 150 9000 ∧ fullTank.phaseOf 1 = .running) ∧
    (IsImaged lowFlow .dn0 (report 10 140 0x30 4) w0 measure .good ∧ imageChanges lowFlow 140 .good 4 ∧
      drainsBy lowFlow 1 diffuser 140 ∧ reexaminedAt lowFlow 1 140 ∧ reexaminedAt fullTank 1 150 ∧
      ∀ f ∈ diffuser.flowPoints, flowIsLow (lowFlow.setPoint 140 (imagedPoint lowFlow 140 measure .good 4)) f) ∧
    (IsImaged highFlow .dn0 (report 10 140 0x30 85) w0 measure .good ∧ ¬ imageChanges highFlow 140 .good 85 ∧
      drainsBy highFlow 1 diffuser 140 ∧ (highFlow.sect 1).runEmpty ≠ .notCounting ∧
      ∃ f ∈ diffuser.flowPoints, f.point = 140 ∧
        ¬ flowIsLow (highFlow.setPoint 140 (imagedPoint highFlow 140 measure .good 85)) f) :=
  ⟨⟨imaged _ _ _ _ _ _ 0 (by decide +kernel), live_good _ rfl, by decide +kernel⟩,
   ⟨imaged _ _ _ _ _ _ 0 (by decide +kernel), live_good _ rfl, by decide +kernel⟩,
   ⟨ready _ _ (by decide +kernel), banked _ (by decide), by decide +kernel, by decide +kernel, by decide +kernel,
    by decide +kernel, ⟨.running, by decide, by decide +kernel⟩, ⟨.good, by decide, by decide +kernel⟩⟩,
   imaged _ _ _ _ _ _ 0 (by decide +kernel),
   ⟨imaged _ _ _ _ _ _ 0 (by decide +kernel), trip_good,
    ⟨by decide, changed _ _ _ _ (by decide +kernel), { sec0 with tripSet := some 0 }, by decide +kernel,
      ⟨0, set0, by decide +kernel⟩, by decide +kernel⟩, by decide +kernel⟩,
   ⟨imaged _ _ _ _ _ _ 0 (by decide +kernel), factory_good,
    ⟨by decide, diffuser, 2, tank, ⟨150, 200, 9000⟩, by decide +kernel⟩, by decide +kernel⟩,
   ⟨imaged _ _ _ _ _ _ 0 (by decide +kernel), changed _ _ _ _ (by decide +kernel), by unfold drainsBy; decide +kernel,
    ⟨by decide, diffuser, by decide +kernel, .inr (.inl (by decide))⟩,
    ⟨by decide, diffuser, by decide +kernel, .inr (.inr ⟨2, by decide, tank, ⟨150, 200, 9000⟩, by decide +kernel⟩)⟩,
    fun f hf => by
     simp only [diffuser, List.mem_singleton] at hf
     subst hf
     exact ⟨by decide +kernel, ⟨.good, 4, 5120⟩, by decide +kernel⟩⟩,
   imaged _ _ _ _ _ _ 0 (by decide +kernel), fun h => h ⟨by decide +kernel, ⟨.good, 85, 4985⟩, by decide +kernel⟩,
   by unfold drainsBy; decide +kernel, by decide +kernel, ⟨140, 5⟩, by decide, rfl, by
    rintro ⟨_, rep, hr, hv⟩
    have : (highFlow.setPoint 140 (imagedPoint highFlow 140 measure .good 85)).point 140 =
        ⟨some ⟨.good, 85, 5120⟩, true, true, 0, none⟩ := by decide +kernel
    rw [this] at hr
    cases hr
    exact absurd hv (by decide)⟩

/-! ### Telegrams in TRANSPARENT, discarded, and in error -/

/-- TRANSPARENT with 15 copies on DN0, 16 on DN1 and the others not UP. -/
def openPart (n : Nat) : State :=
  { State.reset with
    ports := [(0, portUp), (1, { portUp with repeatLane := List.replicate 15 (.point .order (order 0 0 0)) }),
      (2, { portUp with repeatLane := List.replicate 16 (.point .order (order 0 0 0)) })]
    upQueue := answers n }
theorem witness_TransparentTelegramsAreRepeatedAndForwarded :
    ((openPart 0).portReady .up ∧ (openPart 0).mode = .transparent ∧ destOf (.point .order (order 0 0 0)) ≠ (openPart 0).station) ∧
    ((openPart 119).portReady (.dn .dn0) ∧ (openPart 119).mode = .transparent ∧ (openPart 119).debt < 120) ∧
    ((openPart 120).portReady (.dn .dn0) ∧ (openPart 120).mode = .transparent ∧ 120 ≤ (openPart 120).debt) ∧
    (∀ r, Telegram.point .reply (reply 1 0) ≠ .point .report r) :=
  ⟨⟨ready _ _ (by decide +kernel), by decide +kernel⟩, ⟨ready _ _ (by decide +kernel), by decide +kernel⟩,
   ⟨ready _ _ (by decide +kernel), by decide +kernel⟩, by intro r h; cases h⟩

/-- An ORDER telegram's bytes between its delimiters. -/
def framed : List Byte := encodeTelegram (.point .order (order 0 1 0))
theorem witness_UntakenTelegramsAndBadReceptionsAreDiscarded :
    (live.atRest ∧ (live.port (.dn .dn3)).state ≠ .up) ∧
    ((∀ m, Telegram.point .order { order 0 0 0 with dest := 240 } ≠ .mgmt .request m) ∧
      destOf (.point .order { order 0 0 0 with dest := 240 }) = live.station) ∧
    (live.banked ∧ (∀ o, Telegram.mgmt .notice fullBody ≠ .point .order o) ∧
      destOf (.point .report (report 10 0 0 0)) ≠ live.station ∧
      ∀ o, Telegram.point .report (report 10 0 0 0) ≠ .point .order o) ∧
    ((∀ r, Telegram.point .order (order 0 0 0) ≠ .point .report r) ∧
      ∀ r, Telegram.point .order (order 0 0 0) ≠ .point .reply r) ∧
    (live.portReady (.dn .dn0) ∧ FrameEnd.newStart ≠ .endDelimiter ∧ decodeTelegram [1, 2, 3] = none ∧
      decodeTelegram framed = some (.point .order (order 0 1 0))) := by
  refine ⟨⟨rest _ (by decide), by decide +kernel⟩, ⟨?_, by decide +kernel⟩, ⟨banked _ (by decide), ?_, by decide +kernel, ?_⟩,
    ⟨?_, ?_⟩, ready _ _ (by decide +kernel), by decide, by decide +kernel, by decide +kernel⟩ <;> (intro _ h; cases h)

/-! ### Management: common handling and tables -/

def req (code : Byte) (body : List Byte) : MgmtTel := ⟨240, 1, 7, code, body⟩
/-- A state with one request waiting and its place reserved. -/
def asked (s : State) (code : Byte) (body : List Byte) : State :=
  { s with requests := [req code body], upQueue := [⟨.place, false⟩] }

theorem witness_UnreadableRequestsAreRejected :
    ((asked live 0 []).turnOf (req 0 []) [] ∧ (req 0 []).code.toNat = 0 ∧ (asked live 13 []).turnOf (req 13 []) [] ∧
      12 < (req 13 []).code.toNat) ∧
    ((asked live 3 [0]).turnOf (req 3 [0]) [] ∧ (req 3 [0]).body ≠ []) ∧
    readWriteBody [1, 0, 0, 1] = none ∧ readReadBody [0, 1, 0, 0, 21] = none ∧ readPhaseBody [0, 7] = none ∧
    readCampaignBody [4] = none ∧ readImageBody [0, 0, 1, 2] = none ∧ readMarksBody [1, 0, 0, 0, 1] = none ∧
    readNoticesBody [1, 1, 1, 1, 1, 1, 1, 2, 0] = none :=
  ⟨⟨turn _ _ _ (by decide +kernel), by decide, turn _ _ _ (by decide +kernel), by decide⟩,
   ⟨turn _ _ _ (by decide +kernel), by decide⟩, by decide +kernel⟩

/-- A budget record as a body carries it, with a period. -/
def budgetBody (first count period : Byte) : List Byte := [6, 0, first, count, period, 0, 30, 0, 10, 1, 0xF4, 60]
theorem witness_WriteTableStoresInTheStandbyBank :
    ((asked live 1 (budgetBody 1 1 100)).turnOf (req 1 (budgetBody 1 1 100)) [] ∧
      readWriteBody (budgetBody 1 1 100) = some ⟨.budget, 1, 1, .budget [⟨100, 30, 10, 500, 60⟩]⟩ ∧
      tableSize .budget < 1 + 1) ∧
    (readWriteBody (budgetBody 0 1 101) = some ⟨.budget, 0, 1, .budget [⟨101, 30, 10, 500, 60⟩]⟩ ∧
      0 + 1 ≤ tableSize .budget ∧ (TableData.budget [⟨101, 30, 10, 500, 60⟩]).firstBad = some 0) ∧
    (readWriteBody (budgetBody 0 1 100) = some ⟨.budget, 0, 1, .budget [⟨100, 30, 10, 500, 60⟩]⟩ ∧
      (TableData.budget [⟨100, 30, 10, 500, 60⟩]).firstBad = none) :=
  ⟨⟨turn _ _ _ (by decide +kernel), by decide +kernel⟩, by decide +kernel, by decide +kernel⟩

theorem witness_ReadTableReturnsTheEntries :
    ((asked live 2 [0, 1, 0, 31, 2]).turnOf (req 2 [0, 1, 0, 31, 2]) [] ∧
      readReadBody [0, 1, 0, 31, 2] = some ⟨.a, .windows, 31, 2⟩ ∧ tableSize .windows < 31 + 2) ∧
    (readReadBody [0, 2, 0, 0, 3] = some ⟨.a, .points, 0, 3⟩ ∧ (1 : Nat) < 3 ∧
      (∀ j < 1, ((onBank damaged).bank .a).entryGood ⟨.points, 0 + j⟩ = true) ∧
      ((onBank damaged).bank .a).entryGood ⟨.points, 0 + 1⟩ = false) ∧
    (readReadBody [0, 1, 0, 16, 16] = some ⟨.a, .windows, 16, 16⟩ ∧ 16 + 16 ≤ tableSize .windows ∧
      ∀ k < 16, (live.bank .a).entryGood ⟨.windows, 16 + k⟩ = true) :=
  ⟨⟨turn _ _ _ (by decide +kernel), by decide +kernel⟩, by decide +kernel, by decide +kernel⟩

theorem witness_CopyToStandbyCopiesTheActiveBank :
    ((asked (openPart 0) 3 []).turnOf (req 3 []) [] ∧ (asked (openPart 0) 3 []).mode = .transparent) ∧
    ((asked live 3 []).turnOf (req 3 []) [] ∧ (asked live 3 []).banked ∧ (asked live 3 []).activeBank.firstFault = none) ∧
    ((asked (onBank damaged) 3 []).turnOf (req 3 []) [] ∧
      (asked (onBank damaged) 3 []).activeBank.firstFault = some ⟨.points, 1⟩) ∧ plant.wf = true ∧
    (damaged.wf = true ∧ damaged.firstFault = some ⟨.points, 1⟩ ∧ entryBefore ⟨.windows, 31⟩ ⟨.points, 1⟩ ∧
      entryBefore ⟨.points, 0⟩ ⟨.points, 1⟩) :=
  ⟨⟨turn _ _ _ (by decide +kernel), by decide⟩,
   ⟨turn _ _ _ (by decide +kernel), banked _ (by decide), by decide +kernel⟩,
   ⟨turn _ _ _ (by decide +kernel), by decide +kernel⟩, by decide +kernel, by unfold entryBefore; decide +kernel⟩

/-! ### The swap, and leaving the active bank -/

def checking (s : State) : State := { s with swapCheck := some ⟨1, 7, 20⟩, upQueue := [⟨.place, false⟩] }
/-- A bank whose section 0 needs itself. -/
def selfNeeding : Bank := { plant with sections := [(0, ⟨{ sec0 with needs := [0] }, true⟩), (1, ⟨sec1, true⟩)] }
theorem witness_SwapCheckRunsAndRejects :
    (asked live 4 []).turnOf (req 4 []) [] ∧
    ((checking { live with bankB := damaged }).atRest ∧ (checking live).swapCheck = some ⟨1, 7, 20⟩ ∧
      (checking { live with bankB := damaged }).swapFailure damaged = some ⟨.integrity, ⟨.points, 1⟩⟩) ∧
    (live.atRest ∧ live.swapCheck = none) ∧
    (damaged.wf = true ∧ selfNeeding.wf = true ∧ live.swapFailure selfNeeding = some ⟨.needNotUtility, ⟨.sections, 0⟩⟩ ∧
      plant.wf = true ∧ live.swapFailure plant = none) :=
  ⟨turn _ _ _ (by decide +kernel), ⟨rest _ (by decide), by decide +kernel⟩, ⟨rest _ (by decide), rfl⟩, by decide +kernel⟩

def leaving : State := { State.reset with standby := .a, bankA := plant, swapCheck := some ⟨1, 7, 20⟩, upQueue := [⟨.place, false⟩] }
theorem witness_SwapOutOfTransparentStartsTheFirstPeriod :
    leaving.atRest ∧ leaving.mode = .transparent ∧ leaving.active = none ∧ leaving.swapCheck = some ⟨1, 7, 20⟩ ∧
    leaving.swapFailure (leaving.bank leaving.standby) = none ∧ leaving.held = [] ∧ leaving.campaign = .outOfCampaign ∧
    ∀ n < 16, leaving.phaseOf n = .idle :=
  ⟨rest _ (by decide), by decide +kernel⟩

/-- A swap of the running plant to a bank whose trip set holds, with the period and the tally timer run. -/
def swapTripping : State :=
  checking { inPhase live 0 .running with bankB := tripBank, clock := 40000, held := [heldFor 7] }
/-- A swap out of FAIL_HOLD, the old bank holding the static part of point 1 and the record of section 0 damaged, and section 0
DRAINING past the limit of the new bank. -/
def swapDamaged : State :=
  checking { inPhase failed 0 .draining with
    bankA := { damaged with sections := [(0, ⟨sec0, false⟩), (1, ⟨sec1, true⟩)] }
    clock := 2000 }
theorem witness_SwapInServiceCarriesTheImageAndBudget :
    (∀ s ∈ [checking live, swapTripping, checking failed, swapDamaged], s.inReset = false ∧ s.agenda = [] ∧ s.mode ≠ .transparent ∧
      s.active = some .a ∧ s.standby = BankId.other .a ∧ s.swapCheck = some ⟨1, 7, 20⟩ ∧
      s.swapFailure (s.bank (BankId.other .a)) = none ∧ s.periodTimer = some ⟨950, 100⟩ ∧ s.tallyTimer = some ⟨950, 60⟩ ∧
      Store.wf PointDyn.clear s.image = true) ∧
    (checking live).held = [] ∧
    (overdueAtSwap swapDamaged (swapDamaged.bank .b) (fun _ => true) 0 = true ∧
      ((swapDamaged.bank .a).sectionRec 0).good = false ∧ swapDamaged.phaseOf 0 ≠ .idle ∧
      ((swapDamaged.bank .a).pointStatic 1).good = false ∧ ((swapDamaged.bank .a).sectionRec 1).good = true) ∧
    ((swapTripping.bank .b).budget.content.period ≤ swapTripping.elapsed 950 ∧
      600 * (swapTripping.bank .b).budget.content.tallyInterval ≤ swapTripping.elapsed 950 ∧
      haltAtSwap { swapTripping with active := some .b, standby := .a } 0 = some .trip) := by
  decide +kernel

theorem witness_GoTransparentEndsTheUseOfTheBank :
    ((asked { live with campaign := .inCampaign } 5 []).turnOf (req 5 []) [] ∧ CampaignMode.inCampaign ≠ .outOfCampaign) ∧
    ((asked (inPhase live 15 .halted) 5 []).turnOf (req 5 []) [] ∧
      ∃ n < 16, (asked (inPhase live 15 .halted) 5 []).phaseOf n ≠ .idle) ∧
    ((asked live 5 []).turnOf (req 5 []) [] ∧ (asked live 5 []).banked ∧ (asked live 5 []).active = some .a ∧
      (asked live 5 []).campaign = .outOfCampaign ∧ ∀ n < 16, (asked live 5 []).phaseOf n = .idle) :=
  ⟨⟨turn _ _ _ (by decide +kernel), by decide⟩, ⟨turn _ _ _ (by decide +kernel), by decide +kernel⟩,
   ⟨turn _ _ _ (by decide +kernel), banked _ (by decide), by decide +kernel⟩⟩

theorem witness_ResetPartReturnsTheDynamicState :
    ((asked failed 12 []).turnOf (req 12 []) [] ∧ (asked failed 12 []).mode = .failHold) ∧
    ((asked { live with campaign := .windDown } 12 []).turnOf (req 12 []) [] ∧
      (asked { live with campaign := .windDown } 12 []).campaign ≠ .outOfCampaign) ∧
    ((asked live 12 []).turnOf (req 12 []) [] ∧ (asked live 12 []).mode ≠ .failHold ∧
      (asked live 12 []).campaign = .outOfCampaign) :=
  ⟨⟨turn _ _ _ (by decide +kernel), by decide⟩, ⟨turn _ _ _ (by decide +kernel), by decide⟩,
   ⟨turn _ _ _ (by decide +kernel), by decide⟩⟩

/-! ### PHASE and CAMPAIGN -/

def readying : State := inPhase live 1 .ready
theorem witness_AcceptedPhaseRequestMakesTheChange :
    ((asked live 6 [0, 1]).turnOf (req 6 [0, 1]) [] ∧ readPhaseBody [0, 1] = some (0, .warming) ∧
      (asked live 6 [0, 1]).mode = .screening ∧ (∀ e, (asked live 6 [0, 1]).activeBank.entryGood e = true) ∧
      (asked live 6 [0, 1]).definedRec 0 = some sec0 ∧
      ∃ q, ladder ((asked live 6 [0, 1]).phaseOf 0) .warming = some q ∧ q.notWindDown = false ∧
        phaseFailures (asked live 6 [0, 1]) 0 sec0 q = [] ∧ sec0.permitOut = none) ∧
    ((asked readying 6 [1, 3]).turnOf (req 6 [1, 3]) [] ∧ readPhaseBody [1, 3] = some (1, .running) ∧
      (asked readying 6 [1, 3]).definedRec 1 = some sec1 ∧
      ∃ q, ladder ((asked readying 6 [1, 3]).phaseOf 1) .running = some q ∧ q.notWindDown = false ∧
        phaseFailures (asked readying 6 [1, 3]) 1 sec1 q = [] ∧ sec1.permitOut = some 1) :=
  ⟨⟨turn _ _ _ (by decide +kernel), by decide, by decide, live_good _ rfl, by decide +kernel, _, rfl, rfl,
    by decide +kernel⟩,
   ⟨turn _ _ _ (by decide +kernel), by decide, by decide +kernel, _, rfl, rfl, by decide +kernel⟩⟩

/-- The plant with a warm set, whose point is STALE. -/
def warmBank : Bank := { plant with sections := [(0, ⟨{ sec0 with warmSet := some 0 }, true⟩), (1, ⟨sec1, true⟩)] }
def warmStale : State := inPhase { onBank warmBank with image := [] } 0 .warming
theorem warm_good : ∀ e, warmBank.entryGood e = true := by
  apply good_law <;> decide
def halted (s : State) : State := { s with campaignHalt := true }
theorem witness_RejectedPhaseRequestChangesNothing :
    ((asked (openPart 0) 6 [0, 1]).turnOf (req 6 [0, 1]) [] ∧ (asked failed 6 [0, 1]).turnOf (req 6 [0, 1]) [] ∧
      (asked live 6 [16, 1]).turnOf (req 6 [16, 1]) [] ∧ readPhaseBody [16, 1] = some (16, .warming)) ∧
    ((asked live 6 [15, 1]).turnOf (req 6 [15, 1]) [] ∧ readPhaseBody [15, 1] = some (15, .warming) ∧
      (asked live 6 [15, 1]).definedRec 15 = none ∧ ladder ((asked live 6 [0, 3]).phaseOf 0) .running = none) ∧
    ((asked { inPhase live 0 .draining with campaign := .windDown } 6 [0, 3]).turnOf (req 6 [0, 3]) [] ∧
      (inPhase live 0 .draining).phaseOf 0 = .draining ∧ readPhaseBody [0, 3] = some (0, .running)) ∧
    ((asked (halted live) 6 [0, 1]).turnOf (req 6 [0, 1]) [] ∧ (∀ e, (halted live).activeBank.entryGood e = true) ∧
      ∃ q, ladder ((halted live).phaseOf 0) .warming = some q ∧ q.notWindDown = false ∧
        phaseFailures (halted live) 0 sec0 q = [.haltLine]) ∧
    ((asked warmStale 6 [0, 2]).turnOf (req 6 [0, 2]) [] ∧ (∀ e, warmStale.activeBank.entryGood e = true) ∧
      warmStale.definedRec 0 = some { sec0 with warmSet := some 0 } ∧
      ∃ q, ladder (warmStale.phaseOf 0) .ready = some q ∧ q.notWindDown = false ∧
        phaseFailures warmStale 0 { sec0 with warmSet := some 0 } q = [.stale, .condition]) :=
  ⟨⟨turn _ _ _ (by decide +kernel), turn _ _ _ (by decide +kernel), turn _ _ _ (by decide +kernel), by decide⟩,
   ⟨turn _ _ _ (by decide +kernel), by decide, by decide +kernel⟩,
   ⟨turn _ _ _ (by decide +kernel), by decide +kernel⟩,
   ⟨turn _ _ _ (by decide +kernel), live_good _ rfl, _, rfl, rfl, by decide +kernel⟩,
   ⟨turn _ _ _ (by decide +kernel), warm_good, by decide +kernel, _, rfl, rfl, by decide +kernel⟩⟩

def running : State := inPhase (inPhase live 0 .running) 1 .running
theorem witness_CampaignRequestsFollowTheirTable :
    ((∀ c ∈ [(openPart 0), failed, { live with campaign := .startUp }, live], (asked c 7 [1]).inReset = false ∧
        (asked c 7 [1]).agenda = [] ∧ (asked c 7 [1]).swapCheck = none ∧ (asked c 7 [1]).requests = [req 7 [1]]) ∧
      readCampaignBody [1] = some .startUp ∧ (asked live 7 [1]).campaign = .outOfCampaign) ∧
    ((asked running 7 [1]).turnOf (req 7 [1]) [] ∧ (asked running 7 [1]).held = [] ∧ (asked running 7 [1]).recordsGood ∧
      ∀ n < 16, (asked running 7 [1]).definedRec n ≠ none → (asked running 7 [1]).phaseOf n = .running) ∧
    ((asked live 7 [3]).turnOf (req 7 [3]) [] ∧ readCampaignBody [3] = some .windDown ∧
      (asked { live with campaign := .inCampaign } 7 [3]).turnOf (req 7 [3]) [] ∧
      (asked { live with campaign := .inCampaign } 7 [3]).banked ∧
      (asked { live with campaign := .inCampaign } 7 [3]).recordsGood ∧
      ∀ n < 16, (asked { live with campaign := .inCampaign } 7 [3]).phaseOf n = .idle) ∧
    (({ running with campaign := .startUp } : State).completionMode = some .inCampaign ∧
      ({ live with campaign := .windDown } : State).completionMode = some .outOfCampaign ∧
      ({ running with campaign := .windDown } : State).completionMode = none ∧
      ((onBank sectionless).activeBank.sectionRec 0).good = false) ∧
    ((asked live 7 [0]).turnOf (req 7 [0]) [] ∧ readCampaignBody [0] = some .outOfCampaign ∧
      (asked { live with campaign := .windDown } 7 [0]).turnOf (req 7 [0]) []) ∧
    ((asked live 7 [2]).turnOf (req 7 [2]) [] ∧ readCampaignBody [2] = some .inCampaign) :=
  ⟨by decide +kernel,
   ⟨turn _ _ _ (by decide +kernel), by decide +kernel, by unfold State.recordsGood; decide +kernel, by decide +kernel⟩,
   ⟨turn _ _ _ (by decide +kernel), by decide, turn _ _ _ (by decide +kernel), banked _ (by decide),
    by unfold State.recordsGood; decide +kernel, by decide +kernel⟩, by decide +kernel,
   ⟨turn _ _ _ (by decide +kernel), by decide, turn _ _ _ (by decide +kernel)⟩,
   turn _ _ _ (by decide +kernel), by decide⟩

/-! ### Status, image and notice requests -/

theorem witness_ReadStatusReturnsAndClearsTheFlags :
    (asked live 8 []).turnOf (req 8 []) [] ∧ (req 8 []).body = [] ∧ (asked live 8 []).recordsGood :=
  ⟨turn _ _ _ (by decide +kernel), rfl, by unfold State.recordsGood; decide +kernel⟩

theorem witness_ImageRequestsReadAndClear :
    ((asked live 9 [7, 0xE6, 26, 1]).turnOf (req 9 [7, 0xE6, 26, 1]) [] ∧
      readImageBody [7, 0xE6, 26, 1] = some ⟨2022, 26, true⟩ ∧ readImageBody [7, 0xE7, 26, 0] = some ⟨2023, 26, false⟩ ∧
      readImageBody [0, 0, 27, 0] = some ⟨0, 27, false⟩) ∧
    ((asked live 10 [1, 0, 0, 8, 0, 0]).turnOf (req 10 [1, 0, 0, 8, 0, 0]) [] ∧
      readMarksBody [1, 0, 0, 8, 0, 0] = some ⟨true, 0, 2048, false⟩ ∧
      readMarksBody [1, 0, 1, 8, 0, 1] = some ⟨true, 1, 2048, true⟩ ∧
      readMarksBody [0, 0, 0, 0, 0, 1] = some ⟨false, 0, 0, true⟩ ∧
      readMarksBody [0, 0, 0, 0, 0, 0] = some ⟨false, 0, 0, false⟩) :=
  ⟨⟨turn _ _ _ (by decide +kernel), by decide⟩, turn _ _ _ (by decide +kernel), by decide⟩

theorem witness_SetNoticesReplacesMaskAndDestination :
    (asked live 11 [0, 0, 0, 1, 0, 0, 0, 1, 240]).turnOf (req 11 [0, 0, 0, 1, 0, 0, 0, 1, 240]) [] ∧
    readNoticesBody [0, 0, 0, 1, 0, 0, 0, 1, 240] = some ([.linkChanged], some 240) ∧ live.station = 240 ∧
    readNoticesBody [1, 0, 0, 0, 0, 0, 1, 1, 0] = some ([.phaseChanged, .campaignMode], some 0) ∧
    readNoticesBody [0, 0, 0, 0, 0, 0, 0, 1, 9] = some ([], some 9) ∧
    readNoticesBody [0, 0, 0, 0, 0, 0, 0, 0, 9] = some ([], none) ∧ [false, true, true, true, true, true, false].length = 7 :=
  ⟨turn _ _ _ (by decide +kernel), by decide⟩

def noticed (n : Nat) : State := { live with upQueue := List.replicate n ⟨.notice ⟨.linkChanged, none, none, .integrity, 0⟩, false⟩ }
theorem witness_ActiveFaultEntersFailHold :
    (NoticeKind.phaseChanged ∉ ({ live with noticeMask := [.failHold] } : State).noticeMask) ∧
    (NoticeKind.failHold ∈ (noticed 16).noticeMask ∧ 16 ≤ noticeCount (noticed 16).upQueue) ∧
    (NoticeKind.failHold ∈ (indebted 120).noticeMask ∧ 120 ≤ (indebted 120).debt) ∧
    (NoticeKind.failHold ∈ (noticed 15).noticeMask ∧ noticeCount (noticed 15).upQueue < 16 ∧ (noticed 15).debt < 120) ∧
    ((onBank windowless).portReady (.dn .dn0) ∧ (onBank windowless).covering 10 0 = .faulty 0 ∧
      (onBank windowless).mode = .screening ∧
      ({ onBank windowless with mode := .failHold } : State).portReady (.dn .dn0)) ∧
    ((onBank windowless).Screens (order 0 1 0) ∧
      (onBank windowless).judgeDestination (order 0 1 0) = .refused .noRoute (some ⟨.windows, 0⟩) ∧
      (onBank rowless).Screens (order 0 1 0) ∧ (onBank rowless).HandsOn (order 0 1 0) w0 drive .start ∧
      (onBank rowless).noneHeld 1 ∧
      (onBank rowless).judgeOrder (order 0 1 0) ⟨1, w0, drive, .start⟩ (onBank rowless).held =
        .refuse .failHold (some ⟨.rows, 0⟩)) ∧
    ((∀ x ∈ [EntryRef.mk .points 0], (onBank damaged).activeBank.entryGood x = true) ∧
      (onBank damaged).activeBank.entryGood ⟨.points, 1⟩ = false) ∧
    (onBank sectionless).activeBank.entryGood ⟨.sections, 0⟩ = false :=
  ⟨by decide, by decide +kernel, by decide +kernel, by decide +kernel,
   ⟨ready _ _ (by decide +kernel), by decide +kernel, rfl, ready _ _ (by decide +kernel)⟩,
   ⟨screens _ _ (by decide +kernel), by decide +kernel, screens _ _ (by decide +kernel),
    handed _ _ _ _ _ 0 (by decide +kernel), unheld _ _ (by decide), by decide +kernel⟩, by decide +kernel, by decide +kernel⟩

/-! ### Discrete lines and the reset -/

def permitted (p : Phase) : State := { inPhase live 0 p with permitIn := [(0, true)] }
theorem witness_PermitInChangeActsOnTheNamingSections :
    (live.atRest ∧ live.permitInLevel 3 = false) ∧
    ((openPart 0).atRest ∧ (openPart 0).permitInLevel 0 ≠ true ∧ (openPart 0).mode = .transparent) ∧
    (live.banked ∧ live.recordsGood ∧ live.permitInLevel 0 ≠ true) ∧
    (∀ p ∈ [Phase.ready, .running], (permitted p).inReset = false ∧ (permitted p).agenda = [] ∧
      (permitted p).permitInLevel 0 ≠ false ∧ (permitted p).definedRec 0 = some sec0 ∧ sec0.permitIn = some 0 ∧
      (permitted p).phaseOf 0 = p) :=
  ⟨⟨rest _ (by decide), by decide⟩, ⟨rest _ (by decide), by decide⟩,
   ⟨banked _ (by decide), by unfold State.recordsGood; decide +kernel, by decide⟩, by decide +kernel⟩

theorem witness_CampaignHaltHaltsTheWorkingSections :
    ((halted live).atRest ∧ (halted live).campaignHalt = true ∧ (halted live).banked ∧
      (∀ e, (halted live).activeBank.entryGood e = true) ∧
      ∀ n < 16, ({ halted live with campaignHalt := false } : State).autoMove n = none) ∧
    (live.atRest ∧ live.campaignHalt = false) ∧
    ((openPart 0).atRest ∧ (openPart 0).campaignHalt = false ∧ (openPart 0).mode = .transparent ∧
      (halted (openPart 0)).mode = .transparent) ∧
    ((inPhase running 1 .halted).atRest ∧ (inPhase running 1 .halted).campaignHalt = false ∧
      (inPhase running 1 .halted).banked ∧ ((inPhase running 1 .halted).phaseOf 0).working = true ∧
      (inPhase running 1 .halted).phaseOf 1 = .halted) :=
  ⟨⟨rest _ (by decide), rfl, banked _ (by decide), live_good _ rfl, by decide +kernel⟩, ⟨rest _ (by decide), rfl⟩,
   ⟨rest _ (by decide), by decide⟩, rest _ (by decide +kernel), by decide +kernel, banked _ (by decide), by decide +kernel⟩

def inHeldReset (supply line : Bool) : State := { State.reset with supplyBad := supply, resetLine := line }
theorem witness_ResetHoldsAndReleasesThePart :
    ((inHeldReset false true).inReset = true ∧ (inHeldReset false true).agenda = [] ∧ actsInReset .tallyDecay = false) ∧
    (live.inReset = false ∧ live.agenda = []) ∧
    ((inHeldReset true true).supplyBad = true ∧ (inHeldReset true true).resetLine = true) ∧
    ((inHeldReset true false).supplyBad = true ∧ (inHeldReset true false).resetLine = false ∧
      (inHeldReset false true).supplyBad = false ∧ (inHeldReset false true).resetLine = true) := by
  decide

/-! ### Ports -/

def withPort (p : PortId) (v : Port) : State := live.setPort p v
theorem witness_LineSignalsMoveThePortState :
    (live.atRest ∧ (live.port (.dn .dn3)).state = .down) ∧
    ((withPort .up { Port.clear with state := .proving, signal := true, proving := some 500 }).atRest ∧
      ((withPort .up { Port.clear with state := .proving, signal := true, proving := some 500 }).port .up).proving =
        some 500) ∧
    ((live.port .up).state = .up ∧ (live.port .up).signal = true) ∧
    (((withPort .up { portUp with signal := false, loss := some 3 }).port .up).state = .up ∧
      ((withPort .up { portUp with signal := false, loss := some 3 }).port .up).signal = false) ∧
    (∃ e < 500, ((withPort .up { Port.clear with state := .proving, signal := true, proving := some 499 }).port .up).proving =
      some e) ∧ (live.mode ≠ .transparent ∧ live.held = [] ∧ (openPart 0).mode = .transparent) :=
  ⟨⟨rest _ (by decide), by decide +kernel⟩, ⟨rest _ (by decide +kernel), by decide +kernel⟩, by decide +kernel,
   by decide +kernel, ⟨499, by decide, by decide +kernel⟩, by decide⟩

def losing (e : Nat) : Port := { portUp with signal := false, loss := some e }
def quietLoss (e : Nat) : State := { withPort (.dn .dn0) (losing e) with image := [] }
theorem quiet_windows : ∀ i < 32, ∀ w q, (quietLoss 20).readWindow i = some w → w.holds q = true → w.port = .dn0 →
    ((quietLoss 20).point q).fresh = false := by
  intro i _ w q _ _ _
  rfl
theorem witness_LossTimerTakesThePortDown :
    ((quietLoss 19).atRest ∧ ∃ e < 20, ((quietLoss 19).port (.dn .dn0)).loss = some e) ∧
    ((quietLoss 20).atRest ∧ ((quietLoss 20).port (.dn .dn0)).state = .up ∧
      ((quietLoss 20).port (.dn .dn0)).signal = false ∧ ((quietLoss 20).port (.dn .dn0)).loss = some 20 ∧
      (quietLoss 20).banked ∧ (quietLoss 20).held = [] ∧ (∀ x, (quietLoss 20).activeBank.entryGood x = true) ∧
      ∀ i < 32, ∀ w q, (quietLoss 20).readWindow i = some w → w.holds q = true → w.port = .dn0 →
        ((quietLoss 20).point q).fresh = false) ∧
    ((withPort .up (losing 20)).atRest ∧ ((withPort .up (losing 20)).port .up).loss = some 20) ∧
    (((openPart 0).setPort (.dn .dn0) (losing 20)).mode = .transparent ∧
      (((openPart 0).setPort (.dn .dn0) (losing 20)).port (.dn .dn0)).loss = some 20) :=
  ⟨⟨rest _ (by decide +kernel), 19, by decide, by decide +kernel⟩,
   ⟨rest _ (by decide +kernel), by decide +kernel, by decide +kernel, by decide +kernel, banked _ (by decide), rfl,
    live_good _ rfl, quiet_windows⟩,
   ⟨rest _ (by decide +kernel), by decide +kernel⟩, by decide +kernel⟩

/-! ### Timers -/

/-- The point 0, last reported at 990 in a window with a stale limit of 255 s, at a clock value. -/
def ageing (c : Clock) : State := { live with clock := c }
theorem first_window (b : Bank) (h : (b.win 0).holds 0 = true) : windowNumber b 0 0 := ⟨by decide, h, by intro j hj; omega⟩
def armedOld : State := { armed with clock := 3540 }
theorem witness_StaleTimerMakesThePointStale :
    (live.atRest ∧ (live.point 1).fresh = false) ∧
    ((ageing 3539).atRest ∧ ((ageing 3539).point 0).report = some ⟨.good, 40, 990⟩ ∧
      windowNumber (ageing 3539).activeBank 0 0 ∧
      ((ageing 3539).clock - 990).toNat < 10 * ((ageing 3539).activeBank.win 0).staleLimit) ∧
    (∀ s ∈ [ageing 3540, { onBank windowless with clock := 3540 }, armedOld], s.atRest ∧ (s.point 0).fresh = true ∧
      (s.point 0).report = some ⟨.good, 40, 990⟩ ∧ windowNumber s.activeBank 0 0 ∧
      10 * (s.activeBank.win 0).staleLimit ≤ (s.clock - 990).toNat ∧ s.held = []) ∧
    ((ageing 3540).activeBank.entryGood ⟨.windows, 0⟩ = true ∧
      (onBank windowless).activeBank.entryGood ⟨.windows, 0⟩ = false) ∧
    (armedOld.activeBank.entryGood ⟨.windows, 0⟩ = true ∧
      armedOld.definedRec 0 = some { sec0 with tripSet := some 0 } ∧ tripNames armedOld { sec0 with tripSet := some 0 } 0 ∧
      armedOld.phaseOf 0 = .running) := by
  refine ⟨⟨rest _ (by decide), by decide⟩,
    ⟨rest _ (by decide), by decide +kernel, first_window _ (by decide +kernel), by decide +kernel⟩, fun s hs => ?_,
    by decide +kernel, by decide +kernel, by decide +kernel, ⟨0, set0, by decide +kernel⟩, by decide +kernel⟩
  fin_cases hs <;> exact ⟨rest _ (by decide +kernel), by decide +kernel, by decide +kernel,
    first_window _ (by decide +kernel), by decide +kernel⟩
/-- A damaged window leaves the point FRESH, and the fault is taken. -/
theorem test_stale_damaged_window :
    ((after (.staleTimerExpiry 0) { onBank windowless with clock := 3540 }).point 0).fresh = true ∧
    (after (.staleTimerExpiry 0) { onBank windowless with clock := 3540 }).mode = .failHold := by decide +kernel

/-- Section 0 DRAINING since 400 and counting since `t`, with a drain limit of one minute. -/
def draining (t : Clock) (o : Bool) : State := live.setSect 0 ⟨.draining, 400, none, .counting t, o, false⟩
theorem witness_SectionTimersConfirmAndNotice :
    ((draining 990 false).atRest ∧ ((draining 990 false).sect 0).runEmpty = .counting 990 ∧
      10 * ((draining 990 false).activeBank.sec 0).confirmTime ≤ ((draining 990 false).clock - 990).toNat ∧
      (draining 990 false).mode = .screening ∧ (∀ e, (draining 990 false).activeBank.entryGood e = true) ∧
      (draining 990 false).definedRec 0 = some sec0 ∧ (draining 990 false).phaseOf 0 = .draining ∧
      (∀ m ∈ (draining 990 false).feeders 0, (draining 990 false).phaseOf m = .flushed ∨ (draining 990 false).phaseOf m = .idle) ∧
      (draining 990 false).campaign = .outOfCampaign) ∧
    (((draining 991 false).sect 0).runEmpty = .counting 991 ∧
      ((draining 991 false).clock - 991).toNat < 10 * ((draining 991 false).activeBank.sec 0).confirmTime) ∧
    (((draining 990 false).activeBank.sec 0).drainLimit = 1 ∧ ((draining 990 false).sect 0).overdue = false ∧
      600 * 1 ≤ ((draining 990 false).clock - ((draining 990 false).sect 0).entryTime).toNat) ∧
    ((draining 990 true).atRest ∧ ((draining 990 true).sect 0).overdue = true ∧ (live.activeBank.sec 0).warmLimit = 0) ∧
    (let s : State := { draining 990 false with bankA := sectionless }
     s.activeBank.entryGood ⟨.sections, 0⟩ = false ∧ (s.sect 0).runEmpty = .counting 990 ∧
      10 * (s.activeBank.sec 0).confirmTime ≤ (s.clock - 990).toNat ∧ stayLimit (s.activeBank.sec 0) (s.phaseOf 0) = 1 ∧
      (s.sect 0).overdue = false ∧ 600 ≤ (s.clock - (s.sect 0).entryTime).toNat) :=
  ⟨⟨rest _ (by decide +kernel), by decide +kernel, by decide +kernel, rfl, live_good _ rfl, by decide +kernel⟩,
   by decide +kernel, by decide +kernel, ⟨rest _ (by decide +kernel), by decide +kernel⟩, by decide +kernel⟩
/-- A damaged record leaves the section counting without a notice, and the fault is taken. -/
theorem test_timers_damaged_record :
    (∀ c ∈ [Instr.confirmationTimerExpiry 0, .overdueTimerExpiry 0],
      (after c { draining 990 false with bankA := sectionless }).sect 0 = (draining 990 false).sect 0 ∧
      (after c { draining 990 false with bankA := sectionless }).mode = .failHold) := by decide +kernel

theorem witness_BudgetTimersReloadAndDecay :
    ((ageing 1050).atRest ∧ (ageing 1050).periodTimer = some ⟨950, 100⟩ ∧ 100 ≤ ((ageing 1050).clock - 950).toNat ∧
      (ageing 1050).readBudget = some plant.budget.content ∧ (ageing 1050).held = []) ∧
    (((onBank budgetless).readBudget = none) ∧ ((ageing 1049).clock - 950).toNat < 100) ∧
    ((ageing 36950).tallyTimer = some ⟨950, 60⟩ ∧ 600 * 60 ≤ ((ageing 36950).clock - 950).toNat ∧
      Store.wf PointDyn.clear (ageing 36950).image = true ∧ ((ageing 36949).clock - 950).toNat < 600 * 60) :=
  ⟨⟨rest _ (by decide), by decide +kernel⟩, by decide +kernel, by decide +kernel⟩

def expiring (c : Clock) : State := { queued3 with clock := c, held := [⟨order 0 1 0, some 1, 990, 1020, .busy, none⟩, heldFor 7] }
theorem witness_OrderTimersExpire :
    ((expiring 1020).atRest ∧ (expiring 1020).held = [] ++ ⟨order 0 1 0, some 1, 990, 1020, .busy, none⟩ :: [heldFor 7] ∧
      (∀ x ∈ [] ++ [heldFor 7], ¬ (x.tel.dest = (order 0 1 0).dest ∧ x.tel.point = (order 0 1 0).point)) ∧
      ((1020 : Clock) - 990).toNat ≤ ((expiring 1020).clock - 990).toNat ∧
      ((expiring 1019).clock - 990).toNat < ((1020 : Clock) - 990).toNat) ∧
    (({ awaiting with clock := 1040 } : State).atRest ∧ ({ awaiting with clock := 1040 } : State).PledgeLaw ∧
      sent 1 (.supervisory 1) .general (some 100) ∈ ({ awaiting with clock := 1040 } : State).entries ∧
      50 ≤ (({ awaiting with clock := 1040 } : State).clock - 990).toNat ∧ awaiting.held = [] ∧
      (awaiting.clock - 990).toNat < 50) ∧
    (awaiting.atRest ∧ ∀ e ∈ awaiting.entries, e.seq = 0 → e.lane = .queued) :=
  ⟨⟨rest _ (by decide), by decide +kernel⟩, ⟨rest _ (by decide), ⟨by decide, by decide, by decide⟩, by decide +kernel⟩,
   rest _ (by decide), by decide +kernel⟩

/-! ### Transmitters -/

/-- DN0 with a priority order behind a general one, or with a copy and a general one. -/
def lanes (p : Bool) (c : Nat) : State :=
  { withPort (.dn .dn0) { portUp with repeatLane := List.replicate c (.point .order (order 0 0 0)) } with
    entries := filler .general .dn0 .queued 0 :: if p then [filler .priority .dn0 .queued 1] else []
    nextSeq := 2 }
/-- A copy in transmission on DN0. -/
def sendingOn (s : State) : State :=
  s.setPort (.dn .dn0) { s.port (.dn .dn0) with line := some (.point .order (order 0 0 0)) }
theorem witness_DnTransmitterTakesTheFirstLane :
    ((lanes true 1).portReady (.dn .dn0) ∧ (lanes true 1).PledgeLaw ∧
      (lanes true 1).entries = [filler .general .dn0 .queued 0] ++ filler .priority .dn0 .queued 1 :: [] ∧
      (lanes true 1).lane .dn0 .priority ≠ [] ∧ (lanes true 1).held = []) ∧
    ((lanes false 0).portReady (.dn .dn0) ∧ (lanes false 0).PledgeLaw ∧
      (lanes false 0).entries = [] ++ filler .general .dn0 .queued 0 :: [] ∧ ((lanes false 0).port (.dn .dn0)).repeatLane = [] ∧
      (lanes false 0).lane .dn0 .priority = []) ∧
    ((lanes false 1).portReady (.dn .dn0) ∧ (lanes false 1).PledgeLaw ∧ (lanes false 1).lane .dn0 .priority = [] ∧
      ((lanes false 1).port (.dn .dn0)).repeatLane = [.point .order (order 0 0 0)]) ∧
    ((∀ s ∈ [lanes true 1, lanes false 0, lanes false 1], (s.port (.dn .dn0)).line = none) ∧
      (sendingOn (lanes true 1)).portReady (.dn .dn0) ∧ (sendingOn (lanes true 1)).PledgeLaw ∧
      ((sendingOn (lanes true 1)).port (.dn .dn0)).line ≠ none) :=
  ⟨⟨ready _ _ (by decide +kernel), ⟨by decide, by decide, by decide⟩, by decide +kernel⟩,
   ⟨ready _ _ (by decide +kernel), ⟨by decide, by decide, by decide⟩, by decide +kernel⟩,
   ⟨ready _ _ (by decide +kernel), ⟨by decide, by decide, by decide⟩, by decide +kernel⟩, by decide +kernel,
   ready _ _ (by decide +kernel), ⟨by decide, by decide, by decide⟩, by decide +kernel⟩
/-- With its line busy the transmitter takes no telegram. -/
theorem test_line_busy : after (.transmission .dn0) (sendingOn (lanes true 1)) = sendingOn (lanes true 1) := by decide +kernel

def aReport : UpItem := ⟨.report (report 10 0 0x30 0), false⟩
def aNotice : UpItem := ⟨.notice ⟨.linkChanged, none, none, .link .up true, 0⟩, false⟩
def anAnswer : UpItem := ⟨.answer (.point .reply (reply 1 0)), false⟩
def aResponse : UpItem := ⟨.response ⟨1, 240, 7, 0, []⟩, false⟩
def aPlace : UpItem := ⟨.place, false⟩
def upWith (l : List UpItem) (d : Option Byte) : State := { live with upQueue := l, noticeDest := d }
theorem witness_UpTransmitterServesTheClasses :
    (∀ x ∈ [aReport, aNotice, anAnswer, aResponse], ∃ l, (upWith (l ++ x :: []) (some 9)).portReady .up ∧
      ((upWith (l ++ x :: []) (some 9)).port .up).line = none ∧ upClass (some 9) x.content < 4 ∧
      ∀ y ∈ l, upClass (some 9) x.content < upClass (some 9) y.content) ∧
    ((upWith [aPlace, aNotice] none).atRest ∧ ((upWith [aPlace, aNotice] none).port .up).line = none ∧
      ∀ y ∈ (upWith [aPlace, aNotice] none).upQueue, upClass (upWith [aPlace, aNotice] none).noticeDest y.content = 4) ∧
    ((withPort .up { portUp with line := some (.mgmt .request fullBody) }).atRest ∧
      ((withPort .up { portUp with line := some (.mgmt .request fullBody) }).port .up).line ≠ none) := by
  refine ⟨fun x hx => ?_, ⟨rest _ (by decide), by decide +kernel⟩, rest _ (by decide +kernel), by decide +kernel⟩
  simp only [List.mem_cons, List.not_mem_nil, or_false] at hx
  rcases hx with rfl | rfl | rfl | rfl
  · exact ⟨[aPlace], ready _ _ (by decide +kernel), by decide +kernel⟩
  · exact ⟨[aPlace, aReport], ready _ _ (by decide +kernel), by decide +kernel⟩
  · exact ⟨[aPlace, aReport, aNotice], ready _ _ (by decide +kernel), by decide +kernel⟩
  · exact ⟨[aPlace, aReport, aNotice, anAnswer], ready _ _ (by decide +kernel), by decide +kernel⟩

/-! ### Shared rules -/

theorem witness_ConditionHoldsByItsThreeTests :
    (live.readPoint (Condition.point ⟨0, .oneOf [.good], .atLeast, 40, 0⟩) = some measure ∧
      live.condHolds ⟨0, .oneOf [.good], .atLeast, 40, 0⟩ = true ∧
      live.condHolds ⟨0, .oneOf [.good], .atLeast, 41, 0⟩ = false) ∧
    (live.setHolds 0 = true ∧ live.setHasStale (some 0) = false ∧ ({ live with image := [] } : State).setHolds 0 = false ∧
      ({ live with image := [] } : State).setHasStale (some 0) = true) := by
  decide +kernel

/-- Section 1 of the factory confirmed empty. -/
def flushing : State := factoryAt 6000 .draining .confirmed
theorem witness_EligibleTransitionsFollowTheCampaignMode :
    (live.mode = .screening ∧ live.definedRec 0 = some sec0) ∧ (failed.mode ≠ .screening) ∧ live.definedRec 9 = none ∧
    ladder .running .draining = some { dependents := true } ∧
    (flushing.autoMove 1 = some .flushed ∧ flushing.definedRec 1 = some diffuser ∧ flushing.activeBank = factory) := by
  decide +kernel

theorem witness_TripActionsAreIssuedOrNoticed :
    (live.windowOf 2 = .window 0 w0 ∧ (live.port (.dn w0.port)).state = .up ∧
      (priorities 7).windowOf 2 = .window 0 w0 ∧ (priorities 7).partCount .priority = 15 ∧
      ((priorities 7).lane w0.port .priority).length = 7) ∧
    (live.windowOf 1109 = .window 2 w2 ∧ (live.port (.dn w2.port)).state ≠ .up) ∧
    ((priorities 8).windowOf 0 = .window 0 w0 ∧ 16 ≤ (priorities 8).partCount .priority) ∧ live.windowOf 2047 = .absent ∧
    (live.readSection 1 = some sec1 ∧ sec1.tripActions = [⟨2, .closePoint, 9⟩] ∧ live.readSection 0 = some sec0 ∧
      sec0.tripActions = []) ∧
    ((onBank windowless).windowOf 0 = .faulty 0 ∧ (onBank sectionless).readSection 0 = none) ∧
    ((HaltCause.feedStop, live.phaseOf 0) ∉ haltTable ∧ (∀ e, (inPhase live 1 .running).activeBank.entryGood e = true) ∧
      (inPhase live 1 .running).definedRec 1 = some sec1 ∧
      (HaltCause.feedStop, (inPhase live 1 .running).phaseOf 1) ∈ haltTable ∧ sec1.permitOut = some 1) ∧
    ((∀ e, armed.activeBank.entryGood e = true) ∧ armed.definedRec 0 = some { sec0 with tripSet := some 0 } ∧
      (HaltCause.trip, armed.phaseOf 0) ∈ haltTable ∧ sec0.permitOut = none) :=
  ⟨by decide +kernel, by decide +kernel, by decide +kernel, by decide +kernel, by decide +kernel, by decide +kernel,
   ⟨by decide +kernel, live_good _ rfl, by decide +kernel⟩, trip_good, by decide +kernel⟩

def heldStart : HeldRec := ⟨order 0 1 0, some 1, 990, 1020, .busy, some .general⟩
theorem witness_ReleaseScanRescreensOldestFirst :
    live.judgeDestination heldStart.tel = .known ⟨1, w0, drive, .start⟩ ∧
    live.judgeOrder heldStart.tel ⟨1, w0, drive, .start⟩ [] = .admission okRow (some .general) ∧
    failed.judgeOrder heldStart.tel ⟨1, w0, drive, .start⟩ [] = .refuse .failHold none ∧
    (holding 0 .warming).judgeOrder heldStart.tel ⟨1, w0, drive, .start⟩ [] = .hold .condition 3 (some .general) ∧
    (holding 0 .ready).judgeOrder heldStart.tel ⟨1, w0, drive, .start⟩ [] = .hold .condition 0 (some .general) ∧
    live.judgeDestination { order 0 1 0 with dest := 13 } = .refused .noRoute none ∧
    (onBank rowless).judgeDestination heldStart.tel = .known ⟨1, w0, drive, .start⟩ ∧
    (onBank rowless).judgeOrder heldStart.tel ⟨1, w0, drive, .start⟩ [] = .refuse .failHold (some ⟨.rows, 0⟩) ∧
    (onBank windowless).judgeDestination heldStart.tel = .refused .noRoute (some ⟨.windows, 0⟩) ∧ live.agenda = [] := by
  decide +kernel

theorem witness_TelegramsDecodeAsEncoded :
    Telegram.wf (.mgmt .request fullBody) = true ∧ decodeTelegram framed = some (.point .order (order 0 1 0)) := by
  decide +kernel

/-! ### What no command breaks -/

theorem witness_BanksAndModeChangeOnlyByTheirRequests : ∃ t, exec .tallyDecay live = .next t := ⟨_, rfl⟩

theorem witness_HaltedIsLeftOnlyByRequest :
    (1 : Nat) < 16 ∧ (inPhase live 1 .halted).activeBank.isDefined 1 = true ∧ (inPhase live 1 .halted).phaseOf 1 = .halted ∧
    ∃ t, exec (.overdueTimerExpiry 1) (inPhase live 1 .halted) = .next t :=
  ⟨by decide, by decide +kernel, by decide +kernel, _, rfl⟩

/-- A step that meets each law: the tally timer's command waits. -/
def lawful : State := { inPhase (inPhase live 1 .halted) 0 .running with pending := [.tallyDecay] }
theorem lawful_modes : lawful.ModeLaw :=
  ⟨by decide, by decide, by decide, by intro h; cases h⟩
theorem lawful_sections : lawful.SectionLaw :=
  ⟨fun n => read_law (fun d : SectionDyn => d.haltCause.isSome = true ↔ d.phase = .halted) _ (by decide) _
      (by decide +kernel) n,
   fun n => read_law (fun d : SectionDyn => d.phase ≠ .draining → d.runEmpty = .notCounting) _ (by decide) _
      (by decide +kernel) n⟩
theorem lawful_points : lawful.PointLaw :=
  ⟨fun n => read_law (fun d : PointDyn => d.tally ≤ 15) _ (by decide) _ (by decide) n,
   fun n => read_law (fun d : PointDyn => d.fresh = true → d.report.isSome = true) _ (by decide) _ (by decide) n⟩
theorem witness_EveryStepKeepsTheModeAndBudgetLaws : lawful.ModeLaw ∧ lawful.BudgetLaw ∧ ∃ t, step lawful = .next t :=
  ⟨lawful_modes, ⟨by decide, by decide, by decide⟩, _, rfl⟩
/-- Two orders held and one outstanding, each at the point of its station point. -/
def ordered : State :=
  { live with
    held := [⟨order 0 1 0, some 1, 990, 1020, .busy, none⟩, ⟨{ order 0 1 0 with dest := 98 }, none, 990, 1020, .busy, none⟩]
    entries := [{ filler .general .dn0 .queued 0 with dest := 10, point := 2, logical := some 2 }]
    nextSeq := 1 }
theorem plant_windows (i p : Nat) (hi : i < 32) (h : (plant.win i).holds p = true) :
    (i = 0 ∧ p < 1024) ∨ (i = 1 ∧ 1024 ≤ p ∧ p < 1034) ∨ (i = 2 ∧ 1100 ≤ p) := by
  have other : ∀ j < 32, 3 ≤ j → (plant.win j).defined = false := by decide +kernel
  rcases Nat.lt_or_ge i 3 with h3 | h3
  · interval_cases i <;> simp [Window.holds, Bank.win, Bank.window, plant, Store.read, Store.find, w0, w1, w2] at h ⊢ <;>
      omega
  · simp [Window.holds, other i hi h3] at h
theorem ordered_law : ordered.OrderLaw := by
  have c1 : ordered.covering 10 1 = .window 0 w0 := by decide +kernel
  have c2 : ordered.covering 98 1 = .absent := by decide +kernel
  have c3 : ordered.covering 10 2 = .window 0 w0 := by decide +kernel
  refine ⟨?_, ?_, by decide +kernel, by decide +kernel, ?_, by decide +kernel, by decide +kernel, by intro h; cases h⟩
  · intro i hi j hj p h1 h2
    have k1 := plant_windows i p hi h1
    have k2 := plant_windows j p hj h2
    omega
  · intro h hh
    simp only [ordered, List.mem_cons, List.not_mem_nil, or_false] at hh
    rcases hh with rfl | rfl
    · simp only [State.pointOf, order, c1]; decide
    · simp only [State.pointOf, order, c2]
  · intro e he _
    simp only [ordered, List.mem_singleton] at he
    subst he
    simp only [State.pointOf, c3]; decide
theorem live_modes (s : State) (h : s.mode = .screening ∧ s.active = some .a ∧ s.standby = .b ∧ s.fault = false ∧
    s.inReset = false) : s.ModeLaw :=
  ⟨by simp [h.1, h.2.1], by rintro i hi; rw [h.2.1] at hi; cases hi; exact h.2.2.1,
   fun _ => by simp [h.1, h.2.2.2.1], by intro hr; rw [h.2.2.2.2] at hr; cases hr⟩
theorem witness_EveryStepKeepsTheSectionPointAndHeldLaws :
    lawful.SectionLaw ∧ lawful.PointLaw ∧ queued3.HeldLaw ∧ (ordered.ModeLaw ∧ ordered.OrderLaw) ∧
    (∃ t, step lawful = .next t) ∧ (∃ t, step queued3 = .next t) ∧ ∃ t, step ordered = .next t :=
  ⟨lawful_sections, lawful_points, ⟨by decide, by decide⟩, ⟨live_modes _ (by decide), ordered_law⟩, ⟨_, rfl⟩, ⟨_, rfl⟩,
   _, rfl⟩
def queueing : State := { awaiting with upQueue := [aReport, aNotice, anAnswer, aResponse, aPlace] }
theorem lawful_stores : lawful.StoreLaw :=
  ⟨by decide +kernel, by decide +kernel, by decide +kernel, by decide +kernel, by decide +kernel, by decide +kernel,
    by decide +kernel⟩
theorem witness_EveryStepKeepsTheLoadPledgeAndQueueLaws :
    (lawful.ModeLaw ∧ lawful.StoreLaw ∧ lawful.LoadLaw ∧ ∃ t, step lawful = .next t) ∧
    (queueing.PledgeLaw ∧ queueing.QueueLaw ∧ ∃ t, step queueing = .next t) ∧
    ((generals 16).TableLaw ∧ ∃ t, step (generals 16) = .next t) := by
  refine ⟨⟨lawful_modes, lawful_stores, ⟨by decide +kernel, by decide⟩, _, rfl⟩,
    ⟨⟨by decide, by decide, by decide⟩, ⟨by decide, by decide, ?_, by decide⟩, _, rfl⟩,
    ⟨by decide +kernel, by decide +kernel, by intro d; cases d <;> decide +kernel,
      by intro d; cases d <;> decide +kernel, by intro d; cases d <;> decide +kernel⟩, _, rfl⟩
  simp [queueing, sameReportKey, aReport, aNotice, anAnswer, aResponse, aPlace]
theorem witness_EveryStepKeepsTheStoreLaw : lawful.StoreLaw ∧ ∃ t, step lawful = .next t := ⟨lawful_stores, _, rfl⟩
/-- Section 0 needs the utility section 1; both run. -/
def needBank : Bank := { plant with sections := [(0, ⟨{ sec0 with needs := [1] }, true⟩), (1, ⟨sec1, true⟩)] }
def needing : State := { inPhase (inPhase (onBank needBank) 1 .running) 0 .running with pending := [.tallyDecay] }
/-- The same with the line of section 1 asserted. -/
def permitting : State := { needing with permitOut := [(1, true)] }
theorem permitting_law : permitting.PermitLaw := by
  have line : ∀ n < 16, ∀ k < 4, ((permitting.definedRec n).any (fun c => c.permitOut == some k &&
      permitting.phaseOf n == .running)) = true → k = 1 := by decide +kernel
  have far : ∀ i n, 16 ≤ n → (permitting.bank i).isDefined n = false := by
    intro i n h
    have h0 : 0 ≠ n := by omega
    have h1 : 1 ≠ n := by omega
    cases i <;> simp [State.bank, permitting, needing, inPhase, State.setSect, onBank, live, needBank, plant,
      Bank.isDefined, Bank.sec, Bank.sectionRec, Store.read, Store.find, h0, h1, SectionRec.empty]
  have named : ∀ n < 16, ∀ k, permitting.activeBank.isDefined n = true →
      (permitting.activeBank.sec n).permitOut = some k → n = 1 := by
    have : ∀ n < 16, (permitting.activeBank.sec n).permitOut.isSome = true → n = 1 := by decide +kernel
    intro n hn k _ h
    exact this n hn (by simp [h])
  have small : ∀ n, permitting.activeBank.isDefined n = true → n < 16 := by
    intro n h
    by_contra hn
    have := far .a n (by omega)
    exact absurd (h.symm.trans this) (by decide)
  refine ⟨far, by unfold State.recordsGood; decide +kernel, ?_, ?_⟩
  · intro n m k dn dm hn hm
    rw [named n (small n dn) k dn hn, named m (small m dm) k dm hm]
  · intro _ k hk
    constructor
    · intro h
      refine ⟨by decide, 1, by decide, sec1, by decide +kernel, ?_, by decide +kernel⟩
      interval_cases k <;> revert h <;> decide +kernel
    · rintro ⟨_, n, hn, c, hc, hp, hr⟩
      have := line n hn k hk (by simp [hc, hp, hr])
      subst this
      decide +kernel
theorem witness_EveryStepKeepsTheNeedAndPermitLaws :
    (needing.ModeLaw ∧ needing.NeedLaw ∧ ∃ t, step needing = .next t) ∧
    (permitting.ModeLaw ∧ permitting.PermitLaw ∧ ∃ t, step permitting = .next t) :=
  ⟨⟨live_modes _ (by decide), ⟨by unfold State.recordsGood; decide +kernel, by decide +kernel, by decide +kernel,
      fun _ => by decide +kernel⟩, _, rfl⟩,
   live_modes _ (by decide), permitting_law, _, rfl⟩

/-! ### Values worked out in the spec -/

/-- The check code of the nine digits 1 to 9 under the generator and preset of R154: the published check value 29B1H of
that code. -/
theorem test_check_code : checkCode [0x31, 0x32, 0x33, 0x34, 0x35, 0x36, 0x37, 0x38, 0x39] = 0x29B1 := by decide +kernel

/-- A set-point last admitted at a clock value (section 5.4.1). -/
def setAt (v : Word) (t now : Clock) : State :=
  ({ live with clock := now }).setPoint 3 { PointDyn.clear with setPoint := some (v, t) }
def heaterRow : ScreenRow := { okRow with low := 200, high := 950, ramp := 30 }
theorem test_ramp_cases :
    (setAt 620 10000 10900).shapeSet 3 heaterRow 900 = 665 ∧ (setAt 665 10900 11500).shapeSet 3 heaterRow 400 = 635 ∧
    (setAt 635 11500 11600).shapeSet 3 heaterRow 638 = 638 ∧
    (setAt 638 11600 12200).shapeSet 3 { heaterRow with high := 600 } 500 = 600 := by decide +kernel
/-- The limit cases of section 5.4.1. -/
theorem test_ramp_limits :
    rampValue 30 (some (-32700, 200)) (-32768) = -32768 ∧ rampAllowance 32767 800000 = 65535 ∧
    ({ live with image := [(3, ⟨some ⟨.auto, 500, 990⟩, true, false, 0, none⟩)] } : State).rampBase 3 20 = some (500, 20) ∧
    rampValue 20 (some (500, 20)) 700 = 520 ∧ rampValue 20 none 700 = 700 := by decide +kernel
/-- The worked case of section 5.5.1. -/
theorem test_gates_case : shapeGates 0x00FF 0x041C 0x0204 = 0x021C := by decide

/-- The windows of section 1.7. -/
def carved : Bank :=
  { Bank.empty with
    windows := [(0, ⟨⟨true, .dn1, 12, 30, 31, 400, true, 20, 5⟩, true⟩), (1, ⟨⟨true, .dn1, 12, 0, 39, 100, false, 20, 5⟩, true⟩),
      (2, ⟨⟨true, .dn2, 12, 200, 215, 420, false, 30, 10⟩, true⟩)] }
def pointOf : Found → Word → Option Nat
  | .window _ w, p => some (w.logicalOf p.toNat)
  | _, _ => none
theorem test_lookup_table :
    (onBank carved).covering 12 50 = .absent ∧ (onBank carved).covering 14 5 = .absent ∧
    ([(5, 105), (30, 400), (31, 401), (205, 425)].all
      (fun x => pointOf ((onBank carved).covering 12 (BitVec.ofNat 16 x.1)) (BitVec.ofNat 16 x.1) == some x.2)) = true := by
  decide +kernel

/-- R63 to R65: a section that its trip set halts on entry is not first moved on by its own re-examination. -/
theorem test_own_halt_first : candidates [.reexamine 1, .reexamine 2, .halt 1 .trip] = [.reexamine 2, .halt 1 .trip] := by
  decide

theorem test_phase_draining :
    ((after .phase (asked (factoryAt 5000 .running .notCounting) 6 [1, 4])).sect 1).phase = .draining ∧
    ((after .phase (asked (factoryAt 5000 .running .notCounting) 6 [1, 4])).sect 1).runEmpty = .notCounting := by decide +kernel
theorem test_phase_in_use :
    (after .phase (asked (factoryAt 5200 .draining (.counting 5120)) 6 [0, 4])).upQueue =
      [⟨.response ⟨1, 240, 7, 1, [4, 0, 0, 0]⟩, false⟩] := by decide +kernel
theorem test_report_counts :
    ((after (.report .dn0 (report 10 140 0x30 4)) (factoryAt 5120 .draining .notCounting)).sect 1).runEmpty =
      .counting 5120 := by decide +kernel
theorem test_report_above_threshold :
    ((after (.report .dn0 (report 10 140 0x30 12)) (factoryAt 5300 .draining (.counting 5120))).sect 1).runEmpty =
      .notCounting := by decide +kernel
/-- R37: a report above the threshold ends a count although it repeats what the point shows. -/
theorem test_repeated_report_above_threshold :
    ((after (.report .dn0 (report 10 140 0x30 85)) highFlow).sect 1).runEmpty = .notCounting := by decide +kernel
theorem test_confirmation :
    ((after (.confirmationTimerExpiry 1) (factoryAt 5950 .draining (.counting 5350))).sect 1) =
      ⟨.flushed, 5950, none, .notCounting, false, true⟩ := by decide +kernel
/-- The tank fills and halts its feeder, as in section 4.6. -/
theorem test_store_full :
    ((after (.report .dn0 (report 10 150 0x30 9000)) (factoryAt 6000 .running .notCounting)).sect 1) =
      ⟨.halted, 6000, some .storeFull, .notCounting, false, true⟩ ∧
    (after (.report .dn0 (report 10 150 0x30 8999)) (factoryAt 6000 .running .notCounting)).phaseOf 1 = .running := by
  decide +kernel
/-- The end of the halt line halts and releases nothing (R61): the sections stay as they are. -/
theorem test_halt_line_off :
    ((List.range 4).map (fun n =>
      ((after .campaignHaltDeasserted (halted (factoryAt 6000 .draining .notCounting))).phaseOf n))) =
      [.running, .draining, .running, .running] := by decide +kernel

/-- The drive of section 5.9: START 301 admitted at 20,000. -/
def pressHouse : Bank :=
  { Bank.empty with
    windows := [(0, ⟨w0, true⟩)]
    points := [(301, ⟨⟨.drive, some 3, 180, 90, 3, 0⟩, true⟩), (302, ⟨⟨.drive, some 3, 150, 120, 4, 0⟩, true⟩)]
    sections := [(3, ⟨{ SectionRec.empty with defined := true, profile := 2 }, true⟩)]
    rows := [(119, ⟨{ okRow with holdLimit := 30 }, true⟩)]
    budget := ⟨⟨50, 1200, 300, 4300, 60⟩, true⟩ }
def atPress : State :=
  inPhase { onBank pressHouse with
    clock := 20000
    image := [(301, ⟨some ⟨.stopped, 0, 1⟩, true, false, 1, none⟩), (302, ⟨some ⟨.stopped, 0, 1⟩, true, false, 0, none⟩)]
    load := 4000
    remaining := 500
    unusedReserve := 100 } 3 .running
theorem test_start_admitted :
    (let t := after (.order ⟨10, 1, 7, 301, 0, 0, 0⟩) atPress
     (t.load, t.pledgeSum, t.remaining, (t.point 301).tally, t.entries.length)) = (4000, 180, 410, 2, 1) := by decide +kernel
theorem test_start_held :
    (after (.order ⟨10, 1, 8, 302, 0, 0, 0⟩) { atPress with pledgeSum := 180, clock := 20004 }).held =
      [⟨⟨10, 1, 8, 302, 0, 0, 0⟩, some 302, 20004, 20304, .load, some .general⟩] := by decide +kernel

/-- The status body has the length R175 and R173 give it, counted by hand: 5 + 16 × 12 + 5 × 4 + 19 + 13. -/
theorem test_status_length : live.statusBody.length = 5 + 16 * 12 + 5 * 4 + 19 + 13 := by decide +kernel
theorem test_status_response :
    (after .readStatus (asked live 8 [])).requests = [] ∧ (after .readStatus (asked live 8 [])).noticeLost = false := by
  decide +kernel
theorem test_reset_part : (after .resetPart (asked live 12 [])).image = [] := by decide +kernel
theorem test_write_table :
    (after .writeTable (asked live 1 (budgetBody 0 1 99))).bankB.budget = ⟨⟨99, 30, 10, 500, 60⟩, true⟩ := by decide +kernel
/-- R50, R58: a wind-down of sections that are all IDLE is complete at once. -/
theorem test_wind_down_completes :
    (after .campaignWindDown (asked { live with campaign := .inCampaign } 7 [3])).campaign = .outOfCampaign := by
  decide +kernel
/-- R174: a list of a condition set with a count above its limit is still read, so that a byte that holds no code makes the body
unreadable. -/
def setBody (test : Byte) : List Byte :=
  [4, 0, 0, 1, 1, 0, 9] ++ List.replicate (7 * 17) 0 ++ [0, 0, test] ++ List.replicate 14 0
theorem test_long_list_is_read : readWriteBody (setBody 2) = none ∧ (readWriteBody (setBody 0)).isSome = true := by
  decide +kernel
/-- R33: whatever the damaged record of a section that is not RUNNING holds, it is neither. -/
theorem test_store_flags_damaged : (onBank sectionless).storeFlags 0 = [0, 0] := by decide +kernel
/-- R33, R34: the tank of the factory, RUNNING between its limits, is accepting and delivering. -/
theorem test_store_flags : fullTank.storeFlags 2 = [1, 1] ∧ fullTank.storeFlags 1 = [0, 0] := by decide +kernel
theorem test_period_boundary :
    (after .periodBoundary { ageing 1050 with remaining := 0, unusedReserve := 0 }).remaining = 30 ∧
    (after .periodBoundary (ageing 1049)).periodNumber = 0 := by decide +kernel
/-- R22, R46: an IDLE section with its mark set was defined, its old record damaged or not, so that the mark goes where the new
bank does not define it. R165: a report whose point has a damaged static part ends in FAIL_HOLD. -/
theorem test_swap_damaged_mark :
    ((onBank Bank.empty).setSect 0 ⟨.idle, 900, none, .notCounting, false, true⟩).carriedSection sectionless 0 =
      ⟨.idle, 900, none, .notCounting, false, false⟩ := by decide +kernel
theorem test_report_damaged_static :
    (after (.report .dn0 (report 10 1 0x7F 0)) (onBank damaged)).mode = .failHold := by decide +kernel
theorem test_swap_out_of_transparent :
    (after .swapCheckEnd leaving).mode = .screening ∧ (after .swapCheckEnd leaving).remaining = 30 := by decide +kernel
theorem test_proving :
    (after (.provingTimerExpiry .up) (withPort .up ⟨.proving, true, some 500, none, false, false, false, [], none⟩)).port .up =
      portUp := by decide +kernel
theorem test_transmission :
    ((after (.transmission .dn0) (lanes true 1)).port (.dn .dn0)).line =
      some (.point .order ⟨99, 9, 0, 500, 1, 0, 0⟩) := by decide +kernel

end Sys2Proof.Tests
end

section
/-! PROOF. The phase ladder, the terms of a requirement and the automatic transitions by campaign mode (R28, R29,
R31, R53). -/

namespace Sys2Proof.Machine

/-! ### What steady states share -/

theorem State.activeBank_of_steady {s t : State} (h : t.steady = s.steady) : t.activeBank = s.activeBank := by
  have hactive : t.active = s.active := congrArg Steady.active h
  have hbankA : t.bankA = s.bankA := congrArg Steady.bankA h
  have hbankB : t.bankB = s.bankB := congrArg Steady.bankB h
  unfold State.activeBank State.bank
  rw [hactive, hbankA, hbankB]

theorem State.definedRec_of_activeBank {s t : State} (h : t.activeBank = s.activeBank) (n : Nat) :
    t.definedRec n = s.definedRec n := by
  simp only [State.definedRec, State.readSection, h]

@[simp] theorem State.offerNotice_mode (s : State) (k : NoticeKind) (a b : Option Nat) (c : Cause) :
    (s.offerNotice k a b c).mode = s.mode := by
  unfold State.offerNotice; split_ifs <;> rfl

@[simp] theorem State.offerNotice_sect (s : State) (k : NoticeKind) (a b : Option Nat) (c : Cause) (n : Nat) :
    (s.offerNotice k a b c).sect n = s.sect n := by
  unfold State.offerNotice; split_ifs <;> rfl

@[simp] theorem State.offerNotice_agenda (s : State) (k : NoticeKind) (a b : Option Nat) (c : Cause) :
    (s.offerNotice k a b c).agenda = s.agenda := by
  unfold State.offerNotice; split_ifs <;> rfl

@[simp] theorem State.permitOutOf_agenda (s : State) (n : Nat) : (s.permitOutOf n).agenda = s.agenda := by
  unfold State.permitOutOf; (repeat' split) <;> rfl

/-! ### The ladder (R28) -/

theorem ladder_eq_some_iff (p t : Phase) (q : Requirement) : ladder p t = some q ↔ (p, t, q) ∈ ladderTable := by
  constructor
  · intro h
    unfold ladder at h
    split at h
    case h_13 => cases h
    all_goals
      obtain rfl := Option.some.inj h
      decide
  · intro h
    have htable : ∀ e ∈ ladderTable, ladder e.1 e.2.1 = some e.2.2 := by decide
    exact htable _ h

/-! ### Terms of a requirement (R29) -/

theorem Phase.finished_iff (p : Phase) : p.finished = true ↔ p = .flushed ∨ p = .idle := by
  cases p <;> simp [Phase.finished]

theorem Phase.working_iff (p : Phase) : p.working = true ↔ p ∈ [Phase.warming, .ready, .running, .draining] := by
  cases p <;> simp [Phase.working]

theorem State.mem_dependents (s : State) (n m : Nat) :
    m ∈ s.dependents n ↔ m < 16 ∧ ∃ c, s.definedRec m = some c ∧ n ∈ c.needs := by
  cases h : s.definedRec m <;> simp [State.dependents, sectionNumbers, h]

theorem State.mem_feeders (s : State) (n m : Nat) :
    m ∈ s.feeders n ↔ m < 16 ∧ ∃ c, s.definedRec m = some c ∧ n ∈ c.feeds := by
  cases h : s.definedRec m <;> simp [State.feeders, sectionNumbers, h]

theorem State.dependents_finished_iff (s : State) (n : Nat) :
    (∀ m ∈ s.dependents n, (s.phaseOf m).finished = true) ↔ finishedDependents s n := by
  simp only [State.mem_dependents, Phase.finished_iff, finishedDependents]
  exact ⟨fun h m hm c hc hn => h m ⟨hm, c, hc, hn⟩, fun h m ⟨hm, c, hc, hn⟩ => h m hm c hc hn⟩

theorem State.feeders_finished_iff (s : State) (n : Nat) :
    (∀ m ∈ s.feeders n, (s.phaseOf m).finished = true) ↔ finishedFeeders s n := by
  simp only [State.mem_feeders, Phase.finished_iff, finishedFeeders]
  exact ⟨fun h m hm c hc hn => h m ⟨hm, c, hc, hn⟩, fun h m ⟨hm, c, hc, hn⟩ => h m hm c hc hn⟩

theorem State.dependentsFinished_iff (s : State) (n : Nat) :
    s.dependentsFinished n = true ↔ finishedDependents s n := by
  rw [State.dependentsFinished, List.all_eq_true, State.dependents_finished_iff]

theorem State.feedersFinished_iff (s : State) (n : Nat) : s.feedersFinished n = true ↔ finishedFeeders s n := by
  rw [State.feedersFinished, List.all_eq_true, State.feeders_finished_iff]

theorem State.needsRunning_iff (s : State) (c : SectionRec) :
    s.needsRunning c = true ↔ ∀ m ∈ c.needs, s.phaseOf m = .running := by
  simp [State.needsRunning]

theorem State.permitOk_iff (s : State) (c : SectionRec) :
    s.permitOk c = true ↔ ∀ k, c.permitIn = some k → s.permitInLevel k = true := by
  cases h : c.permitIn <;> simp [State.permitOk, h]

theorem State.accepting_iff (s : State) (n : Nat) (c : SectionRec) : s.accepting n c = true ↔ isAccepting s n c := by
  cases hl : c.level with
  | none => simp [State.accepting, isAccepting, hl]
  | some l => cases hr : (s.point l.point).report <;> simp [State.accepting, isAccepting, hl, hr]

theorem State.feedsOpen_iff (s : State) (c : SectionRec) : s.feedsOpen c = true ↔ opensFeeds s c := by
  simp only [State.feedsOpen, List.all_eq_true, opensFeeds]
  refine forall₂_congr fun m _ => ?_
  cases s.readSection m with
  | none => simp
  | some f =>
    by_cases hstore : f.role = .store
    · have hrunning : isAccepting s m f → s.phaseOf m = .running := And.left
      simpa [hstore, State.accepting_iff] using hrunning
    · simp [hstore]

theorem State.isConfirmed_iff (s : State) (n : Nat) : s.isConfirmed n = true ↔ (s.sect n).runEmpty = .confirmed := by
  simp [State.isConfirmed]

/-- The deciding set of a requirement, if it names one, passes and is not stale-blocked (R28). -/
def State.decidingPasses (s : State) (c : SectionRec) : Option DecidingSet → Bool
  | some d => s.decidingHolds c d && !s.staleBlocked c d
  | none => true

/-- A set that holds is not stale-blocked, so that a warm, run or flush set passes when it holds; the trip set passes when it
does not hold and names no STALE point (R26, R28). -/
theorem State.decidingPasses_iff (s : State) (c : SectionRec) (o : Option DecidingSet) :
    s.decidingPasses c o = true ↔
      (o = some .warm → s.setHoldsOr true c.warmSet = true) ∧
      (o = some .run → s.setHoldsOr true c.runSet = true) ∧
      (o = some .flush → s.setHoldsOr true c.flushSet = true) ∧
      (o = some .trip → s.setHoldsOr false c.tripSet = false ∧ s.setHasStale c.tripSet = false) := by
  cases o with
  | none => simp [State.decidingPasses]
  | some d =>
    cases d with
    | trip => simp [State.decidingPasses, State.decidingHolds, State.staleBlocked]
    | warm | run | flush =>
      simp +contextual [State.decidingPasses, State.decidingHolds, State.staleBlocked, SectionRec.deciding]

theorem State.requirementHolds_eq (s : State) (n : Nat) (c : SectionRec) (q : Requirement) :
    s.requirementHolds n c q =
      ((!q.needs || s.needsRunning c) && (!q.haltLine || !s.campaignHalt) && (!q.permit || s.permitOk c) &&
        (!q.feeds || s.feedsOpen c) && (!q.dependents || c.role != .utility || s.dependentsFinished n) &&
        (!q.drained || (s.isConfirmed n && s.feedersFinished n)) && (!q.notWindDown || s.campaign != .windDown) &&
        s.decidingPasses c q.deciding) := rfl

/-- A term that a requirement names or not, as the flag `b` says. -/
theorem flag_or_eq_true_iff {b x : Bool} {P : Prop} (h : x = true ↔ P) : (!b || x) = true ↔ (b = true → P) := by
  cases b <;> simp [h]

theorem State.requirementHolds_iff (s : State) (n : Nat) (c : SectionRec) (q : Requirement) :
    s.requirementHolds n c q = true ↔ termsHold s n c q := by
  have hhalt : (!s.campaignHalt) = true ↔ s.campaignHalt = false := by simp
  have hutility : (c.role != .utility || s.dependentsFinished n) = true ↔
      (c.role = .utility → finishedDependents s n) := by
    simp [← State.dependentsFinished_iff, or_iff_not_imp_left]
  have hdrained : (s.isConfirmed n && s.feedersFinished n) = true ↔
      (s.sect n).runEmpty = .confirmed ∧ finishedFeeders s n := by
    rw [Bool.and_eq_true, State.isConfirmed_iff, State.feedersFinished_iff]
  have hwindDown : (s.campaign != .windDown) = true ↔ s.campaign ≠ .windDown := by simp
  simp only [State.requirementHolds_eq, Bool.or_assoc, Bool.and_eq_true, and_assoc, termsHold, State.decidingPasses_iff,
    flag_or_eq_true_iff (s.needsRunning_iff c), flag_or_eq_true_iff hhalt,
    flag_or_eq_true_iff (s.permitOk_iff c), flag_or_eq_true_iff (s.feedsOpen_iff c), flag_or_eq_true_iff hutility,
    flag_or_eq_true_iff hdrained, flag_or_eq_true_iff hwindDown]

/-! ### Automatic transitions (R31, R53) -/

/-- The transitions R53 makes eligible, by campaign mode. -/
def eligibleTable : List (CampaignMode × Phase × Phase) :=
  [(.outOfCampaign, .draining, .flushed),
   (.startUp, .idle, .warming), (.startUp, .warming, .ready), (.startUp, .ready, .running),
   (.startUp, .draining, .flushed), (.inCampaign, .draining, .flushed),
   (.windDown, .running, .draining), (.windDown, .draining, .flushed), (.windDown, .flushed, .idle)]

theorem eligibleTarget_eq_some_iff (m : CampaignMode) (p t : Phase) :
    eligibleTarget m p = some t ↔ (m, p, t) ∈ eligibleTable := by
  cases m <;> cases p <;> simp [eligibleTarget, eligibleTable, eq_comm]

theorem eligibleTarget_halted (m : CampaignMode) : eligibleTarget m .halted = none := by
  cases m <;> rfl

theorem eligibleTarget_draining_iff {m : CampaignMode} {p t : Phase} (h : eligibleTarget m p = some t) :
    t = .draining ↔ m = .windDown ∧ p = .running := by
  have htable : ∀ e ∈ eligibleTable, e.2.2 = .draining ↔ e.1 = .windDown ∧ e.2.1 = .running := by decide
  exact htable _ ((eligibleTarget_eq_some_iff m p t).1 h)

theorem State.feedersRunDown_iff (s : State) (n : Nat) :
    s.feedersRunDown n = true ↔
      ∀ m ∈ s.feeders n, s.phaseOf m = .draining ∨ s.phaseOf m = .flushed ∨ s.phaseOf m = .idle := by
  simp only [State.feedersRunDown, List.all_eq_true, Bool.or_eq_true, Phase.finished_iff, beq_iff_eq, or_comm]

theorem State.furtherCondition_iff (s : State) (n : Nat) (c : SectionRec) (t : Phase) :
    s.furtherCondition n c t = true ↔
      (t = .draining → c.role ≠ .utility →
        ∀ m ∈ s.feeders n, s.phaseOf m = .draining ∨ s.phaseOf m = .flushed ∨ s.phaseOf m = .idle) := by
  rw [← State.feedersRunDown_iff, ← and_imp, State.furtherCondition]
  split <;> rename_i h <;> simp [h]

theorem State.autoMove_eq_some_iff {s : State} {n : Nat} {c : SectionRec} (hmode : s.mode = .screening)
    (hc : s.definedRec n = some c) (t : Phase) :
    s.autoMove n = some t ↔ eligibleTarget s.campaign (s.phaseOf n) = some t ∧
      (∃ q, ladder (s.phaseOf n) t = some q ∧ s.requirementHolds n c q = true) ∧ s.furtherCondition n c t = true := by
  simp only [State.autoMove, hmode, hc, if_true]
  cases eligibleTarget s.campaign (s.phaseOf n) with
  | none => simp
  | some u =>
    by_cases hu : u = t
    · subst hu
      cases hq : ladder (s.phaseOf n) u <;> simp [hq]
    · cases hq : ladder (s.phaseOf n) u <;> simp [hq, hu]

theorem State.screening_of_autoMove {s : State} {n : Nat} {t : Phase} (h : s.autoMove n = some t) :
    s.mode = .screening := by
  by_contra hmode
  simp [State.autoMove, hmode] at h

theorem State.autoMove_eq_none (s : State) (n : Nat)
    (h : s.mode ≠ .screening ∨ s.definedRec n = none ∨ s.phaseOf n = .halted) : s.autoMove n = none := by
  rcases h with hmode | hundefined | hhalted
  · simp [State.autoMove, hmode]
  · simp [State.autoMove, hundefined]
  · cases hc : s.definedRec n <;> simp [State.autoMove, hc, hhalted, eligibleTarget_halted]

theorem State.autoMove_iff_table {s : State} {n : Nat} {c : SectionRec} (hmode : s.mode = .screening)
    (hc : s.definedRec n = some c) (t : Phase) :
    s.autoMove n = some t ↔
      (s.campaign, s.phaseOf n, t) ∈ eligibleTable ∧
      (∃ q, ladder (s.phaseOf n) t = some q ∧ s.requirementHolds n c q = true) ∧
      (s.campaign = .windDown → s.phaseOf n = .running → c.role ≠ .utility →
        ∀ m ∈ s.feeders n, s.phaseOf m = .draining ∨ s.phaseOf m = .flushed ∨ s.phaseOf m = .idle) := by
  rw [State.autoMove_eq_some_iff hmode hc, ← eligibleTarget_eq_some_iff]
  refine and_congr_right fun helig => and_congr_right fun _ => ?_
  rw [State.furtherCondition_iff, eligibleTarget_draining_iff helig, and_imp]

/-! ### The phase change a re-examination makes (R27, R32) -/

theorem State.drainEntry_eq_emptyOnEntry (s : State) (l : List FlowPoint) : s.drainEntry l = emptyOnEntry s l := by
  have hlow : s.flowLow = fun f =>
      match (s.point f.point).report with
      | some rep => (s.point f.point).fresh && decide (rep.value.toInt ≤ f.threshold.toInt)
      | none => false := by
    funext f
    cases h : (s.point f.point).report <;> simp [State.flowLow, h]
  rw [State.drainEntry, hlow]
  exact if_congr List.isEmpty_iff rfl rfl

theorem State.inPhase_of_definedRec {s : State} {n : Nat} {c : SectionRec} (hc : s.definedRec n = some c) (t : Phase) :
    s.inPhase n t none =
      ⟨t, s.clock, none, (if t = .draining then emptyOnEntry s c.flowPoints else .notCounting), false, true⟩ := by
  simp [State.inPhase, State.runEmptyOnEntry, hc, State.drainEntry_eq_emptyOnEntry]

theorem State.permitOutOf_none {s : State} {n : Nat} {c : SectionRec} (hc : s.definedRec n = some c)
    (hout : c.permitOut = none) : s.permitOutOf n = s := by
  simp [State.permitOutOf, hc, hout]

theorem State.permitOutOf_some {s : State} {n k : Nat} {c : SectionRec} (hc : s.definedRec n = some c)
    (hout : c.permitOut = some k) (hmode : s.mode ≠ .transparent) :
    s.permitOutOf n = s.setPermitOut k (s.phaseOf n == .running) := by
  have hactive : (s.mode != .transparent) = true := by simpa using hmode
  simp [State.permitOutOf, hc, hout, hactive]

theorem State.related_iff_concerns {s : State} {n : Nat} {c : SectionRec} (hc : s.definedRec n = some c) (m : Nat) :
    m ∈ sectionNumbers.filter (s.related n) ↔ concerns s n c m := by
  cases hm : s.definedRec m <;>
    simp [sectionNumbers, State.related, concerns, hc, hm, or_assoc, or_comm, or_left_comm]

theorem State.changeTasks_startedBy {s : State} {n : Nat} {c : SectionRec} (hc : s.definedRec n = some c) (t : Phase) :
    startedBy s n c t (s.changeTasks n t) := by
  refine ⟨_, sectionNumbers.filter (s.related n), rfl, State.related_iff_concerns hc, ?_⟩
  have htrip : (t.working && s.setHoldsOr false c.tripSet) = true ↔
      t ∈ [Phase.warming, .ready, .running, .draining] ∧ s.setHoldsOr false c.tripSet = true := by
    rw [Bool.and_eq_true, Phase.working_iff]
  have hlost : (t = .ready ∨ t = .running) ↔ t ∈ [Phase.ready, .running] := by simp
  simp only [State.entryHalt, hc, htrip, hlost]
  split_ifs <;> rfl

/-- Section `n` in its new phase `t` with the notice offered, before PERMIT-OUT follows: the first part of a phase change. -/
def State.phaseEntered (s : State) (n : Nat) (t : Phase) : State :=
  (s.setSect n (s.inPhase n t none)).offerNotice .phaseChanged (some n) none (.phase t)

@[simp] theorem State.phaseEntered_steady (s : State) (n : Nat) (t : Phase) : (s.phaseEntered n t).steady = s.steady := by
  simp [State.phaseEntered]

@[simp] theorem State.phaseEntered_mode (s : State) (n : Nat) (t : Phase) : (s.phaseEntered n t).mode = s.mode := by
  simp [State.phaseEntered]

@[simp] theorem State.phaseEntered_agenda (s : State) (n : Nat) (t : Phase) : (s.phaseEntered n t).agenda = s.agenda := by
  simp [State.phaseEntered]

@[simp] theorem State.phaseEntered_phaseOf (s : State) (n : Nat) (t : Phase) : (s.phaseEntered n t).phaseOf n = t := by
  simp [State.phaseEntered, State.phaseOf, State.inPhase]

/-- With every entry of the active bank good, the reads of a phase change take no fault. -/
theorem State.changePhase_of_good {s : State} (hgood : ∀ e, s.activeBank.entryGood e = true) (n : Nat) (t : Phase) :
    s.changePhase n t none =
      ((s.phaseEntered n t).permitOutOf n).addTasks (((s.phaseEntered n t).permitOutOf n).changeTasks n t) := by
  have hbank : ((s.phaseEntered n t).permitOutOf n).activeBank = s.activeBank := State.activeBank_of_steady (by simp)
  have hreads (l : List EntryRef) :
      ((s.phaseEntered n t).permitOutOf n).checkReads l = (s.phaseEntered n t).permitOutOf n :=
    State.checkReads_of_good _ l fun e _ => hbank ▸ hgood e
  rw [← hreads (sectionRefs ++ ((s.phaseEntered n t).permitOutOf n).entryReads n t)]
  rfl

/-- With every entry of the active bank good, a phase change other than an entry to HALTED makes what R27 says of it. -/
theorem State.changePhase_phaseChanged {s : State} {n : Nat} {c : SectionRec}
    (hgood : ∀ e, s.activeBank.entryGood e = true) (hmode : s.mode ≠ .transparent) (hc : s.definedRec n = some c)
    (t : Phase) : phaseChanged s n c t (s.changePhase n t none) := by
  have hentered : (s.phaseEntered n t).definedRec n = some c :=
    (State.definedRec_of_activeBank (State.activeBank_of_steady (by simp)) n).trans hc
  have hpermit : ((s.phaseEntered n t).permitOutOf n).definedRec n = some c :=
    (State.definedRec_of_activeBank (State.activeBank_of_steady (by simp)) n).trans hc
  refine ⟨s.phaseEntered n t, _, _, ?_, State.permitOutOf_none hentered, fun k hk => ?_,
    State.changeTasks_startedBy hpermit t, ?_⟩
  · rw [← State.inPhase_of_definedRec hc t, State.phaseEntered]
  · rw [State.permitOutOf_some hentered hk (by simpa using hmode), State.phaseEntered_phaseOf]
  · rw [State.changePhase_of_good hgood, State.addTasks, State.permitOutOf_agenda, State.phaseEntered_agenda]

theorem State.reexamine_of_autoMove_none {s : State} {n : Nat} (hgood : ∀ e, s.activeBank.entryGood e = true)
    (h : s.autoMove n = none) : s.reexamine n = s := by
  simp only [State.reexamine, State.checkReads_of_good s _ fun e _ => hgood e, h]

theorem State.reexamine_of_autoMove_some {s : State} {n : Nat} {t : Phase}
    (hgood : ∀ e, s.activeBank.entryGood e = true) (h : s.autoMove n = some t) :
    s.reexamine n = s.changePhase n t none := by
  simp only [State.reexamine, State.checkReads_of_good s _ fun e _ => hgood e, h]

/-- Settles O49, from the tables of R28 and R53, the terms of R29 one by one, and what a phase change makes of the state. -/
theorem eligibleTransitionsFollowTheCampaignMode : Obligations.EligibleTransitionsFollowTheCampaignMode := by
  refine ⟨ladder_eq_some_iff, State.requirementHolds_iff, fun s c => ⟨s.feedsOpen_iff c, s.permitOk_iff c,
    s.dependents_finished_iff, s.feeders_finished_iff⟩, fun s n c hmode hc => State.autoMove_iff_table hmode hc,
    State.autoMove_eq_none, fun s n hgood => ⟨State.reexamine_of_autoMove_none hgood, fun t c hmove hc => ?_⟩⟩
  have hmode : s.mode ≠ .transparent := by simp [State.screening_of_autoMove hmove]
  rw [State.reexamine_of_autoMove_some hgood hmove]
  exact State.changePhase_phaseChanged hgood hmode hc t

end Sys2Proof.Machine
end

section
/-! PROOF. Steps 12 to 14 of the verdict sequence for orders other than START, and the shaping of SET and GATES orders (R92,
R93, R96, R98, R99). -/

namespace Sys2Proof.Machine

/-! ### From a passing row to the effect of the verdict (R92, R93, R96) -/

theorem State.judgeSlot_of_free {s : State} {a : Addressed} (hfree : s.generalFree a.window.port = true)
    (row : ScreenRow) (c : Option BudgetClass) :
    s.judgeSlot a row c =
      if a.action = .gates ∧ (s.point a.logical).fresh = false ∧ row.gates ≠ 0xFFFF then .refuse .stale none
      else .admission row c := by
  simp [State.judgeSlot, hfree]

@[simp] theorem State.charge_none (s : State) (k : Nat) : s.charge none k = s := rfl

@[simp] theorem State.admitPoint_agenda (s : State) (a : Addressed) (v : Word) : (s.admitPoint a v).agenda = s.agenda := by
  unfold State.admitPoint
  split <;> rfl

theorem State.pledgeOf_of_ne_start {s : State} {a : Addressed} (h : a.action ≠ .start) : s.pledgeOf a = none := by
  simp [State.pledgeOf, h]

theorem State.addEntry_orderEntry (s : State) (k : EntryPart) (o : PointTel) (w : Window) (st : PointStatic) (a : Action)
    (v : Word) (pledge : Option Nat) (shaped : Bool) :
    s.addEntry (orderEntry k o ⟨w.logicalOf o.point.toNat, w, st, a⟩ v pledge shaped) =
      { s with
        entries := s.entries ++ [s.entryFor k o w a v pledge shaped]
        nextSeq := s.nextSeq + 1 } := rfl

/-- An order of no budget class that is no START changes its point's dynamic part and makes its entry, without a pledge. -/
theorem State.admitOrder_of_ne_start {s : State} {a : Addressed} (h : a.action ≠ .start) (o : PointTel) (row : ScreenRow) :
    s.admitOrder o a row none =
      (s.admitPoint a (s.shape a row o.value)).addEntry
        (orderEntry .general o a (s.shape a row o.value) none (a.isShaped o.value (s.shape a row o.value))) := by
  simp only [State.admitOrder, State.pledgeOf_of_ne_start h, State.charge_none]
  rfl

/-- An order whose row passes and that is no STOP, CLOSE or START, with room in the general part and lane: it is admitted
unless step 13 refuses it. -/
theorem State.Screens.exec_slot {s : State} {o : PointTel} {w : Window} {st : PointStatic} {a : Action} {n : Nat}
    {r : SectionRec} {row : ScreenRow} (hs : s.Screens o) (hon : s.HandsOn o w st a)
    (hheld : s.noneHeld (w.logicalOf o.point.toNat)) (hrow : s.RowPasses o (w.logicalOf o.point.toNat) st a n r row)
    (ha : a ≠ .stop ∧ a ≠ .closePoint ∧ a ≠ .start)
    (hroom : s.partCount .general < 48 ∧ (s.lane w.port .general).length < 16) :
    exec (.order o) s = .next
      (if a = .gates ∧ (s.point (w.logicalOf o.point.toNat)).fresh = false ∧ row.gates ≠ 0xFFFF then s.refusedWith o .stale
       else s.admitOrder o ⟨w.logicalOf o.point.toNat, w, st, a⟩ row none) := by
  obtain ⟨hstop, hclose, hstart⟩ := ha
  obtain ⟨⟨_, hquiet⟩, _⟩ := hs.ready
  rw [hs.exec_verdict hon hheld, hrow.judged hstop hclose, if_neg hstart,
    State.judgeSlot_of_free ((s.generalFree_iff w.port).2 hroom)]
  split_ifs
  · rw [State.applyNew, State.refuseFault, State.takeFault, State.refuse_eq,
      State.settled_of_quiet (s.refusedWith o .stale) hquiet]
  · rw [State.applyNew, State.settled_of_quiet]
    rw [State.admitOrder_of_ne_start hstart, State.addEntry_agenda, State.admitPoint_agenda, hquiet]

/-! ### The shaped value of a SET order (R98) -/

/-- An integer that a two-byte signed field can carry (R98). -/
def FitsWord (i : Int) : Prop := -32768 ≤ i ∧ i ≤ 32767

theorem Word.toInt_fits (v : Word) : FitsWord v.toInt := by
  have hlow := v.le_toInt
  have hhigh := v.toInt_lt
  unfold FitsWord
  omega

theorem Word.toInt_ofInt_of_fits {i : Int} (h : FitsWord i) : (BitVec.ofInt 16 i).toInt = i := by
  obtain ⟨hlow, hhigh⟩ := h
  exact BitVec.toInt_ofInt_eq_self (by decide) (by omega) (by omega)

/-- A clamped value is one of the limits or the value itself, so it fits where all three do. -/
theorem clampInt_fits {lo hi v : Int} (hlo : FitsWord lo) (hhi : FitsWord hi) (hv : FitsWord v) :
    FitsWord (clampInt lo hi v) := by
  unfold clampInt
  split_ifs
  exacts [hlo, hhi, hv]

/-- The ramp limits of R98 fit a word around every base that does. -/
theorem rampLimits_fit {b : Int} (hb : FitsWord b) (a : Nat) :
    FitsWord (max (b - a) (-32768)) ∧ FitsWord (min (b + a) 32767) := by
  unfold FitsWord at *
  omega

theorem State.rampBase_eq_setBase (s : State) (p ramp : Nat) : s.rampBase p ramp = setBase s p ramp := by
  unfold State.rampBase setBase
  cases (s.point p).setPoint with
  | some admitted => rfl
  | none => cases (s.point p).report <;> rfl

theorem State.rampBase_fits {s : State} {p ramp : Nat} {b : Int} {a : Nat} (h : s.rampBase p ramp = some (b, a)) :
    FitsWord b := by
  unfold State.rampBase at h
  split at h
  next v t _ => cases h; exact Word.toInt_fits v
  next =>
    split at h
    next rep _ =>
      split_ifs at h
      cases h
      exact Word.toInt_fits rep.value
    next => cases h

theorem State.rampValue_fits (s : State) (p ramp : Nat) (q : Word) :
    FitsWord (rampValue ramp (s.rampBase p ramp) q.toInt) := by
  unfold rampValue
  split
  next b a hbase =>
    obtain ⟨hlow, hhigh⟩ := rampLimits_fit (State.rampBase_fits hbase) a
    split_ifs
    exacts [Word.toInt_fits q, clampInt_fits hlow hhigh (Word.toInt_fits q)]
  next => exact Word.toInt_fits q

/-- The shaped value is formed exactly on integers: no word wraps (R98). -/
theorem State.shapeSet_toInt (s : State) (p : Nat) (row : ScreenRow) (q : Word) :
    (s.shapeSet p row q).toInt =
      clampInt row.low.toInt row.high.toInt (rampValue row.ramp (s.rampBase p row.ramp) q.toInt) :=
  Word.toInt_ofInt_of_fits
    (clampInt_fits (Word.toInt_fits row.low) (Word.toInt_fits row.high) (s.rampValue_fits p row.ramp q))

theorem Addressed.isShaped_eq {a : Addressed} (h : a.action = .set ∨ a.action = .gates) (q v : Word) :
    a.isShaped q v = decide (v ≠ q) := by
  rcases h with h | h <;> simp [Addressed.isShaped, h, bne, beq_eq_decide]

theorem State.admitOrder_set (s : State) (o : PointTel) (w : Window) (st : PointStatic) (row : ScreenRow) :
    s.admitOrder o ⟨w.logicalOf o.point.toNat, w, st, .set⟩ row none =
      { s.setPoint (w.logicalOf o.point.toNat)
          { s.point (w.logicalOf o.point.toNat) with
            setPoint := some (s.shapeSet (w.logicalOf o.point.toNat) row o.value, s.clock) } with
        entries := s.entries ++
          [s.entryFor .general o w .set (s.shapeSet (w.logicalOf o.point.toNat) row o.value) none
            (decide (s.shapeSet (w.logicalOf o.point.toNat) row o.value ≠ o.value))]
        nextSeq := s.nextSeq + 1 } := by
  rw [State.admitOrder_of_ne_start (by simp), Addressed.isShaped_eq (.inl rfl), State.addEntry_orderEntry]
  rfl

/-- Settles O7: the order is admitted with `shapeSet`, whose integer value is the clamp of the clamp, since neither clamp
leaves the range of a word. -/
theorem admittedSetIsRampedThenBanded : Obligations.AdmittedSetIsRampedThenBanded := by
  intro s o w st n r row hs hon hheld hrow hcount hlane
  refine ⟨s.shapeSet (w.logicalOf o.point.toNat) row o.value, ?_, ?_⟩
  · rw [State.shapeSet_toInt, State.rampBase_eq_setBase]
    rfl
  · rw [hs.exec_slot hon hheld hrow (by simp) ⟨hcount, hlane⟩, if_neg (by simp), State.admitOrder_set]

/-! ### The shaped gate set of a GATES order (R93, R99) -/

theorem shapeGates_getLsbD (releasable requested reported : Word) {i : Nat} (hi : i < 16) :
    (shapeGates releasable requested reported).getLsbD i =
      if releasable.getLsbD i then requested.getLsbD i else reported.getLsbD i := by
  cases h : releasable.getLsbD i <;> simp [-BitVec.getLsbD_eq_getElem, shapeGates, h, hi]

theorem releasesAllGates_iff (g : Word) : g = 0xFFFF ↔ ∀ i < 16, g.getLsbD i = true := by
  constructor
  · rintro rfl
    decide
  · intro h
    refine BitVec.eq_of_getLsbD_eq fun i hi => ?_
    rw [h i hi, show (0xFFFF : Word) = BitVec.allOnes 16 from rfl, BitVec.getLsbD_allOnes, decide_eq_true hi]

theorem State.shape_gates_fresh {s : State} {a : Addressed} {rep : Reported} (ha : a.action = .gates)
    (hfresh : (s.point a.logical).fresh = true) (hrep : (s.point a.logical).report = some rep) (row : ScreenRow) (q : Word) :
    s.shape a row q = shapeGates row.gates q rep.value := by
  simp [State.shape, ha, hfresh, hrep]

theorem State.shape_gates_stale {s : State} {a : Addressed} (ha : a.action = .gates)
    (hstale : (s.point a.logical).fresh = false) (row : ScreenRow) (q : Word) : s.shape a row q = q := by
  cases hrep : (s.point a.logical).report <;> simp [State.shape, ha, hstale, hrep]

theorem State.admitOrder_gates (s : State) (o : PointTel) (w : Window) (st : PointStatic) (row : ScreenRow) {v : Word}
    (hv : s.shape ⟨w.logicalOf o.point.toNat, w, st, .gates⟩ row o.value = v) :
    s.admitOrder o ⟨w.logicalOf o.point.toNat, w, st, .gates⟩ row none =
      { s with
        entries := s.entries ++ [s.entryFor .general o w .gates v none (decide (v ≠ o.value))]
        nextSeq := s.nextSeq + 1 } := by
  rw [State.admitOrder_of_ne_start (by simp), Addressed.isShaped_eq (.inr rfl), State.addEntry_orderEntry, hv]
  rfl

/-- Settles O8: step 13 refuses a STALE point unless the row releases all 16 gates, and an admitted order carries the gate-by-gate
choice where the point is FRESH and the request where it is STALE. -/
theorem admittedGatesMoveOnlyReleasedGates : Obligations.AdmittedGatesMoveOnlyReleasedGates := by
  intro s o w st n r row hs hon hheld hrow hcount hlane
  have hexec := hs.exec_slot hon hheld hrow (by simp) ⟨hcount, hlane⟩
  refine ⟨fun rep hfresh hrep => ?_, fun hstale hall => ?_, fun hstale ⟨i, hi, hkept⟩ => ?_⟩
  · refine ⟨shapeGates row.gates o.value rep.value, fun i hi => shapeGates_getLsbD _ _ _ hi, ?_⟩
    rw [hexec, if_neg (by simp [hfresh]), s.admitOrder_gates o w st row (State.shape_gates_fresh rfl hfresh hrep row o.value)]
  · have hgates : row.gates = 0xFFFF := (releasesAllGates_iff row.gates).2 hall
    rw [hexec, if_neg (by simp [hgates]), s.admitOrder_gates o w st row (State.shape_gates_stale rfl hstale row o.value),
      decide_eq_false (by simp)]
  · have hgates : row.gates ≠ 0xFFFF := fun h => by simp [(releasesAllGates_iff row.gates).1 h i hi] at hkept
    rw [hexec, if_pos ⟨rfl, hstale, hgates⟩]

end Sys2Proof.Machine
end

section
/-! PROOF. Of the law of needs: a state that meets it and the mode law, and a step after which it does not hold (R30, R68). -/

namespace Sys2Proof.Machine

/-- Section 0 is WARMING and needs section 20, which is RUNNING as a defined UTILITY, its record damaged; the event in progress
has a halt of section 20 still to take. -/
def needBeyondSections : State :=
  { State.reset with
    mode := .screening
    active := some .a
    standby := .b
    bankA := { Bank.empty with sections :=
      [(0, ⟨{ SectionRec.empty with defined := true, needs := [20] }, true⟩),
       (20, ⟨{ SectionRec.empty with defined := true, role := .utility }, false⟩)] }
    sects := [(0, { SectionDyn.clear with phase := .warming }), (20, { SectionDyn.clear with phase := .running })]
    agenda := [.halt 20 .trip] }

theorem needBeyondSections_modeLaw (l : List Instr) : ({ needBeyondSections with pending := l } : State).ModeLaw where
  transparent := by simp [needBeyondSections]
  standby := by simp [needBeyondSections, BankId.other]
  fault := by simp [needBeyondSections, State.reset]
  held := by simp [needBeyondSections, State.reset, State.inReset]

theorem needBeyondSections_needLaw (l : List Instr) : ({ needBeyondSections with pending := l } : State).NeedLaw where
  records := by
    have h : ∀ n < 16, (needBeyondSections.activeBank.sectionRec n).good = true := by decide
    exact h
  needs := by
    have h : ∀ n < 16, needBeyondSections.activeBank.isDefined n = true → ∀ m ∈ (needBeyondSections.activeBank.sec n).needs,
      needBeyondSections.activeBank.isDefined m = true ∧ (needBeyondSections.activeBank.sec m).role = .utility := by decide
    exact h
  idle := by
    have h : ∀ n < 16, needBeyondSections.activeBank.isDefined n = false → needBeyondSections.phaseOf n = .idle := by decide
    exact h
  law := by
    have h : ∀ n < 16, needBeyondSections.activeBank.isDefined n = true → (needBeyondSections.phaseOf n).working = true →
      ∀ m ∈ (needBeyondSections.activeBank.sec n).needs, needBeyondSections.phaseOf m = .running := by decide
    exact fun _ n hn hd hw m hm => .inl (h n hn hd hw m hm)

theorem needBeyondSections_settled :
    needBeyondSections.settled.activeBank = needBeyondSections.activeBank ∧ needBeyondSections.settled.phaseOf 0 = .warming ∧
      needBeyondSections.settled.phaseOf 20 = .halted ∧ needBeyondSections.settled.agenda = [] := by
  decide

theorem needBeyondSections_upEnd : needBeyondSections.upEnd = needBeyondSections := by
  rw [State.upEnd, if_pos (by decide)]

/-- The end of a transmission on UP, with none under way, leaves only the halt of section 20 to take. Its record reads damaged,
so that no NEED_LOST follows, and section 0 stays WARMING. -/
theorem needBeyondSections_step :
    step { needBeyondSections with pending := [.upTransmitEnd] } = .next needBeyondSections.settled := by
  change Host.Outcome.next needBeyondSections.upEnd.settled = _
  rw [needBeyondSections_upEnd]

/-- Refutes O60: the law of needs bounds no need by the 16 sections, and reads only the records of these as good. A need beyond
them with a damaged record, halted by a halt still to take, halts no dependent. -/
theorem not_everyStepKeepsTheNeedAndPermitLaws : ¬ Obligations.EveryStepKeepsTheNeedAndPermitLaws := by
  intro ⟨hneed, _⟩
  have hlaw := hneed _ _ (needBeyondSections_modeLaw [.upTransmitEnd]) (needBeyondSections_needLaw [.upTransmitEnd])
    needBeyondSections_step
  obtain ⟨hbank, hwarming, hhalted, hagenda⟩ := needBeyondSections_settled
  have hreset : needBeyondSections.settled.inReset = false := by decide
  have hneeds : needBeyondSections.activeBank.isDefined 0 = true ∧ 20 ∈ (needBeyondSections.activeBank.sec 0).needs := by
    decide
  have hkept := hlaw.law hreset 0 (by decide) (by rw [hbank]; exact hneeds.1) (by rw [hwarming]; rfl) 20
    (by rw [hbank]; exact hneeds.2)
  simp [hhalted, hagenda] at hkept

end Sys2Proof.Machine
end

section
/-! PROOF. What a command can do to the state, said once: it is a run of changes of a few kinds, each with the guard its place
in the model gives it. Every law of the state is then a law of these changes. -/

namespace Sys2Proof.Machine

/-! ### The kinds of change -/

/-- What the command in progress may do beyond the common changes: `ordered` says that the entries it removes stand in the
Outstanding Order Table. -/
structure Licence where
  ordered : Prop
  stores : Prop
  swaps : Prop
  clears : Prop
  frees : Nat → Prop

/-- With the queue of held orders then `l`, an answer or an order more does not run over the answer-debt limit: a held order has
left it, or the debt is below the limit. -/
def State.Spares (s : State) (l : List HeldRec) : Prop :=
  l.Sublist s.held ∧ (l.length < s.held.length ∨ s.debt < 120)

/-- A content of the UP transmit queue that is no report. -/
def UpContent.isAnswer (c : UpContent) : Prop := ∀ r, c ≠ .report r

/-- A change of the UP transmit queue that adds no telegram and no second report for a station point. -/
structure QueueShrinks (q q' : List UpItem) : Prop where
  size : q'.length ≤ q.length
  reports : reportCount q' ≤ reportCount q
  answers : nonReportCount q' ≤ nonReportCount q
  keys : q.Pairwise (fun u v => ¬ sameReportKey u v) → q'.Pairwise (fun u v => ¬ sameReportKey u v)

/-- A change of a section's dynamic state that keeps a halt cause with HALTED alone and a run-empty state with DRAINING alone, and
leaves HALTED only where it may. -/
structure SectionMoves (free : Prop) (d d' : SectionDyn) : Prop where
  cause : (d'.haltCause.isSome = true ↔ d'.phase = .halted) ∨ (d'.phase = d.phase ∧ d'.haltCause = d.haltCause)
  empty : d'.phase ≠ .draining → d'.runEmpty = .notCounting ∨ (d'.phase = d.phase ∧ d.runEmpty ≠ .notCounting)
  halted : free ∨ (d.phase = .halted → d'.phase = .halted ∧ d'.haltCause = d.haltCause)

/-- The load account and the pledges after point `p` goes from `old` to `new` (R111, R113). -/
def State.loadMoved (s : State) (p : Nat) (old new : PointDyn) : State :=
  if s.countsInLoad p old = s.countsInLoad p new then s
  else if s.countsInLoad p new then
    { s with
      load := s.load + (s.activeBank.pointStatic p).content.ratedLoad
      entries := releasePledge p s.entries
      pledgeSum := s.pledgeSum - pledgesOf p s.entries }
  else { s with load := s.load - (s.activeBank.pointStatic p).content.ratedLoad }

/-- A bank is in use, by the part mode or by its marker. -/
def State.inUse (s : State) : Prop := s.mode ≠ .transparent ∨ s.active ≠ none

/-- The admission of an order by steps 4 to 13: a free entry and lane place, no order outstanding for the point, and the cost
within the class's allowance (R89, R91, R92). -/
structure State.Admits (s : State) (a : Addressed) (c : Option BudgetClass) : Prop where
  free : s.generalFree a.window.port = true
  idle : s.isBusy a.logical = false
  budget : ∀ k, c = some k → s.budgetPasses k a.static.startCost = true

/-- One change of the state by a command. -/
inductive Change (L : Licence) : State → State → Prop where
  /-- What no law speaks of. -/
  | quiet (s t : State) (h : t = { s with
      capture := t.capture
      moreRefusals := t.moreRefusals
      campaign := t.campaign
      campaignHalt := t.campaignHalt
      standbyWritten := t.standbyWritten
      periodNumber := t.periodNumber
      periodTimer := t.periodTimer
      tallyTimer := t.tallyTimer
      tagCounter := t.tagCounter
      requests := t.requests
      swapCheck := t.swapCheck
      noticeMask := t.noticeMask
      noticeDest := t.noticeDest
      noticeLost := t.noticeLost
      agenda := t.agenda
      draws := t.draws }) : Change L s t
  | port (s : State) (p : PortId) (v : Port)
      (h : v.repeatLane.length ≤ 16 ∨ v.repeatLane.length ≤ (s.port p).repeatLane.length) : Change L s (s.setPort p v)
  | permitIn (s : State) (k : Nat) (b : Bool) : Change L s { s with permitIn := Store.write false s.permitIn k b }
  | permitOut (s : State) (k : Nat) (b : Bool) : Change L s (s.setPermitOut k b)
  | store (s : State) (b : Bank) (hl : L.stores) (h : s.bankA.wf = true → s.bankB.wf = true → b.wf = true) :
      Change L s (s.setBank s.standby b)
  | fault (s : State) (h : s.mode = .screening) : Change L s { s with mode := .failHold, fault := true }
  | period (s : State) (b : BudgetRec) (h : s.readBudget = some b) :
      Change L s { s with remaining := b.allowance, unusedReserve := b.reserve }
  /-- The UP transmit queue. -/
  | queue (s : State) (q : List UpItem) (h : QueueShrinks s.upQueue q) : Change L s { s with upQueue := q }
  | report (s : State) (r : PointTel) : Change L s (s.pushReport r)
  | answer (s : State) (l : List HeldRec) (c : UpContent) (hc : c.isAnswer) (h : s.Spares l) :
      Change L s ((s.setHeld l).pushUp c)
  /-- The Held Order Queue. -/
  | hold (s : State) (o : PointTel) (a : Addressed) (r : HoldReason) (k : Nat) (c : Option BudgetClass)
      (hd : s.judgeDestination o = .known a) (hs : a.action ≠ .stop) (hcl : a.action ≠ .closePoint)
      (hn : s.noneHeld a.logical) (hl : s.held.length < 32) (hq : s.debt < 120) :
      Change L s (s.setHeld (s.held ++ [s.newRecord o a.logical r k c]))
  | again (s : State) (l₁ l₂ : List HeldRec) (h : HeldRec) (a : Addressed) (r : HoldReason) (c : Option BudgetClass)
      (hh : s.held = l₁ ++ h :: l₂) (hd : s.judgeDestination h.tel = .known a) :
      Change L s (s.setHeld (l₁ ++ h.again a.logical r c :: l₂))
  /-- The Outstanding Order Table. -/
  | admission (s : State) (l : List HeldRec) (o : PointTel) (a : Addressed) (row : ScreenRow) (c : Option BudgetClass)
      (hl : s.Spares l) (hd : s.judgeDestination o = .known a) (h : s.Admits a c) :
      Change L s ((s.setHeld l).admitOrder o a row c)
  | priority (s : State) (l : List HeldRec) (o : PointTel) (a : Addressed)
      (hl : s.Spares l) (hd : s.judgeDestination o = .known a) (h : s.priorityFree a.window.port = true) :
      Change L s ((s.setHeld l).passPriority o a)
  | trip (s : State) (n : Nat) (a : TripAction) (i : Nat) (w : Window) (hw : s.windowOf a.point = .window i w)
      (h : s.priorityFree w.port = true) : Change L s (s.addEntry (s.tripEntry n a w))
  | free (s : State) (e : Entry) (h : L.ordered → e ∈ s.entries) : Change L s (s.freeEntry e)
  | endEntry (s : State) (e : Entry) (c : UpContent) (hc : c.isAnswer) (hs : e.isSupervisory = true)
      (h : L.ordered → e ∈ s.entries) : Change L s ((s.freeEntry e).pushUp c)
  | sent (s : State) (n : Nat) (t : Clock) :
      Change L s { s with entries := s.entries.map (fun x : Entry => if x.seq == n then { x with lane := .sent t } else x) }
  /-- Sections and the image. -/
  | sect (s : State) (n : Nat) (v : SectionDyn) (h : SectionMoves (L.frees n) (s.sect n) v) : Change L s (s.setSect n v)
  | touch (s : State) (p : Nat) (d : PointDyn) (hr : d.report = (s.point p).report) (hf : d.fresh = (s.point p).fresh)
      (ht : d.tally ≤ 15 ∨ d.tally ≤ (s.point p).tally)
      (hc : s.active = none → s.point p = PointDyn.clear → d = PointDyn.clear) : Change L s (s.setPoint p d)
  | image (s : State) (p : Nat) (d : PointDyn) (hm : s.inUse) (hf : d.fresh = true → d.report.isSome = true)
      (ht : d.tally = (s.point p).tally) : Change L s ((s.setPoint p d).loadMoved p (s.point p) d)
  /-- RESET_PART and GO_TRANSPARENT. -/
  | zero (s : State) (hh : s.held = []) (he : s.entries = []) : Change L s { s.zeroBudget with image := [] }
  | leave (s : State) (hl : L.clears) (hm : s.mode ≠ .transparent) (hh : s.held = []) (he : s.entries = [])
      (hi : s.image = []) (hr : s.remaining = 0) (hv : s.unusedReserve = 0) (hload : s.load = 0) :
      Change L s { s with
        mode := .transparent, active := none, standby := s.active.getD s.standby, fault := false }
  /-- What a swap does of its own. -/
  | exchange (s : State) (hl : L.swaps) : Change L s s.exchangeBanks
  | figures (s t : State) (hl : L.swaps)
      (h : t = { s with remaining := t.remaining, unusedReserve := t.unusedReserve, load := t.load }) : Change L s t
  | carry (s : State) (p : Nat) (d : PointDyn) (hl : L.swaps) (ht : d.tally ≤ (s.point p).tally)
      (hf : d.fresh = true → (s.point p).fresh = true ∧ d.report = (s.point p).report) : Change L s (s.setPoint p d)
  | orders (s : State) (hl : L.swaps) : Change L s s.carryOrders

/-- A run of changes. -/
def Leads (L : Licence) : State → State → Prop := Relation.ReflTransGen (Change L)

namespace Leads

variable {L : Licence}

theorem refl (s : State) : Leads L s s := Relation.ReflTransGen.refl

theorem trans {s t u : State} (h : Leads L s t) (g : Leads L t u) : Leads L s u := Relation.ReflTransGen.trans h g

theorem of {s t : State} (h : Change L s t) : Leads L s t := Relation.ReflTransGen.single h

/-- A property that every change keeps holds after a run of changes. -/
theorem keeps {P : State → Prop} (h : ∀ s t, Change L s t → P s → P t) {s t : State} (g : Leads L s t) (hs : P s) : P t := by
  induction g with
  | refl => exact hs
  | tail _ hc ih => exact h _ _ hc ih

theorem foldl {α : Type} (f : State → α → State) (hf : ∀ s x, Leads L s (f s x)) (l : List α) (s : State) :
    Leads L s (l.foldl f s) := by
  induction l generalizing s with
  | nil => exact refl s
  | cons x rest ih => exact (hf s x).trans (ih _)

/-! ### The shared operations -/

theorem setAgenda (s : State) (l : List Task) : Leads L s (s.setAgenda l) := of (.quiet _ _ rfl)

theorem addTasks (s : State) (l : List Task) : Leads L s (s.addTasks l) := of (.quiet _ _ rfl)

theorem startScan (s : State) : Leads L s s.startScan := of (.quiet _ _ rfl)

theorem countDraw (s : State) : Leads L s s.countDraw := of (.quiet _ _ rfl)

theorem setNoticeLost (s : State) (b : Bool) : Leads L s (s.setNoticeLost b) := of (.quiet _ _ rfl)

theorem spares_self {s : State} (h : s.debt < 120) : s.Spares s.held := ⟨List.Sublist.refl _, .inr h⟩

theorem pushUp (s : State) {c : UpContent} (hc : c.isAnswer) (h : s.debt < 120) : Leads L s (s.pushUp c) :=
  of (.answer s s.held c hc (spares_self h))

theorem offerNotice (s : State) (k : NoticeKind) (n p : Option Nat) (c : Cause) : Leads L s (s.offerNotice k n p c) := by
  unfold State.offerNotice
  split
  next => exact refl s
  next =>
    split
    next => exact setNoticeLost s true
    next hfull =>
      have hdebt : s.debt < 120 := not_le.1 (not_or.1 hfull).2
      exact pushUp s (fun r h => by cases h) hdebt

theorem captureRefusal (s : State) (t : PointTel) (r : RefusalReason) : Leads L s (s.captureRefusal t r) := by
  unfold State.captureRefusal
  split
  · exact of (.quiet _ _ rfl)
  · exact of (.quiet _ _ rfl)

theorem refuse (s : State) {l : List HeldRec} (h : s.Spares l) (t : PointTel) (r : RefusalReason) :
    Leads L s ((s.setHeld l).refuse t r) :=
  (of (.answer s l _ (fun r h => by cases h) h)).trans (captureRefusal _ _ _)

theorem refuse_self (s : State) (h : s.debt < 120) (t : PointTel) (r : RefusalReason) : Leads L s (s.refuse t r) :=
  refuse s (spares_self h) t r

/-- One held order leaves its queue. -/
theorem spares_tail {s : State} {h : HeldRec} {l : List HeldRec} (hh : s.held = h :: l) : s.Spares l := by
  refine ⟨hh ▸ List.sublist_cons_self h l, .inl ?_⟩
  simp [hh]

end Leads

theorem State.refuse_setHeld (s : State) (l : List HeldRec) (t : PointTel) (r : RefusalReason) :
    (s.setHeld l).refuse t r = (s.refuse t r).setHeld l := by
  rw [State.refuse_eq, State.refuse_eq]
  rfl

@[simp] theorem State.refuse_held (s : State) (t : PointTel) (r : RefusalReason) : (s.refuse t r).held = s.held := by
  rw [State.refuse_eq]
  rfl

@[simp] theorem State.refuse_entries (s : State) (t : PointTel) (r : RefusalReason) :
    (s.refuse t r).entries = s.entries := by
  rw [State.refuse_eq]
  rfl

namespace Leads

variable {L : Licence}

theorem emptyHeld (s : State) (r : RefusalReason) : Leads L s (s.emptyHeld r) := by
  unfold State.emptyHeld
  generalize hl : s.held = l
  induction l generalizing s with
  | nil =>
    have hs : s.setHeld [] = s := by rw [← hl]; rfl
    rw [List.foldl_nil, hs]
    exact refl s
  | cons h l ih =>
    have hstep : (s.setHeld []).refuse h.tel r = (((s.setHeld l).refuse h.tel r).setHeld []) := by
      rw [State.refuse_setHeld, State.refuse_setHeld]
      rfl
    rw [List.foldl_cons, hstep]
    exact (refuse s (spares_tail hl) h.tel r).trans (ih _ (by rw [State.refuse_held]; rfl))

theorem activeFault (s : State) (e : EntryRef) : Leads L s (s.activeFault e) := by
  unfold State.activeFault
  split
  next hmode => exact ((of (.fault s hmode)).trans (offerNotice _ _ _ _ _)).trans (emptyHeld _ _)
  next => exact refl s

theorem checkReads (s : State) (l : List EntryRef) : Leads L s (s.checkReads l) := by
  unfold State.checkReads
  split
  · exact activeFault _ _
  · exact refl s

theorem takeFault (s : State) (f : Option EntryRef) : Leads L s (s.takeFault f) := by
  cases f with
  | none => exact refl s
  | some e => exact activeFault s e

theorem ifReadable (s : State) (e : EntryRef) (f : State → State) (h : Leads L s (f s)) : Leads L s (s.ifReadable e f) := by
  unfold State.ifReadable
  split
  · exact h
  · exact activeFault s e

end Leads

end Sys2Proof.Machine
end

section

namespace Sys2Proof.Machine

/-! ### Phase changes, trip actions and campaign modes -/

theorem State.runEmptyOnEntry_of_ne {s : State} {n : Nat} {t : Phase} (h : t ≠ .draining) :
    s.runEmptyOnEntry n t = .notCounting := if_neg h

/-- A section enters a phase with a halt cause exactly where the phase is HALTED. -/
theorem SectionMoves.of_inPhase (s : State) (n : Nat) {t : Phase} {c : Option HaltCause} {free : Prop}
    (hc : c.isSome = true ↔ t = .halted) (hfree : free ∨ s.phaseOf n ≠ .halted) :
    SectionMoves free (s.sect n) (s.inPhase n t c) where
  cause := .inl hc
  empty := fun h => .inl (State.runEmptyOnEntry_of_ne h)
  halted := hfree.imp id fun hne heq => absurd heq hne

theorem ladder_ne_halted {p t : Phase} {q : Requirement} (h : ladder p t = some q) : t ≠ .halted := by
  have htable : ∀ e ∈ ladderTable, e.2.1 ≠ .halted := by decide
  exact htable _ ((ladder_eq_some_iff p t q).1 h)

theorem State.autoMove_ladder {s : State} {n : Nat} {t : Phase} (h : s.autoMove n = some t) :
    ∃ q, ladder (s.phaseOf n) t = some q := by
  cases hc : s.definedRec n with
  | none => simp [s.autoMove_eq_none n (.inr (.inl hc))] at h
  | some c =>
    obtain ⟨_, ⟨q, hq, _⟩, _⟩ := (State.autoMove_eq_some_iff (State.screening_of_autoMove h) hc t).1 h
    exact ⟨q, hq⟩

theorem State.not_halted_of_autoMove {s : State} {n : Nat} {t : Phase} (h : s.autoMove n = some t) :
    s.phaseOf n ≠ .halted := by
  intro hhalted
  simp [s.autoMove_eq_none n (.inr (.inr hhalted))] at h

theorem not_halted_of_haltReaches {c : HaltCause} {p : Phase} (h : haltReaches c p = true) : p ≠ .halted := by
  rintro rfl
  cases c <;> cases h

namespace Leads

variable {L : Licence}

theorem permitOutOf (s : State) (n : Nat) : Leads L s (s.permitOutOf n) := by
  unfold State.permitOutOf
  split
  · split
    · exact of (.permitOut _ _ _)
    · exact refl s
  · exact refl s

theorem changePhase (s : State) (n : Nat) {t : Phase} {c : Option HaltCause} (hc : c.isSome = true ↔ t = .halted)
    (hfree : L.frees n ∨ s.phaseOf n ≠ .halted) : Leads L s (s.changePhase n t c) := by
  have hsect : Leads L s (s.setSect n (s.inPhase n t c)) := of (.sect s n _ (.of_inPhase s n hc hfree))
  exact (((hsect.trans (offerNotice _ _ _ _ _)).trans (permitOutOf _ n)).trans (checkReads _ _)).trans (addTasks _ _)

theorem takeHalt (s : State) (n : Nat) (c : HaltCause) : Leads L s (s.takeHalt n c) := by
  unfold State.takeHalt
  split
  next h => exact (changePhase s n (by simp) (.inr (not_halted_of_haltReaches h))).trans (addTasks _ _)
  next => exact refl s

theorem reexamine (s : State) (n : Nat) : Leads L s (s.reexamine n) := by
  unfold State.reexamine
  refine (checkReads s (s.reexamineReads n)).trans ?_
  simp only []
  split
  next t h =>
    obtain ⟨q, hq⟩ := State.autoMove_ladder h
    exact changePhase _ n (by simp [ladder_ne_halted hq]) (.inr (State.not_halted_of_autoMove h))
  next => exact refl _

theorem issueTrip (n : Nat) (s : State) (a : TripAction) : Leads L s (State.issueTrip n s a) := by
  unfold State.issueTrip State.tripFailed
  split
  next i w hw =>
    split_ifs with hport hfree
    · exact offerNotice _ _ _ _ _
    · exact (of (.trip s n a i w hw hfree)).trans (of (.quiet _ _ rfl))
    · exact offerNotice _ _ _ _ _
  next => exact offerNotice _ _ _ _ _
  next => exact (offerNotice _ _ _ _ _).trans (activeFault _ _)

theorem issueTrips (s : State) (n : Nat) : Leads L s (s.issueTrips n) := by
  unfold State.issueTrips
  split
  · exact foldl _ (issueTrip n) _ s
  · exact (offerNotice _ _ _ _ _).trans (activeFault _ _)

theorem changeCampaign (s : State) (m : CampaignMode) : Leads L s (s.changeCampaign m) :=
  ((of (.quiet s { s with campaign := m } rfl)).trans (offerNotice _ _ _ _ _)).trans (addTasks _ _)

theorem testCompletion (s : State) : Leads L s s.testCompletion := by
  unfold State.testCompletion
  refine (checkReads s s.completionReads).trans ?_
  simp only []
  split
  · exact changeCampaign _ _
  · exact refl _

end Leads

/-! ### What a verdict says of the state (R86 to R94) -/

theorem State.judgeSlot_cases (s : State) (a : Addressed) (row : ScreenRow) (c : Option BudgetClass) :
    (∃ r, s.judgeSlot a row c = .hold r row.holdLimit c) ∨ (∃ r f, s.judgeSlot a row c = .refuse r f) ∨
      (s.judgeSlot a row c = .admission row c ∧ s.generalFree a.window.port = true) := by
  unfold State.judgeSlot
  split_ifs with hfull hstale
  · exact .inl ⟨_, rfl⟩
  · exact .inr (.inl ⟨_, _, rfl⟩)
  · exact .inr (.inr ⟨rfl, by simpa using hfull⟩)

/-- A verdict of steps 8 to 14 on an order of a row: an admission comes with what `Admits` says. -/
def State.Sound (s : State) (a : Addressed) : Verdict → Prop
  | .refuse _ _ => True
  | .priority => False
  | .hold _ _ _ => True
  | .admission _ c => s.Admits a c

theorem State.sound_of_slot {s : State} {a : Addressed} (row : ScreenRow) {c : Option BudgetClass}
    (hbusy : s.isBusy a.logical = false) (hbudget : ∀ k, c = some k → s.budgetPasses k a.static.startCost = true) :
    s.Sound a (s.judgeSlot a row c) := by
  obtain ⟨r, h⟩ | ⟨r, f, h⟩ | ⟨h, hfree⟩ := s.judgeSlot_cases a row c <;> rw [h]
  · trivial
  · trivial
  · exact ⟨hfree, hbusy, hbudget⟩

theorem State.sound_of_start {s : State} {a : Addressed} (row : ScreenRow) (c : BudgetClass) (ahead : List HeldRec)
    (hbusy : s.isBusy a.logical = false) : s.Sound a (s.judgeStart a row c ahead) := by
  unfold State.judgeStart
  split
  · trivial
  · split
    · trivial
    · split
      · trivial
      · split
        next => trivial
        next hbudget =>
          have hpasses : s.budgetPasses c a.static.startCost = true := by
            simp only [Bool.or_eq_true, not_or] at hbudget
            simpa using hbudget.1
          exact State.sound_of_slot row hbusy fun k hk => by cases hk; exact hpasses

theorem State.sound_of_busy (s : State) (a : Addressed) (row : ScreenRow) (role : Role) (ahead : List HeldRec) :
    s.Sound a (s.judgeBusy a row role ahead) := by
  unfold State.judgeBusy
  split_ifs with hbusy hstart
  · trivial
  · exact State.sound_of_start row _ ahead (by simpa using hbusy)
  · exact State.sound_of_slot row (by simpa using hbusy) fun k hk => by cases hk

theorem State.sound_of_row (s : State) (a : Addressed) (n : Nat) (r : SectionRec) (ahead : List HeldRec) :
    s.Sound a (s.judgeRow a n r ahead) := by
  unfold State.judgeRow
  split
  · trivial
  · split_ifs
    · trivial
    · split
      · trivial
      · exact s.sound_of_busy a _ r.role ahead
    · split <;> trivial

/-- What each verdict of steps 3 to 14 says of the order and the state. -/
def State.VerdictSays (s : State) (a : Addressed) : Verdict → Prop
  | .refuse _ _ => True
  | .priority => s.priorityFree a.window.port = true
  | .hold _ _ _ => a.action ≠ .stop ∧ a.action ≠ .closePoint
  | .admission _ c => s.Admits a c

theorem State.judgeOrder_says (s : State) (t : PointTel) (a : Addressed) (ahead : List HeldRec) :
    s.VerdictSays a (s.judgeOrder t a ahead) := by
  unfold State.judgeOrder
  split_ifs with hpath hfree hmode hsame
  · exact hfree
  · trivial
  · trivial
  · trivial
  · split
    · trivial
    · split
      · trivial
      next n _ _ r _ =>
        have hsound := s.sound_of_row a n r ahead
        cases hv : s.judgeRow a n r ahead <;> rw [hv] at hsound
        case refuse => trivial
        case priority => exact hsound.elim
        case hold => exact not_or.1 hpath
        case admission => exact hsound

/-! ### New orders and release scans -/

theorem UpContent.answer_isAnswer (t : Telegram) : (UpContent.answer t).isAnswer := fun r h => by cases h

theorem State.supersede_noneHeld (s : State) (p : Nat) : (s.supersede p).noneHeld p := by
  unfold State.supersede State.noneHeld
  split
  next h hfind =>
    rw [State.refuse_setHeld]
    intro x hx
    simpa using (List.mem_filter.1 hx).2
  next hfind =>
    intro x hx
    simpa using List.find?_eq_none.1 hfind x hx

theorem nonReportCount_le_append (q : List UpItem) (u : UpItem) : nonReportCount (q ++ [u]) ≤ nonReportCount q + 1 := by
  unfold nonReportCount
  rw [List.filter_append, List.length_append]
  have := List.length_filter_le (fun u : UpItem => !u.isReport) [u]
  simp only [List.length_singleton] at this
  omega

theorem nonReportCount_discard (q : List UpItem) : nonReportCount (discardOldestReport q) = nonReportCount q := by
  unfold nonReportCount discardOldestReport
  induction q with
  | nil => rfl
  | cons u q ih => cases h : u.isReport <;> simp [h, ih]

theorem nonReportCount_upJoin_le (q : List UpItem) (c : UpContent) : nonReportCount (upJoin q c) ≤ nonReportCount q + 1 := by
  unfold upJoin
  simp only []
  split_ifs
  · rw [nonReportCount_discard]
    exact nonReportCount_le_append q _
  · exact nonReportCount_le_append q _

theorem State.refuse_debt_le (s : State) (t : PointTel) (r : RefusalReason) : (s.refuse t r).debt ≤ s.debt + 1 := by
  have := nonReportCount_upJoin_le s.upQueue (.answer (.point .refusal (s.refusalTel t r)))
  rw [State.refuse_eq]
  simp only [State.debt, State.refusedWith]
  unfold State.refusalTel at this
  omega

theorem State.supersede_debt_le (s : State) (p : Nat) : (s.supersede p).debt ≤ s.debt := by
  unfold State.supersede
  split
  next h hfind =>
    have hlt : (s.held.filter (fun x => x.point != some p)).length < s.held.length := by
      have hp := List.find?_some hfind
      exact List.length_filter_lt_length_iff_exists.2 ⟨h, List.mem_of_find?_eq_some hfind, by simpa using hp⟩
    have := State.refuse_debt_le (s.setHeld (s.held.filter (fun x => x.point != some p))) h.tel .superseded
    have hheld : (s.setHeld (s.held.filter (fun x => x.point != some p))).debt + 1 ≤ s.debt := by
      simp only [State.debt, State.setHeld]
      omega
    omega
  next => exact le_refl _

/-- Steps 1 and 2 read the windows, the static parts and the ports alone. -/
theorem State.judgeDestination_of_steady {s t : State} (h : t.steady = s.steady) (o : PointTel) :
    t.judgeDestination o = s.judgeDestination o := by
  have hbank : t.activeBank = s.activeBank := State.activeBank_of_steady h
  have hports : t.ports = s.ports := congrArg Steady.ports h
  unfold State.judgeDestination State.judgeClass State.covering State.readPoint State.port
  rw [hbank, hports]

theorem State.charge_setHeld (s : State) (l : List HeldRec) (c : Option BudgetClass) (k : Nat) :
    (s.setHeld l).charge c k = (s.charge c k).setHeld l := by
  rcases c with _ | _ | _ <;> rfl

theorem State.admitPoint_setHeld (s : State) (l : List HeldRec) (a : Addressed) (v : Word) :
    (s.setHeld l).admitPoint a v = (s.admitPoint a v).setHeld l := by
  unfold State.admitPoint
  split <;> rfl

/-- An admission neither reads nor changes the queue of held orders. -/
theorem State.admitOrder_setHeld (s : State) (l : List HeldRec) (o : PointTel) (a : Addressed) (row : ScreenRow)
    (c : Option BudgetClass) : ((s.setHeld l).admitOrder o a row c) = (s.admitOrder o a row c).setHeld l := by
  unfold State.admitOrder
  simp only [State.charge_setHeld, State.admitPoint_setHeld]
  rfl

namespace Leads

variable {L : Licence}

theorem supersede (s : State) (p : Nat) : Leads L s (s.supersede p) := by
  unfold State.supersede
  split
  next h hfind =>
    have hp := List.find?_some hfind
    have hlt : (s.held.filter (fun x => x.point != some p)).length < s.held.length :=
      List.length_filter_lt_length_iff_exists.2 ⟨h, List.mem_of_find?_eq_some hfind, by simpa using hp⟩
    exact refuse s ⟨List.filter_sublist, .inl hlt⟩ _ _
  next => exact refl s

theorem applyNew (s : State) (o : PointTel) (a : Addressed) (v : Verdict) (hd : s.judgeDestination o = .known a)
    (hn : s.noneHeld a.logical) (hq : s.debt < 120) (hv : s.VerdictSays a v) : Leads L s (s.applyNew o a v) := by
  cases v with
  | refuse r f => exact (refuse_self s hq o r).trans (takeFault _ f)
  | priority => exact of (.priority s s.held o a (spares_self hq) hd hv)
  | hold r k c =>
    change Leads L s (s.holdNew o a.logical r k c)
    unfold State.holdNew
    split
    next => exact refuse_self s hq o _
    next =>
      split
      next hroom => exact of (.hold s o a r k c hd hv.1 hv.2 hn hroom hq)
      next => exact refuse_self s hq o _
  | admission row c => exact of (.admission s s.held o a row c (spares_self hq) hd hv)

theorem screenNew (s : State) (o : PointTel) (hq : s.debt < 120) : Leads L s (s.screenNew o) := by
  unfold State.screenNew
  split
  next r f _ => exact (refuse_self s hq o r).trans (takeFault _ f)
  next a ha =>
    have hd : (s.supersede a.logical).judgeDestination o = .known a :=
      (State.judgeDestination_of_steady (by simp) o).trans ha
    exact (supersede s a.logical).trans (applyNew _ o a _ hd (s.supersede_noneHeld _)
      (lt_of_le_of_lt (s.supersede_debt_le _) hq) (State.judgeOrder_says _ _ _ _))

/-- A held order leaves its place in the queue. -/
theorem spares_middle (s : State) (l₁ l₂ : List HeldRec) (h : HeldRec) :
    (s.setHeld (l₁ ++ h :: l₂)).Spares (l₁ ++ l₂) := by
  refine ⟨?_, .inl ?_⟩
  · exact List.Sublist.append_left (List.sublist_cons_self h l₂) l₁
  · change (l₁ ++ l₂).length < (l₁ ++ h :: l₂).length
    simp

/-- What a re-screening makes of a held record, told of the whole queue as it stands at that moment of the scan. -/
def Rescreens (L : Licence) (s : State) (ahead rest : List HeldRec) (h : HeldRec) : Rescreened → Prop
  | .gone s₁ => Leads L (s.setHeld (ahead ++ h :: rest)) (s₁.setHeld (ahead ++ rest))
  | .again s₁ h₁ => Leads L (s.setHeld (ahead ++ h :: rest)) (s₁.setHeld (ahead ++ h₁ :: rest))
  | .faulted s₁ _ => Leads L (s.setHeld (ahead ++ h :: rest)) (s₁.setHeld (ahead ++ rest))

theorem refuse_middle (s : State) (ahead rest : List HeldRec) (h : HeldRec) (r : RefusalReason) :
    Leads L (s.setHeld (ahead ++ h :: rest)) ((s.refuse h.tel r).setHeld (ahead ++ rest)) := by
  have := refuse (L := L) _ (spares_middle s ahead rest h) h.tel r
  rw [State.refuse_setHeld, State.refuse_setHeld] at this
  exact this

theorem refuseHeld (s : State) (ahead rest : List HeldRec) (h : HeldRec) (r : RefusalReason) (f : Option EntryRef) :
    Rescreens L s ahead rest h (s.refuseHeld h r f) := by
  cases f with
  | none => exact refuse_middle s ahead rest h r
  | some f => exact refuse_middle s ahead rest h r

theorem rescreen (s : State) (ahead rest : List HeldRec) (h : HeldRec) :
    Rescreens L s ahead rest h (s.rescreen h ahead) := by
  have hspares := spares_middle s ahead rest h
  unfold State.rescreen
  split
  next r f _ => exact refuseHeld s ahead rest h r f
  next a ha =>
    have hd : (s.setHeld (ahead ++ h :: rest)).judgeDestination h.tel = .known a := ha
    have hsays := s.judgeOrder_says h.tel a ahead
    split
    next r f _ => exact refuseHeld s ahead rest h r f
    next hv =>
      rw [hv] at hsays
      exact of (.priority _ _ h.tel a hspares hd hsays)
    next r k c hv =>
      split_ifs
      · exact refuse_middle s ahead rest h _
      · exact of (.again _ ahead rest h a r c rfl hd)
    next row c hv =>
      rw [hv] at hsays
      have hadmits : (s.setHeld (ahead ++ h :: rest)).Admits a c := ⟨hsays.free, hsays.idle, hsays.budget⟩
      have hstep : Change L _ _ := .admission _ (ahead ++ rest) h.tel a row c hspares hd hadmits
      rw [State.admitOrder_setHeld, State.admitOrder_setHeld] at hstep
      exact of hstep

theorem scanRest (l ahead : List HeldRec) (s : State) : Leads L (s.setHeld (ahead ++ l)) (scanRest s ahead l) := by
  induction l generalizing ahead s with
  | nil =>
    rw [List.append_nil]
    exact refl _
  | cons h rest ih =>
    have hstep := rescreen (L := L) s ahead rest h
    unfold Machine.scanRest
    cases hv : s.rescreen h ahead <;> rw [hv] at hstep
    case gone s₁ => exact hstep.trans (ih ahead s₁)
    case again s₁ h₁ =>
      refine hstep.trans ?_
      rw [List.append_cons]
      exact ih (ahead ++ [h₁]) s₁
    case faulted s₁ f => exact hstep.trans (activeFault _ f)

theorem scan (s : State) : Leads L s s.scan := scanRest s.held [] s

/-! ### The event in progress -/

theorem runTask (s : State) (t : Task) : Leads L s (s.runTask t) := by
  cases t with
  | halt n c => exact takeHalt s n c
  | haltFirst n c => exact takeHalt s n c
  | reexamine n => exact reexamine s n
  | tripActions n => exact issueTrips s n
  | completion => exact testCompletion s
  | scan => exact scan s

theorem settled (s : State) : Leads L s s.settled :=
  State.settled_keeps (Leads L s) (fun _ l h => h.trans (setAgenda _ l)) (fun _ h => h.trans (countDraw _))
    (fun _ t h => h.trans (runTask _ t)) s (refl s)

end Leads

end Sys2Proof.Machine
end

section

namespace Sys2Proof.Machine

/-! ### Reports and staleness -/

theorem PointDyn.isOn_of_not_differs {a b : PointDyn} (h : a.imageDiffers b = false) : a.isOn = b.isOn := by
  unfold PointDyn.imageDiffers at h
  obtain ⟨_, hreport⟩ := Bool.or_eq_false_iff.1 h
  have heq : a.report.map (fun r => (r.state, r.value)) = b.report.map (fun r => (r.state, r.value)) := by
    simpa using hreport
  unfold PointDyn.isOn
  cases ha : a.report <;> cases hb : b.report <;> simp_all

theorem State.loadMoved_of_isOn_eq (s : State) (p : Nat) {old new : PointDyn} (h : old.isOn = new.isOn) :
    s.loadMoved p old new = s := by
  simp [State.loadMoved, State.countsInLoad, h]

/-- The run-empty state of a DRAINING section may change. -/
theorem SectionMoves.of_runEmpty {free : Prop} {d : SectionDyn} (e : RunEmpty)
    (h : d.phase = .draining ∨ d.runEmpty ≠ .notCounting) : SectionMoves free d { d with runEmpty := e } where
  cause := .inr ⟨rfl, rfl⟩
  empty := fun hne => .inr ⟨rfl, h.resolve_left hne⟩
  halted := .inr fun hh => ⟨hh, rfl⟩

/-- The overdue flag, the mark and the entry time may change. -/
theorem SectionMoves.of_flags {free : Prop} {d : SectionDyn} (o m : Bool) :
    SectionMoves free d { d with overdue := o, mark := m } where
  cause := .inr ⟨rfl, rfl⟩
  empty := fun _ => by
    by_cases h : d.runEmpty = .notCounting
    · exact .inl h
    · exact .inr ⟨rfl, h⟩
  halted := .inr fun hh => ⟨hh, rfl⟩

/-- What an admission may change. -/
theorem State.admitOrder_frame (s : State) (o : PointTel) (a : Addressed) (row : ScreenRow) (c : Option BudgetClass) :
    s.admitOrder o a row c = { s with
      image := (s.admitOrder o a row c).image
      remaining := (s.admitOrder o a row c).remaining
      unusedReserve := (s.admitOrder o a row c).unusedReserve
      pledgeSum := (s.admitOrder o a row c).pledgeSum
      entries := (s.admitOrder o a row c).entries
      nextSeq := (s.admitOrder o a row c).nextSeq } := by
  have hpoint : ∀ (u : State) (v : Word), u.admitPoint a v = { u with image := (u.admitPoint a v).image } := by
    intro u v
    unfold State.admitPoint
    split <;> rfl
  unfold State.admitOrder
  simp only []
  rw [hpoint]
  rcases c with _ | _ | _ <;> rfl

theorem Leads.inUse {L : Licence} (hl : ¬ L.clears) {s t : State} (h : Leads L s t) (hs : s.inUse) : t.inUse := by
  refine Leads.keeps (P := State.inUse) (fun s t hc hs => ?_) h hs
  cases hc with
  | quiet t h => rw [h]; exact hs
  | store b _ _ => cases hb : s.standby <;> simpa [State.setBank, hb, State.inUse] using hs
  | fault h => exact .inl (by simp)
  | admission l o a row c _ _ _ =>
    rw [State.admitOrder_frame]
    exact hs
  | image p d _ _ _ =>
    unfold State.loadMoved
    split_ifs <;> exact hs
  | leave hc => exact absurd hc hl
  | exchange => exact .inl (by simp [State.exchangeBanks])
  | figures t _ h => rw [h]; exact hs
  | _ => exact hs

namespace Leads

variable {L : Licence}

theorem takeLoad (s : State) (p : Nat) (old new : PointDyn) : Leads L (s.loadMoved p old new) (s.takeLoad p old new) := by
  unfold State.loadMoved State.takeLoad
  split
  next => exact refl s
  next =>
    refine Leads.trans ?_ (checkReads _ _)
    split
    next =>
      unfold State.loadRises
      simp only []
      split
      · exact refl _
      · exact startScan _
    next =>
      unfold State.loadFalls
      simp only []
      split
      · exact refl _
      · exact startScan _

theorem takeFlow (s : State) (n : Nat) (r : SectionRec) (p : Nat) (new : PointDyn) : Leads L s (s.takeFlow n r p new) := by
  unfold State.takeFlow
  split
  next h => exact of (.sect s n _ (.of_runEmpty _ (.inl h.1)))
  next => exact refl s

theorem sectionTakes (p : Nat) (old new : PointDyn) (s : State) (n : Nat) :
    Leads L s (State.sectionTakes p old new s n) := by
  unfold State.sectionTakes
  refine (checkReads s (s.imageReads n)).trans ?_
  simp only []
  split
  · exact (takeFlow _ n _ p new).trans (addTasks _ _)
  · exact refl _

theorem imageChanged (s : State) (p : Nat) (old : PointDyn) :
    Leads L (s.loadMoved p old (s.point p)) (s.imageChanged p old) :=
  ((takeLoad s p old _).trans (foldl _ (sectionTakes p old _) sectionNumbers _)).trans (startScan _)

theorem loseFlow (p : Nat) (s : State) (n : Nat) : Leads L s (State.loseFlow p s n) := by
  unfold State.loseFlow
  split
  next =>
    refine (checkReads s [⟨.sections, n⟩]).trans ?_
    simp only []
    split
    · exact takeFlow _ n _ p _
    · exact refl _
  next => exact refl s

theorem takeLevel (s : State) (p : Nat) (v : Word) : Leads L s (s.takeLevel p v) :=
  (checkReads s sectionRefs).trans (addTasks _ _)

theorem imageReport (s : State) (hs : s.inUse) (p : Nat) (st : PointStatic) (rs : ReportState) (v : Word) :
    Leads L s (s.imageReport p st rs v) := by
  have himage : Change L s _ := .image s p ((s.point p).imaged st rs v s.clock) hs (fun _ => rfl) rfl
  unfold State.imageReport
  simp only [State.point_setPoint_same]
  refine Leads.trans ?_ (takeLevel _ p v)
  split
  next =>
    have hchanged := imageChanged (L := L) (s.setPoint p ((s.point p).imaged st rs v s.clock)) p (s.point p)
    rw [State.point_setPoint_same] at hchanged
    exact (of himage).trans hchanged
  next hrepeat =>
    rw [State.loadMoved_of_isOn_eq _ p (PointDyn.isOn_of_not_differs (by simpa using hrepeat))] at himage
    exact (of himage).trans (foldl _ (loseFlow p) sectionNumbers _)

theorem reportPoint (s : State) (hs : s.inUse) (p : Nat) (t : PointTel) : Leads L s (s.reportPoint p t) := by
  unfold State.reportPoint
  simp only []
  refine Leads.trans ?_ (checkReads _ _)
  generalize hu : (if (s.activeBank.pointStatic p).good = true then s else s.countDraw) = u
  have hlead : Leads L s u := by
    rw [← hu]
    split
    · exact refl s
    · exact countDraw s
  have huse : u.inUse := by
    rw [← hu]
    split <;> exact hs
  refine hlead.trans ?_
  split
  · generalize (if (s.activeBank.pointStatic p).good = true then true else Config.imagesOnFault s.draws) = images
    generalize (if (s.activeBank.pointStatic p).good = true then (s.activeBank.pointStatic p).content
      else { (s.activeBank.pointStatic p).content with deadband := Config.deadbandOnFault s.draws }) = st
    split
    · exact imageReport u huse _ _ _ _
    · exact refl u
  · exact refl u

theorem takeReport (s : State) (hs : s.inUse) (d : DnPort) (t : PointTel) : Leads L s (s.takeReport d t) := by
  unfold State.takeReport
  refine Leads.trans ?_ (of (.report _ t))
  split
  · split
    · exact reportPoint s hs _ t
    · exact refl s
  · exact refl s
  · exact activeFault s _

theorem makeStale (s : State) (hs : s.inUse) (p : Nat) : Leads L s (s.makeStale p) := by
  unfold State.makeStale
  split
  next =>
    have himage : Change L s _ := .image s p { s.point p with fresh := false } hs (fun h => by cases h) rfl
    have hchanged := imageChanged (L := L) (s.setPoint p { s.point p with fresh := false }) p (s.point p)
    rw [State.point_setPoint_same] at hchanged
    exact (of himage).trans hchanged
  next => exact refl s

theorem makeStales (hl : ¬ L.clears) (l : List Nat) (s : State) (hs : s.inUse) : Leads L s (l.foldl State.makeStale s) := by
  induction l generalizing s with
  | nil => exact refl s
  | cons p l ih =>
    have hstep := makeStale (L := L) s hs p
    exact hstep.trans (ih _ (hstep.inUse hl hs))

end Leads

/-! ### Outstanding entries -/

/-- The scans the removal of an entry starts: its own, one for a freed lane place and one for a released pledge (R115, R142). -/
def Entry.scans (e : Entry) : List Task :=
  .scan :: ((if e.isQueued then [.scan] else []) ++ if e.pledged = 0 then [] else [.scan])

theorem State.removalScans_eq (s : State) (e : Entry) : s.removalScans e = s.addTasks e.scans := by
  unfold State.removalScans Entry.scans
  cases e.isQueued <;> by_cases hp : e.pledged = 0 <;>
    simp [hp, State.addTasks, State.startScan, State.addTask, List.append_assoc]

theorem State.removeEntry_eq (s : State) (e : Entry) : s.removeEntry e = (s.freeEntry e).addTasks e.scans :=
  State.removalScans_eq _ e

theorem State.refuse_addTasks (s : State) (l : List Task) (t : PointTel) (r : RefusalReason) :
    (s.addTasks l).refuse t r = (s.refuse t r).addTasks l := by
  rw [State.refuse_eq, State.refuse_eq]
  rfl

/-- The entries stand in their order of creation (R137). -/
def State.Ordered (s : State) : Prop :=
  s.entries.Pairwise (fun x y => x.seq < y.seq) ∧ ∀ e ∈ s.entries, e.seq < s.nextSeq

theorem Change.ordered {L : Licence} {s t : State} (h : Change L s t) (hs : s.Ordered) : t.Ordered := by
  have hadd : ∀ (u : State) (e : Entry), u.Ordered → (u.addEntry e).Ordered := by
    intro u e ⟨hpair, hnext⟩
    refine ⟨List.pairwise_append.2 ⟨hpair, List.pairwise_singleton _ _, fun x hx y hy => ?_⟩, fun x hx => ?_⟩
    · obtain rfl := List.mem_singleton.1 hy
      exact hnext x hx
    · rcases List.mem_append.1 hx with hx | hx
      · exact Nat.lt_succ_of_lt (hnext x hx)
      · obtain rfl := List.mem_singleton.1 hx
        exact Nat.lt_succ_self _
  have hmap : ∀ f : Entry → Entry, (∀ e, (f e).seq = e.seq) →
      (s.entries.map f).Pairwise (fun x y => x.seq < y.seq) ∧ ∀ e ∈ s.entries.map f, e.seq < s.nextSeq := by
    intro f hf
    refine ⟨List.pairwise_map.2 (hs.1.imp fun h => by rwa [hf, hf]), fun e he => ?_⟩
    obtain ⟨x, hx, rfl⟩ := List.mem_map.1 he
    rw [hf]
    exact hs.2 x hx
  have hfilter : ∀ e : Entry, (s.freeEntry e).Ordered := fun e =>
    ⟨hs.1.filter _, fun x hx => hs.2 x (List.mem_filter.1 hx).1⟩
  cases h with
  | quiet t h => rw [h]; exact hs
  | store b _ _ => cases hb : s.standby <;> simpa [State.setBank, hb, State.Ordered] using hs
  | admission l o a row c _ _ _ =>
    rw [State.admitOrder_setHeld]
    refine hadd ((s.charge c a.static.startCost).admitPoint a (s.shape a row o.value)) _ ?_
    have hsame : ∀ u : State, u.Ordered → (u.admitPoint a (s.shape a row o.value)).Ordered := fun u hu => by
      unfold State.admitPoint
      split <;> exact hu
    refine hsame _ ?_
    rcases c with _ | _ | _ <;> exact hs
  | priority l o a _ _ _ => exact hadd (s.setHeld l) _ hs
  | trip n a i w _ _ => exact hadd s _ hs
  | free e _ => exact hfilter e
  | endEntry e c _ _ _ => exact hfilter e
  | sent n t => exact hmap _ fun e => by split <;> rfl
  | image p d _ _ _ =>
    unfold State.loadMoved
    split_ifs
    · exact hs
    · exact hmap _ fun e => by split <;> rfl
    · exact hs
  | zero hh he => exact hs
  | figures t _ h => rw [h]; exact hs
  | orders => exact hmap _ fun e => by split <;> rfl
  | _ => exact hs

namespace Leads

variable {L : Licence}

theorem ordered {s t : State} (h : Leads L s t) (hs : s.Ordered) : t.Ordered :=
  Leads.keeps (P := State.Ordered) (fun _ _ hc => hc.ordered) h hs

theorem removalScans (s : State) (e : Entry) : Leads L s (s.removalScans e) := by
  rw [State.removalScans_eq]
  exact addTasks s _

/-- A supervisory entry ends with an answer in its place. -/
theorem answerEntry (s : State) {e : Entry} (he : L.ordered → e ∈ s.entries) (hsup : e.isSupervisory = true)
    {c : UpContent} (hc : c.isAnswer) : Leads L s ((s.removeEntry e).pushUp c) := by
  have hscans := addTasks (L := L) ((s.freeEntry e).pushUp c) e.scans
  rw [State.removeEntry_eq]
  exact (of (.endEntry s e c hc hsup he)).trans hscans

theorem removeEntry (s : State) {e : Entry} (he : L.ordered → e ∈ s.entries) : Leads L s (s.removeEntry e) :=
  (of (.free s e he)).trans (removalScans _ e)

theorem isSupervisory_of_origin {e : Entry} {src : Byte} (h : e.origin = .supervisory src) : e.isSupervisory = true := by
  simp [Entry.isSupervisory, h]

theorem failEntry (s : State) {e : Entry} (he : L.ordered → e ∈ s.entries) (r : RefusalReason) :
    Leads L s (s.failEntry e r) := by
  unfold State.failEntry
  split
  next src hsrc =>
    exact (answerEntry s he (isSupervisory_of_origin hsrc) (UpContent.answer_isAnswer _)).trans (captureRefusal _ _ _)
  next n _ => exact (removeEntry s he).trans (offerNotice _ _ _ _ _)

theorem matchedReply (s : State) (t : PointTel) (o : ReplyOutcome) {e : Entry} (he : e ∈ s.entries) :
    Leads L s (s.matchedReply t o e) := by
  unfold State.matchedReply
  split
  next src hsrc =>
    exact answerEntry s (fun _ => he) (isSupervisory_of_origin hsrc) (UpContent.answer_isAnswer _)
  next n _ =>
    refine (removeEntry s fun _ => he).trans ?_
    unfold State.tripReplied
    split
    · exact refl _
    · exact offerNotice _ _ _ _ _

end Leads

@[simp] theorem State.offerNotice_entries (s : State) (k : NoticeKind) (a b : Option Nat) (c : Cause) :
    (s.offerNotice k a b c).entries = s.entries := by
  unfold State.offerNotice; split_ifs <;> rfl

theorem State.failEntry_entries (s : State) (e : Entry) (r : RefusalReason) :
    (s.failEntry e r).entries = s.entries.filter (fun x => x.seq != e.seq) := by
  unfold State.failEntry
  rw [State.removeEntry_eq]
  split
  · rw [State.refuse_entries]
    rfl
  · rw [State.offerNotice_entries]
    rfl

namespace Leads

variable {L : Licence}

/-- Of entries in order of creation each is still there when its turn comes to be removed. -/
theorem removals (f : State → Entry → State)
    (hf : ∀ s e, (L.ordered → e ∈ s.entries) → Leads L s (f s e))
    (hentries : ∀ s e, (f s e).entries = s.entries.filter (fun x => x.seq != e.seq)) (l : List Entry) (s : State)
    (hs : L.ordered → l.Sublist s.entries ∧ s.entries.Pairwise (fun x y => x.seq < y.seq)) :
    Leads L s (l.foldl f s) := by
  induction l generalizing s with
  | nil => exact refl s
  | cons e l ih =>
    refine (hf s e fun ho => (hs ho).1.subset List.mem_cons_self).trans (ih (f s e) fun ho => ?_)
    obtain ⟨hsub, hpair⟩ := hs ho
    rw [hentries]
    refine ⟨?_, hpair.filter _⟩
    have hkeep : l.filter (fun x => x.seq != e.seq) = l := by
      refine List.filter_eq_self.2 fun x hx => ?_
      have := (List.pairwise_cons.1 (hpair.sublist hsub)).1 x hx
      simp only [bne_iff_ne]
      omega
    rw [← hkeep]
    exact ((List.sublist_cons_self e l).trans hsub).filter _

theorem loseEntries (s : State) (hs : L.ordered → s.Ordered) (d : DnPort) : Leads L s (s.loseEntries d) :=
  removals _ (fun s _ he => failEntry s he _) (fun s e => s.failEntry_entries e _) _ s
    fun ho => ⟨List.filter_sublist, (hs ho).1⟩

theorem emptyEntries (s : State) (hs : L.ordered → s.Ordered) : Leads L s s.emptyEntries := by
  refine removals _ (fun s e he => ?_) (fun s e => ?_) _ s fun ho => ⟨List.Sublist.refl _, (hs ho).1⟩
  · split
    next hsup =>
      exact (of (.endEntry s e _ (UpContent.answer_isAnswer _) hsup he)).trans (captureRefusal _ _ _)
    next => exact of (.free s e he)
  · split
    · rw [State.refuse_entries]
      rfl
    · rfl

theorem dropOrders (s : State) (hs : L.ordered → s.Ordered) : Leads L s s.dropOrders :=
  (emptyHeld s _).trans (emptyEntries _ fun ho => (emptyHeld (L := L) s _).ordered (hs ho))

end Leads

end Sys2Proof.Machine
end

section

namespace Sys2Proof.Machine

/-! ### The UP transmit queue -/

/-- Two queues of the same contents shrink to each other. -/
theorem QueueShrinks.of_contents {q q' : List UpItem} (h : q'.map UpItem.content = q.map UpItem.content) :
    QueueShrinks q q' := by
  have hlen : q'.length = q.length := by simpa using congrArg List.length h
  have hcount : ∀ f : UpContent → Bool, (q'.filter (fun u => f u.content)).length = (q.filter (fun u => f u.content)).length := by
    intro f
    have := congrArg (fun l => (l.filter f).length) h
    simpa only [List.filter_map, List.length_map, Function.comp_def] using this
  refine ⟨hlen.le, ?_, ?_, fun hk => ?_⟩
  · exact (hcount (fun c => match c with | .report _ => true | _ => false)).le
  · exact (hcount (fun c => !match c with | .report _ => true | _ => false)).le
  · have hkey : ∀ l : List UpItem, l.Pairwise (fun u v => ¬ sameReportKey u v) ↔
        (l.map UpItem.content).Pairwise (fun u v => ¬ sameReportKey ⟨u, false⟩ ⟨v, false⟩) := fun l => by
      rw [List.pairwise_map]
      exact Iff.rfl
    rw [hkey] at hk ⊢
    rwa [h]

theorem QueueShrinks.of_sublist {q q' : List UpItem} (h : q'.Sublist q) : QueueShrinks q q' where
  size := h.length_le
  reports := (h.filter _).length_le
  answers := (h.filter _).length_le
  keys := fun hk => hk.sublist h

theorem fillPlace_length (q : List UpItem) (t : MgmtTel) : (fillPlace q t).length = q.length := by
  induction q with
  | nil => rfl
  | cons u q ih =>
    unfold fillPlace
    split <;> simp [ih]

theorem UpItem.isPlace_iff (u : UpItem) : u.isPlace = true ↔ u.content = .place := by simp [UpItem.isPlace]

/-- A place and a response are no reports, so that a fill changes no count of reports. -/
theorem fillPlace_isReport (q : List UpItem) (t : MgmtTel) :
    (fillPlace q t).map UpItem.isReport = q.map UpItem.isReport := by
  induction q with
  | nil => rfl
  | cons u q ih =>
    unfold fillPlace
    split
    next h => simp [UpItem.isReport, u.isPlace_iff.1 h]
    next => simp [ih]

theorem mem_fillPlace {q : List UpItem} {t : MgmtTel} {v : UpItem} (h : v ∈ fillPlace q t) :
    v ∈ q ∨ v.content = .response t := by
  induction q with
  | nil => cases h
  | cons u q ih =>
    unfold fillPlace at h
    split at h
    · rcases List.mem_cons.1 h with rfl | h
      · exact .inr rfl
      · exact .inl (List.mem_cons_of_mem _ h)
    · rcases List.mem_cons.1 h with rfl | h
      · exact .inl List.mem_cons_self
      · exact (ih h).imp (List.mem_cons_of_mem _) id

theorem fillPlace_keys {q : List UpItem} (t : MgmtTel) (h : q.Pairwise (fun u v => ¬ sameReportKey u v)) :
    (fillPlace q t).Pairwise (fun u v => ¬ sameReportKey u v) := by
  induction q with
  | nil => exact h
  | cons u q ih =>
    obtain ⟨hu, hq⟩ := List.pairwise_cons.1 h
    unfold fillPlace
    split
    · refine List.pairwise_cons.2 ⟨fun v _ => ?_, hq⟩
      rintro ⟨r, _, hkey⟩
      simp [UpItem.hasKey] at hkey
    · refine List.pairwise_cons.2 ⟨fun v hv => ?_, ih hq⟩
      rcases mem_fillPlace hv with hv | hv
      · exact hu v hv
      · rintro ⟨r, hr, _⟩
        simp [hv] at hr

theorem QueueShrinks.of_fillPlace (q : List UpItem) (t : MgmtTel) : QueueShrinks q (fillPlace q t) := by
  have hcount : ∀ f : Bool → Bool,
      ((fillPlace q t).filter (fun u => f u.isReport)).length = (q.filter (fun u => f u.isReport)).length := by
    intro f
    have := congrArg (fun l => (l.filter f).length) (fillPlace_isReport q t)
    simpa [List.filter_map, Function.comp_def] using this
  exact ⟨(fillPlace_length q t).le, (hcount id).le, (hcount not).le, fillPlace_keys t⟩

theorem QueueShrinks.of_upBegin {q : List UpItem} {i : Nat} {u : UpItem} (h : q[i]? = some u) :
    QueueShrinks q (upBegin q i u) := by
  unfold upBegin
  split
  · exact .of_sublist (List.eraseIdx_sublist ..)
  · refine .of_contents ?_
    obtain ⟨hi, rfl⟩ := List.getElem?_eq_some_iff.1 h
    rw [List.map_set]
    refine List.ext_getElem (by simp) fun j hj _ => ?_
    rw [List.getElem_set]
    split
    next hij => subst hij; simp
    next => rfl

namespace Leads

variable {L : Licence}

/-! ### Telegrams -/

theorem keepLane (s : State) (p : PortId) (v : Port) (h : v.repeatLane = (s.port p).repeatLane) :
    Leads L s (s.setPort p v) := of (.port s p v (.inr (h ▸ le_refl _)))

theorem lateReply (s : State) (d : DnPort) (t : PointTel) : Leads L s (s.lateReply d t) := by
  unfold State.lateReply
  split
  next h => exact pushUp s (UpContent.answer_isAnswer _) h
  next => exact keepLane s _ _ rfl

theorem takeReply (s : State) (d : DnPort) (t : PointTel) : Leads L s (s.takeReply d t) := by
  unfold State.takeReply
  split
  · split
    next e he => exact matchedReply s t _ (List.mem_of_find?_eq_some he)
    next => exact lateReply s d t
  · exact lateReply s d t

theorem takeRequest (s : State) (t : MgmtTel) : Leads L s (s.takeRequest t) := by
  unfold State.takeRequest
  split
  next h =>
    exact (of (.quiet s (s.setRequests (s.requests ++ [t])) rfl)).trans (pushUp _ (fun r hr => by cases hr) h)
  next => exact keepLane s _ _ rfl

theorem takeOrder (s : State) (t : PointTel) : Leads L s (s.takeOrder t) := by
  unfold State.takeOrder
  split
  next h => exact screenNew s t h
  next => exact keepLane s _ _ rfl

theorem repeatOn (t : Telegram) (s : State) (d : DnPort) : Leads L s (State.repeatOn t s d) := by
  unfold State.repeatOn
  simp only []
  split
  next h =>
    refine of (.port s _ _ (.inl ?_))
    have hroom : (s.port (.dn d)).repeatLane.length < 16 := h.2
    simp only [List.length_append, List.length_singleton]
    omega
  next => exact refl s

theorem arriveUp (s : State) (t : Telegram) : Leads L s (s.arriveUp t) := by
  unfold State.arriveUp
  split
  · exact refl s
  · split
    · exact refl s
    · split
      · split
        · exact takeRequest s _
        · exact refl s
      · split
        · exact foldl _ (repeatOn t) allDnPorts s
        · split
          · exact takeOrder s _
          · exact refl s

theorem forwardUp (s : State) (d : DnPort) (t : Telegram) : Leads L s (s.forwardUp d t) := by
  unfold State.forwardUp
  split
  · exact of (.report s _)
  · split
    next h => exact pushUp s (UpContent.answer_isAnswer _) h
    next => exact keepLane s _ _ rfl

theorem arriveDn (s : State) (d : DnPort) (t : Telegram) : Leads L s (s.arriveDn d t) := by
  unfold State.arriveDn
  split
  · exact refl s
  · split
    · exact refl s
    · split
      · exact forwardUp s d t
      next hmode =>
        split
        · exact takeReport s (.inl hmode) d _
        · exact takeReply s d _
        · exact refl s

theorem arrive (s : State) (p : PortId) (t : Telegram) : Leads L s (s.arrive p t) := by
  cases p with
  | up => exact arriveUp s t
  | dn d => exact arriveDn s d t

theorem receive (s : State) (p : PortId) (rx : Reception) : Leads L s (s.receive p rx) := by
  unfold State.receive
  split
  · exact refl s
  · split
    · exact refl s
    · split
      · exact arrive s p _
      · exact keepLane s _ _ rfl

/-! ### Ports -/

theorem portScan (s : State) (p : PortId) : Leads L s (s.portScan p) := by
  cases p with
  | up => exact refl s
  | dn d =>
    unfold State.portScan
    simp only []
    split
    · exact refl s
    · exact startScan s

theorem signalOn (s : State) (p : PortId) : Leads L s (s.signalOn p) := by
  unfold State.signalOn
  simp only []
  split
  · exact keepLane s p _ rfl
  · split
    · refine Leads.trans ?_ (portScan _ p)
      exact keepLane s p _ rfl
    · exact keepLane s p _ rfl
    · exact keepLane s p _ rfl

theorem signalOff (s : State) (p : PortId) : Leads L s (s.signalOff p) := by
  unfold State.signalOff
  simp only []
  split
  · exact keepLane s p _ rfl
  · split
    · exact keepLane s p _ rfl
    · refine Leads.trans ?_ (portScan _ p)
      exact keepLane s p _ rfl
    · split
      · exact keepLane s p _ rfl
      · exact keepLane s p _ rfl

theorem provingExpires (s : State) (p : PortId) : Leads L s (s.provingExpires p) := by
  unfold State.provingExpires
  split
  · refine Leads.trans (Leads.trans ?_ (offerNotice _ _ _ _ _)) (portScan _ p)
    exact keepLane s p _ rfl
  · exact refl s

theorem loseSegment (hl : ¬ L.clears) (s : State) (hs : L.ordered → s.Ordered) (d : DnPort) :
    Leads L s (s.loseSegment d) := by
  unfold State.loseSegment
  split
  next => exact refl s
  next hmode =>
    simp only []
    have hreads := checkReads (L := L) s ((List.range 32).map (fun i => ⟨.windows, i⟩))
    generalize s.checkReads ((List.range 32).map (fun i => ⟨.windows, i⟩)) = u at hreads ⊢
    have hstale := hreads.trans (makeStales hl (u.portPoints d) u (hreads.inUse hl (.inl hmode)))
    exact hstale.trans (loseEntries _ (fun ho => hstale.ordered (hs ho)) d)

theorem portDown (hl : ¬ L.clears) (s : State) (hs : L.ordered → s.Ordered) (p : PortId) : Leads L s (s.portDown p) := by
  unfold State.portDown
  simp only []
  have hnotice : Leads L s ((s.setPort p { s.port p with
      state := .down, loss := none, linkLost := true, repeatLane := [], line := none }).linkNotice p false) :=
    (of (.port s p _ (.inl (Nat.zero_le _)))).trans (offerNotice _ _ _ _ _)
  refine hnotice.trans ?_
  cases p with
  | up => exact of (.queue _ _ (.of_contents (by simp)))
  | dn d => exact (loseSegment hl _ (fun ho => hnotice.ordered (hs ho)) d).trans (portScan _ _)

theorem lossExpires (hl : ¬ L.clears) (s : State) (hs : L.ordered → s.Ordered) (p : PortId) :
    Leads L s (s.lossExpires p) := by
  unfold State.lossExpires
  split
  · exact portDown hl s hs p
  · exact refl s

/-! ### Transmitters -/

theorem transmitNext (s : State) (d : DnPort) : Leads L s (s.transmitNext d) := by
  unfold State.transmitNext
  split
  · exact refl s
  · split
    next e _ =>
      refine Leads.trans (Leads.trans (of (.sent s e.seq s.clock)) ?_) (startScan _)
      exact keepLane _ _ _ rfl
    next => exact refl s

theorem repeatNext (s : State) (d : DnPort) : Leads L s (s.repeatNext d) := by
  unfold State.repeatNext
  split
  · exact refl s
  · split
    next t rest _ hlane =>
      refine of (.port s _ _ (.inr ?_))
      simp [hlane]
    next => exact refl s

theorem upStart (s : State) : Leads L s s.upStart := by
  unfold State.upStart
  split
  · exact refl s
  · split
    next i _ =>
      split
      next u hu =>
        refine ((of (.queue s _ (.of_upBegin hu))).trans ?_).trans (keepLane _ _ _ rfl)
        exact of (.quiet _ _ rfl)
      next => exact refl s
    next => exact refl s

theorem upEnd (s : State) : Leads L s s.upEnd := by
  unfold State.upEnd
  split
  · exact refl s
  · exact (of (.queue s _ (.of_sublist List.filter_sublist))).trans (keepLane _ _ _ rfl)

/-! ### Timers -/

theorem boundary (s : State) (b : BudgetRec) (h : s.readBudget = some b) : Leads L s (s.boundary b) :=
  (of (.period s b h)).trans (of (.quiet _ _ rfl))

theorem periodExpires (s : State) : Leads L s s.periodExpires := by
  unfold State.periodExpires
  split
  · split
    · split
      next b hb => exact boundary s b hb
      next => exact (of (.quiet s _ rfl)).trans (activeFault _ _)
    · exact refl s
  · exact refl s

theorem lowerTally (s : State) (p : Nat) : Leads L s (s.lowerTally p) :=
  of (.touch s p _ rfl rfl (.inr (Nat.sub_le _ _)) fun _ h => by rw [h]; rfl)

theorem tallyExpires (s : State) : Leads L s s.tallyExpires := by
  unfold State.tallyExpires
  split
  · split
    · split
      · exact (foldl _ lowerTally _ s).trans (of (.quiet _ _ rfl))
      · exact (of (.quiet s _ rfl)).trans (activeFault _ _)
    · exact refl s
  · exact refl s

end Leads

/-- The empty bank holds no point. -/
theorem Bank.storedIndexOf_empty (p : Nat) : Bank.empty.storedIndexOf p = none := by
  refine List.find?_eq_none.2 fun i _ => ?_
  simp [Bank.window, Bank.empty, Store.read, Store.find, Window.holds, Window.empty]

theorem State.active_of_storedIndexOf {s : State} {p i : Nat} (h : s.activeBank.storedIndexOf p = some i) :
    s.active ≠ none := by
  intro hnone
  simp [State.activeBank, hnone, Bank.storedIndexOf_empty] at h

theorem State.confirmDue_counting {s : State} {n : Nat} (h : s.confirmDue n = true) :
    (s.sect n).runEmpty ≠ .notCounting := by
  intro hnone
  simp [State.confirmDue, hnone] at h

namespace Leads

variable {L : Licence}

theorem staleExpires (s : State) (p : Nat) : Leads L s (s.staleExpires p) := by
  unfold State.staleExpires
  split
  next i hi =>
    split
    · exact ifReadable s _ _ (makeStale s (.inr (State.active_of_storedIndexOf hi)) p)
    · exact refl s
  next => exact refl s

theorem confirmExpires (s : State) (n : Nat) : Leads L s (s.confirmExpires n) := by
  unfold State.confirmExpires
  split
  next h =>
    refine ifReadable s _ _ ?_
    exact (of (.sect s n _ (.of_runEmpty _ (.inr (State.confirmDue_counting h))))).trans (addTasks _ [.reexamine n])
  next => exact refl s

theorem noteOverdue (s : State) (n : Nat) : Leads L s (s.noteOverdue n) := by
  refine (offerNotice s .phaseOverdue (some n) none (.phase (s.phaseOf n))).trans ?_
  have hsame : (s.offerNotice .phaseOverdue (some n) none (.phase (s.phaseOf n))).sect n = s.sect n := by simp
  refine of (.sect _ n _ ?_)
  rw [hsame]
  exact .of_flags true _

theorem overdueExpires (s : State) (n : Nat) : Leads L s (s.overdueExpires n) := by
  unfold State.overdueExpires
  split
  · exact ifReadable s _ _ (noteOverdue s n)
  · exact refl s

theorem holdExpires (s : State) (dest : Byte) (point : Word) : Leads L s (s.holdExpires dest point) := by
  unfold State.holdExpires
  split
  next h hfind =>
    split
    · have hlt : (s.held.filter (fun x => !HeldRec.isFor dest point x)).length < s.held.length :=
        List.length_filter_lt_length_iff_exists.2
          ⟨h, List.mem_of_find?_eq_some hfind, by simpa using List.find?_some hfind⟩
      exact refuse s ⟨List.filter_sublist, .inl hlt⟩ _ _
    · exact refl s
  next => exact refl s

theorem replyExpires (s : State) (n : Nat) : Leads L s (s.replyExpires n) := by
  unfold State.replyExpires
  split
  next e he =>
    split
    · exact failEntry s (fun _ => List.mem_of_find?_eq_some he) _
    · exact refl s
  next => exact refl s

theorem outOfReset (s : State) {f : State → State} (h : Leads L s (f s)) : Leads L s (s.outOfReset f) := by
  unfold State.outOfReset
  split
  · exact refl s
  · exact h

/-! ### Lines -/

theorem changePermitIn (s : State) (k : Nat) (level : Bool) : Leads L s (s.changePermitIn k level) := by
  unfold State.changePermitIn
  split
  · exact refl s
  · simp only []
    split
    · exact of (.permitIn s k level)
    · exact ((of (.permitIn s k level)).trans (checkReads _ _)).trans (addTasks _ _)

theorem assertHalt (s : State) : Leads L s s.assertHalt := by
  unfold State.assertHalt
  split
  · exact refl s
  · simp only []
    split
    · exact of (.quiet s _ rfl)
    · exact (of (.quiet s _ rfl)).trans (addTasks _ _)

theorem deassertHalt (s : State) : Leads L s s.deassertHalt := by
  unfold State.deassertHalt
  split
  · simp only []
    split
    · exact of (.quiet s _ rfl)
    · exact (of (.quiet s _ rfl)).trans (addTasks _ _)
  · exact refl s

end Leads

end Sys2Proof.Machine
end

section

namespace Sys2Proof.Machine

namespace Leads

variable {L : Licence}

/-! ### Requests -/

theorem respond (s : State) (src tag code : Byte) (body : List (Option Byte)) : Leads L s (s.respond src tag code body) := by
  unfold State.respond
  refine (of (.queue s _ (.of_fillPlace s.upQueue ⟨src, s.station, tag, code, fillBody s.draws body⟩))).trans ?_
  simp only []
  split
  · exact refl _
  · exact of (.quiet _ _ rfl)

theorem accept (s : State) (r : MgmtTel) (content : List (Option Byte)) : Leads L s (s.accept r content) :=
  respond s _ _ _ _

theorem reject (s : State) (r : MgmtTel) (c : Rejection) (e : Option EntryRef) : Leads L s (s.reject r c e) :=
  respond s _ _ _ _

theorem setRequests (s : State) (l : List MgmtTel) : Leads L s (s.setRequests l) := of (.quiet s _ rfl)

/-- The handler judges the request in front, if it judges one. -/
theorem handle (s : State) (takes : MgmtTel → Bool) (judge : State → MgmtTel → State)
    (h : ∀ r rest, s.requests = r :: rest → Leads L (s.setRequests rest) (judge (s.setRequests rest) r)) :
    Leads L s (s.handle takes judge) := by
  unfold State.handle
  split
  next r hr =>
    split
    · unfold State.nextRequest at hr
      split at hr
      · cases hr
      · cases hreq : s.requests with
        | nil => simp [hreq] at hr
        | cons r' rest =>
          obtain rfl : r' = r := by simpa [hreq] using hr
          exact (setRequests s rest).trans (h r' rest hreq)
    · exact refl s
  next => exact refl s

theorem withEmptyBody (s : State) (r : MgmtTel) (judge : State → MgmtTel → State) (h : Leads L s (judge s r)) :
    Leads L s (s.withEmptyBody r judge) := by
  unfold State.withEmptyBody
  split
  · exact h
  · exact reject s r _ _

theorem withBody {α : Type} (s : State) (r : MgmtTel) (read : List Byte → Option α) (judge : State → MgmtTel → α → State)
    (h : ∀ x, read r.body = some x → Leads L s (judge s r x)) : Leads L s (s.withBody r read judge) := by
  unfold State.withBody
  split
  next x hx => exact h x hx
  next => exact reject s r _ _

end Leads

theorem Bank.store_wf {b : Bank} (h : b.wf = true) (i : Nat) (d : TableData) : (b.store i d).wf = true := by
  simp only [Bank.wf, Bool.and_eq_true] at h ⊢
  obtain ⟨⟨⟨⟨hwindows, hpoints⟩, hsections⟩, hsets⟩, hrows⟩ := h
  cases d with
  | windows l => exact ⟨⟨⟨⟨writeRun_wf _ _ _ _ hwindows, hpoints⟩, hsections⟩, hsets⟩, hrows⟩
  | points l => exact ⟨⟨⟨⟨hwindows, writeRun_wf _ _ _ _ hpoints⟩, hsections⟩, hsets⟩, hrows⟩
  | sections l => exact ⟨⟨⟨⟨hwindows, hpoints⟩, writeRun_wf _ _ _ _ hsections⟩, hsets⟩, hrows⟩
  | sets l => exact ⟨⟨⟨⟨hwindows, hpoints⟩, hsections⟩, writeRun_wf _ _ _ _ hsets⟩, hrows⟩
  | rows l => exact ⟨⟨⟨⟨hwindows, hpoints⟩, hsections⟩, hsets⟩, writeRun_wf _ _ _ _ hrows⟩
  | budget l => cases l <;> exact ⟨⟨⟨⟨hwindows, hpoints⟩, hsections⟩, hsets⟩, hrows⟩

theorem State.bank_wf {s : State} (ha : s.bankA.wf = true) (hb : s.bankB.wf = true) (i : BankId) :
    (s.bank i).wf = true := by
  cases i
  · exact ha
  · exact hb

theorem State.activeBank_wf {s : State} (ha : s.bankA.wf = true) (hb : s.bankB.wf = true) : s.activeBank.wf = true := by
  unfold State.activeBank
  split
  · exact State.bank_wf ha hb _
  · decide

/-- A section returned to IDLE keeps no halt cause and no run-empty state. -/
theorem SectionMoves.of_clear {free : Prop} {d : SectionDyn} (t : Clock) (h : free ∨ d.phase ≠ .halted) :
    SectionMoves free d { SectionDyn.clear with entryTime := t } where
  cause := .inl (by simp [SectionDyn.clear])
  empty := fun _ => .inl rfl
  halted := h.imp id fun hne heq => absurd heq hne

@[simp] theorem State.emptyHeld_held (s : State) (r : RefusalReason) : (s.emptyHeld r).held = [] :=
  foldl_keeps State.held (fun s (h : HeldRec) => s.refuse h.tel r) (fun _ _ => State.refuse_held _ _ _) _ _

theorem State.emptyEntries_held (s : State) : s.emptyEntries.held = s.held := by
  refine foldl_keeps State.held _ (fun s e => ?_) _ _
  split
  · rw [State.refuse_held]
    rfl
  · rfl

theorem State.dropOrders_held (s : State) : s.dropOrders.held = [] := by
  rw [State.dropOrders, State.emptyEntries_held, State.emptyHeld_held]

theorem State.refuse_sects (s : State) (t : PointTel) (r : RefusalReason) : (s.refuse t r).sects = s.sects := by
  rw [State.refuse_eq]
  rfl

theorem State.emptyHeld_sects (s : State) (r : RefusalReason) : (s.emptyHeld r).sects = s.sects :=
  foldl_keeps State.sects (fun s (h : HeldRec) => s.refuse h.tel r) (fun _ _ => State.refuse_sects _ _ _) _ _

theorem State.offerNotice_sects (s : State) (k : NoticeKind) (n p : Option Nat) (c : Cause) :
    (s.offerNotice k n p c).sects = s.sects := by
  unfold State.offerNotice
  split_ifs <;> rfl

theorem State.activeFault_sects (s : State) (e : EntryRef) : (s.activeFault e).sects = s.sects := by
  unfold State.activeFault
  split
  · rw [State.emptyHeld_sects, State.offerNotice_sects]
  · rfl

theorem State.checkReads_sects (s : State) (l : List EntryRef) : (s.checkReads l).sects = s.sects := by
  unfold State.checkReads
  split
  · exact State.activeFault_sects _ _
  · rfl

theorem State.checkReads_phaseOf (s : State) (l : List EntryRef) (n : Nat) : (s.checkReads l).phaseOf n = s.phaseOf n := by
  rw [State.phaseOf, State.sect, State.checkReads_sects]
  rfl

theorem State.dropOrders_sects (s : State) : s.dropOrders.sects = s.sects := by
  have hheld : (s.emptyHeld .partReset).sects = s.sects :=
    foldl_keeps State.sects (fun s (h : HeldRec) => s.refuse h.tel .partReset) (fun _ _ => State.refuse_sects _ _ _) _ _
  refine (foldl_keeps State.sects _ (fun s e => ?_) _ _).trans hheld
  split
  · rw [State.refuse_sects]
    rfl
  · rfl

/-- Freeing every entry leaves none. -/
theorem State.emptyEntries_entries (s : State) : s.emptyEntries.entries = [] := by
  unfold State.emptyEntries
  have hstep : ∀ (u : State) (e : Entry),
      (if e.isSupervisory = true then (u.freeEntry e).refuse (u.entryTel e) .partReset else u.freeEntry e).entries =
        u.entries.filter (fun x => x.seq != e.seq) := fun u e => by
    split
    · rw [State.refuse_entries]
      rfl
    · rfl
  have hfold : ∀ (l : List Entry) (u : State), u.entries ⊆ l →
      (l.foldl (fun s e => if e.isSupervisory then (s.freeEntry e).refuse (s.entryTel e) .partReset else s.freeEntry e)
        u).entries = [] := by
    intro l
    induction l with
    | nil => exact fun u hu => List.subset_nil.1 hu
    | cons e l ih =>
      intro u hu
      rw [List.foldl_cons]
      refine ih _ fun x hx => ?_
      rw [hstep] at hx
      obtain ⟨hx, hne⟩ := List.mem_filter.1 hx
      rcases List.mem_cons.1 (hu hx) with rfl | hl
      · simp at hne
      · exact hl
  exact hfold _ s (List.Subset.refl _)

theorem State.dropOrders_entries (s : State) : s.dropOrders.entries = [] := State.emptyEntries_entries _

theorem State.refuse_mode (s : State) (t : PointTel) (r : RefusalReason) : (s.refuse t r).mode = s.mode := by
  rw [State.refuse_eq]
  rfl

theorem State.dropOrders_mode (s : State) : s.dropOrders.mode = s.mode := by
  have hheld : (s.emptyHeld .partReset).mode = s.mode :=
    foldl_keeps State.mode (fun s (h : HeldRec) => s.refuse h.tel .partReset) (fun _ _ => State.refuse_mode _ _ _) _ _
  refine (foldl_keeps State.mode _ (fun s e => ?_) _ _).trans hheld
  split
  · rw [State.refuse_mode]
    rfl
  · rfl

/-- A period timer that has run makes its boundary (R116). -/
def State.runPeriod (s : State) (b : BudgetRec) : State :=
  match s.periodTimer with
  | some t => if s.timerDue 1 t then s.boundary b else s
  | none => s

/-- A tally timer that has run makes its decay (R101). -/
def State.runTally (s : State) (b : BudgetRec) : State :=
  match s.tallyTimer with
  | some t => if s.timerDue 600 t then { s.decay with tallyTimer := some ⟨s.clock, b.tallyInterval⟩ } else s
  | none => s

/-- The period timer and its length. -/
def State.setPeriodTimer (s : State) (o : Option Timer) : State := { s with periodTimer := o }

/-- The tally timer and its length. -/
def State.setTallyTimer (s : State) (o : Option Timer) : State := { s with tallyTimer := o }

/-- A timer with another length. -/
def Timer.withLength (k : Nat) (t : Timer) : Timer := ⟨t.start, k⟩

/-- The period timer across the swap (R116). -/
def State.carryPeriodTimer (s : State) (b : BudgetRec) : State :=
  (s.setPeriodTimer (s.periodTimer.map (Timer.withLength b.period))).runPeriod b

theorem State.carryTimers_eq (s : State) (b : BudgetRec) :
    s.carryTimers b = ((s.carryPeriodTimer b).setTallyTimer
      ((s.carryPeriodTimer b).tallyTimer.map (Timer.withLength b.tallyInterval))).runTally b := rfl

namespace Leads

variable {L : Licence}

/-- A fold of operations that lead on as long as a condition stands. -/
theorem foldl_while {α : Type} (P : State → Prop) (f : State → α → State) (l : List α)
    (hf : ∀ s, ∀ x ∈ l, P s → Leads L s (f s x) ∧ P (f s x)) (s : State) (hs : P s) : Leads L s (l.foldl f s) := by
  induction l generalizing s with
  | nil => exact refl s
  | cons x l ih =>
    obtain ⟨hstep, hP⟩ := hf s x List.mem_cons_self hs
    exact hstep.trans (ih (fun s y hy => hf s y (List.mem_cons_of_mem x hy)) _ hP)

theorem dropPermitOut (s : State) : Leads L s s.dropPermitOut :=
  foldl _ (fun s k => of (.permitOut s k false)) _ s

theorem refreshPermitOut (s : State) : Leads L s s.refreshPermitOut :=
  foldl _ (fun s k => of (.permitOut s k _)) _ s

theorem zeroed (s : State) (hs : L.ordered → s.Ordered) :
    Leads L s ({ s.dropOrders.zeroBudget with image := [] } : State) :=
  (dropOrders s hs).trans (of (.zero _ s.dropOrders_held s.dropOrders_entries))

theorem resetPart (s : State) (hs : L.ordered → s.Ordered) (hfree : ∀ n, L.frees n) : Leads L s s.resetPart := by
  unfold State.resetPart
  refine Leads.trans ((zeroed s hs).trans ?_) (dropPermitOut _)
  exact foldl _ (fun u n => of (.sect u n _ (.of_clear u.clock (.inl (hfree n))))) _ _

/-- The fields that the leaving of a bank asks to be empty. -/
def leftEmpty (s : State) : Prop :=
  s.mode ≠ .transparent ∧ s.held = [] ∧ s.entries = [] ∧ s.image = [] ∧ s.remaining = 0 ∧ s.unusedReserve = 0 ∧ s.load = 0

theorem goTransparent (s : State) (hs : L.ordered → s.Ordered) (hl : L.clears) (hm : s.mode ≠ .transparent)
    (hidle : ∀ n, n ∈ sectionNumbers → s.phaseOf n = .idle) : Leads L s s.goTransparent := by
  unfold State.goTransparent
  simp only []
  generalize hz : ({ s.dropOrders.zeroBudget with image := [], periodTimer := none, tallyTimer := none } : State) = z
  have hlead : Leads L s z := by
    rw [← hz]
    exact (zeroed s hs).trans (of (.quiet _ _ rfl))
  have hempty : leftEmpty z := by
    rw [← hz]
    exact ⟨by rw [← State.dropOrders_mode] at hm; exact hm, s.dropOrders_held, s.dropOrders_entries, rfl, rfl, rfl, rfl⟩
  have hphase : ∀ n ∈ sectionNumbers, z.phaseOf n = .idle := fun n hn => by
    have hsects : z.sects = s.sects := by rw [← hz]; exact s.dropOrders_sects
    rw [← hidle n hn, State.phaseOf, State.sect, hsects]
    rfl
  have hactive : s.active = z.active := by
    rw [← hz]
    have : s.dropOrders.steady = s.steady := by simp [State.dropOrders]
    exact (congrArg Steady.active this).symm
  have hstandby : s.standby = z.standby := by
    rw [← hz]
    have : s.dropOrders.steady = s.steady := by simp [State.dropOrders]
    exact (congrArg Steady.standby this).symm
  have hclear : Leads L z (sectionNumbers.foldl State.clearSection z).dropPermitOut := by
    refine Leads.trans ?_ (dropPermitOut _)
    refine foldl_while (fun u => ∀ n ∈ sectionNumbers, u.phaseOf n = .idle) _ _ (fun u n hn hu => ?_) z hphase
    refine ⟨of (.sect u n _ (.of_clear _ (.inr ?_))), fun m hm => ?_⟩
    · have hidle : (u.sect n).phase = .idle := hu n hn
      simp [hidle]
    · unfold State.clearSection State.phaseOf
      rw [State.sect_setSect]
      split
      · rfl
      · exact hu m hm
  have hkeep : ∀ π : State → Prop, (∀ u n v, π u → π (u.setSect n v)) → (∀ u k b, π u → π (u.setPermitOut k b)) → π z →
      π (sectionNumbers.foldl State.clearSection z).dropPermitOut := by
    intro π hsect hpermit hzπ
    have h1 : π (sectionNumbers.foldl State.clearSection z) :=
      List.foldlRecOn _ _ hzπ fun u hu n _ => hsect u n _ hu
    exact List.foldlRecOn _ _ h1 fun u hu k _ => hpermit u k false hu
  have hend := hkeep leftEmpty (fun _ _ _ h => h) (fun _ _ _ h => h) hempty
  have hmarks := hkeep (fun u => u.active = z.active ∧ u.standby = z.standby) (fun _ _ _ h => h) (fun _ _ _ h => h) ⟨rfl, rfl⟩
  generalize (sectionNumbers.foldl State.clearSection z).dropPermitOut = w at hclear hend hmarks ⊢
  obtain ⟨hmode, hheld, hentries, himage, hremaining, hreserve, hload⟩ := hend
  refine (hlead.trans hclear).trans ((of (.leave w hl hmode hheld hentries himage hremaining hreserve hload)).trans ?_)
  rw [hactive, hstandby, ← hmarks.1, ← hmarks.2]
  exact of (.quiet _ _ rfl)

theorem rejectUnknown (s : State) (r : MgmtTel) : Leads L s (s.rejectUnknown r) := reject s r _ _

theorem judgeWrite (hl : L.stores) (s : State) (r : MgmtTel) (b : WriteBody) : Leads L s (s.judgeWrite r b) := by
  unfold State.judgeWrite
  split
  · split
    · exact reject s r _ _
    · refine ((of (.store s _ hl fun ha hb => ?_)).trans (of (.quiet _ _ rfl))).trans (accept _ r [])
      exact Bank.store_wf (State.bank_wf ha hb _) _ _
  · exact reject s r _ _

theorem bankFault (s : State) (i : BankId) (e : EntryRef) : Leads L s (s.bankFault i e) := by
  unfold State.bankFault
  split
  · exact activeFault s e
  · exact refl s

theorem judgeRead (s : State) (r : MgmtTel) (b : ReadBody) : Leads L s (s.judgeRead r b) := by
  unfold State.judgeRead
  split
  · split
    · exact (reject s r _ _).trans (bankFault _ _ _)
    · exact accept s r _
  · exact reject s r _ _

theorem judgeCopy (hl : L.stores) (s : State) (r : MgmtTel) : Leads L s (s.judgeCopy r) := by
  unfold State.judgeCopy
  split
  · exact reject s r _ _
  · split
    · exact (reject s r _ _).trans (activeFault _ _)
    · exact ((of (.store s _ hl State.activeBank_wf)).trans (of (.quiet _ _ rfl))).trans (accept _ r [])

theorem judgeTransparent (hl : L.clears) (s : State) (hs : L.ordered → s.Ordered) (r : MgmtTel) :
    Leads L s (s.judgeTransparent r) := by
  unfold State.judgeTransparent
  split
  · exact reject s r _ _
  next hmode =>
    split
    · exact reject s r _ _
    · split
      next hidle =>
        refine (goTransparent s hs hl hmode fun n hn => ?_).trans (accept _ r [])
        simpa using List.all_eq_true.1 hidle n hn
      next => exact reject s r _ _

theorem judgePhase (s : State) (r : MgmtTel) (b : Nat × Phase)
    (hfree : b.2 = .ready ∨ b.2 = .draining → L.frees b.1) : Leads L s (s.judgePhase r b) := by
  unfold State.judgePhase
  split
  · exact reject s r _ _
  · split
    · exact reject s r _ _
    · split
      next =>
        refine Leads.trans ?_ (reject _ r _ _)
        split
        · exact checkReads s _
        · exact refl s
      next rec q hlegal =>
        simp only []
        split
        next c _ =>
          unfold State.rejectPhase
          refine (checkReads s (s.phaseChecks b.1 rec q).1).trans (Leads.trans ?_ (reject _ r _ _))
          split
          · exact of (.sect _ b.1 _ (.of_flags _ true))
          · exact refl _
        next =>
          have hladder : ∃ q, ladder (s.phaseOf b.1) b.2 = some q := by
            unfold State.phaseLegal at hlegal
            split at hlegal
            · split at hlegal
              · split at hlegal
                next q' hq' => exact ⟨q', hq'⟩
                next => cases hlegal
              · cases hlegal
            · cases hlegal
          obtain ⟨q', hq'⟩ := hladder
          refine ((checkReads s _).trans (changePhase _ b.1 ?_ ?_)).trans (accept _ r [])
          · simp [ladder_ne_halted hq']
          · rw [State.checkReads_phaseOf]
            refine or_iff_not_imp_right.2 fun hhalted => hfree ?_
            rw [not_not] at hhalted
            rw [hhalted] at hq'
            revert hq'
            cases b.2 <;> simp [ladder]

theorem judgeCampaign (s : State) (r : MgmtTel) (m : CampaignMode) : Leads L s (s.judgeCampaign r m) := by
  unfold State.judgeCampaign State.judgeCampaignTarget
  split
  · split
    · exact reject s r _ _
    · refine Leads.trans ?_ (accept _ r [])
      split
      · exact refl s
      · exact changeCampaign s _
  · exact reject s r _ _

theorem clearFlags (s : State) : Leads L s s.clearFlags :=
  foldl State.clearPortFlags (fun u p => keepLane u p
    { u.port p with linkLost := false, checkError := false, receiveRefused := false } rfl) _ s

theorem clearSectionMarks (s : State) : Leads L s s.clearSectionMarks :=
  foldl (fun u n => u.setSect n { u.sect n with mark := false }) (fun u n => of (.sect u n _ (.of_flags _ false))) _ s

theorem judgeStatus (s : State) (r : MgmtTel) : Leads L s (s.judgeStatus r) :=
  ((((countDraw s).trans (clearFlags _)).trans (clearSectionMarks _)).trans (setNoticeLost _ false)).trans
    ((accept _ r _).trans (checkReads _ _))

theorem clearPointMarks (s : State) (first count : Nat) : Leads L s (s.clearPointMarks first count) :=
  foldl (fun u i => u.setPoint (first + i) { u.point (first + i) with mark := false })
    (fun u i => of (.touch u (first + i) { u.point (first + i) with mark := false } rfl rfl (.inr (le_refl _))
      fun _ h => by rw [h]; rfl)) _ s

theorem judgeImage (s : State) (r : MgmtTel) (b : ImageBody) : Leads L s (s.judgeImage r b) := by
  unfold State.judgeImage
  split
  · refine Leads.trans ?_ (accept _ r _)
    split
    · exact clearPointMarks s _ _
    · exact refl s
  · exact reject s r _ _

theorem judgeMarks (s : State) (r : MgmtTel) (b : MarksBody) : Leads L s (s.judgeMarks r b) := by
  unfold State.judgeMarks
  split
  · exact reject s r _ _
  · split
    · exact reject s r _ _
    · have hmarks : Leads L s (if b.range = true then s.clearPointMarks b.first b.count else s) := by
        split
        · exact clearPointMarks s _ _
        · exact refl s
      simp only []
      generalize (if b.range = true then s.clearPointMarks b.first b.count else s) = u at hmarks ⊢
      refine hmarks.trans (Leads.trans ?_ (accept _ r []))
      by_cases hcapture : b.capture = true
      · rw [if_pos hcapture]
        exact of (.quiet u u.emptyCapture rfl)
      · rw [if_neg hcapture]
        exact refl u

theorem judgeNotices (s : State) (r : MgmtTel) (b : List NoticeKind × Option Byte) : Leads L s (s.judgeNotices r b) := by
  unfold State.judgeNotices
  split
  · exact reject s r _ _
  · exact (of (.quiet s _ rfl)).trans (accept _ r [])

theorem judgeReset (s : State) (hs : L.ordered → s.Ordered) (hfree : ∀ n, L.frees n) (r : MgmtTel) :
    Leads L s (s.judgeReset r) := by
  unfold State.judgeReset
  split
  · exact reject s r _ _
  · split
    · exact reject s r _ _
    · exact (resetPart s hs hfree).trans (accept _ r [])

/-! ### The swap -/

theorem carryPoint (hl : L.swaps) (old : Bank) (s : State) (p : Nat) : Leads L s (State.carryPoint old s p) := by
  have hcarry : Leads L s (s.setPoint p (s.carried old p)) := by
    unfold State.carried
    simp only []
    split
    · exact of (.carry s p _ hl (le_refl _) fun h => by cases h)
    · split
      · refine of (.carry s p _ hl (le_refl _) fun h => ⟨?_, rfl⟩)
        simp only [Bool.and_eq_true] at h
        exact h.1
      · exact of (.carry s p _ hl (le_refl _) fun h => by cases h)
  unfold State.carryPoint
  simp only []
  split
  · exact hcarry.trans (startScan _)
  · exact hcarry

theorem carrySection (hfree : ∀ n, L.frees n) (old : Bank) (s : State) (n : Nat) :
    Leads L s (State.carrySection old s n) := by
  have hcarry : Leads L s (s.setSect n (s.carriedSection old n)) := by
    refine of (.sect s n _ ?_)
    unfold State.carriedSection
    simp only []
    split
    · split
      next h => exact .of_runEmpty _ (.inl h)
      next => exact .of_flags _ _
    · exact .of_clear s.clock (.inl (hfree n))
    · exact .of_flags _ false
    · exact .of_flags _ _
  unfold State.carrySection
  simp only []
  split
  · exact hcarry.trans (noteOverdue _ n)
  · exact hcarry

theorem boundary_figures (hl : L.swaps) (s : State) (b : BudgetRec) : Leads L s (s.boundary b) :=
  (of (.figures s { s with remaining := b.allowance, unusedReserve := b.reserve } hl rfl)).trans (of (.quiet _ _ rfl))

theorem setPeriodTimer (s : State) (o : Option Timer) : Leads L s (s.setPeriodTimer o) := of (.quiet _ _ rfl)

theorem setTallyTimer (s : State) (o : Option Timer) : Leads L s (s.setTallyTimer o) := of (.quiet _ _ rfl)

theorem runPeriod (hl : L.swaps) (s : State) (b : BudgetRec) : Leads L s (s.runPeriod b) := by
  unfold State.runPeriod
  split
  · split
    · exact boundary_figures hl s b
    · exact refl s
  · exact refl s

theorem runTally (s : State) (b : BudgetRec) : Leads L s (s.runTally b) := by
  unfold State.runTally
  split
  · split
    · exact (foldl State.lowerTally lowerTally _ s).trans (of (.quiet s.decay _ rfl))
    · exact refl s
  · exact refl s

theorem carryTimers (hl : L.swaps) (s : State) (b : BudgetRec) : Leads L s (s.carryTimers b) := by
  rw [State.carryTimers_eq]
  have hperiod : Leads L s (s.carryPeriodTimer b) :=
    (setPeriodTimer s _).trans (runPeriod hl _ b)
  exact (hperiod.trans (setTallyTimer _ _)).trans (runTally _ b)

theorem carryBudget (hl : L.swaps) (s : State) (b : BudgetRec) : Leads L s (s.carryBudget b) := by
  unfold State.carryBudget
  refine Leads.trans ?_ (carryTimers hl _ b)
  have hfigures : Leads L s { s with
      remaining := min s.remaining b.allowance
      unusedReserve := min s.unusedReserve (min b.reserve (min s.remaining b.allowance))
      load := loadOver s.activeBank s.image } := of (.figures s _ hl rfl)
  split
  · exact hfigures.trans (startScan _)
  · exact hfigures

theorem swapEnds (s : State) (l : List Task) : Leads L s (s.swapEnds l) := (refreshPermitOut s).trans (addTasks _ _)

theorem makeSwap (hl : L.swaps) (hfree : ∀ n, L.frees n) (s : State) (c : SwapCheck) : Leads L s (s.makeSwap c) := by
  unfold State.makeSwap
  simp only []
  have hstart : Leads L s (((s.exchangeBanks.setSwapCheck none).respond c.src c.tag 0 []).offerNotice .bankSwapped none none
      (.partMode s.mode)) :=
    (((of (.exchange s hl)).trans (of (.quiet _ _ rfl))).trans (respond _ _ _ _ _)).trans (offerNotice _ _ _ _ _)
  generalize ((s.exchangeBanks.setSwapCheck none).respond c.src c.tag 0 []).offerNotice .bankSwapped none none
    (.partMode s.mode) = u at hstart ⊢
  refine hstart.trans ?_
  split
  · refine Leads.trans ?_ (swapEnds _ [])
    exact (of (.figures u { u with
      remaining := u.activeBank.budget.content.allowance
      unusedReserve := u.activeBank.budget.content.reserve } hl rfl)).trans (of (.quiet _ _ rfl))
  · unfold State.carryAcross
    refine Leads.trans ?_ (swapEnds _ _)
    refine Leads.trans ?_ (of (.orders _ hl))
    refine Leads.trans ?_ (carryBudget hl _ _)
    refine Leads.trans ?_ (countDraw _)
    exact (foldl _ (carryPoint hl _) _ u).trans (foldl _ (carrySection hfree _) _ _)

end Leads

end Sys2Proof.Machine
end

section

/-! PROOF. A command as a run of changes: what `exec` does, command by command, in the kinds of change of the first part. -/

namespace Sys2Proof.Machine

/-- A command that sets or ends a condition of the reset. -/
def isResetCommand : Instr → Prop
  | .resetAsserted _ | .resetReleased _ _ => True
  | _ => False

/-- The handler has a PHASE request of section `n` in front, for READY or DRAINING. -/
def State.asksFor (s : State) (n : Nat) : Prop :=
  ∃ r l p, s.requests = r :: l ∧ readPhaseBody r.body = some (n, p) ∧ (p = .ready ∨ p = .draining)

/-- What a command may do: `swaps` says that a bank swap is taken as a run of changes too. -/
def licenceOf (ordered swaps : Prop) (c : Instr) (s : State) : Licence where
  ordered := ordered
  stores := c = .writeTable ∨ c = .copyToStandby
  swaps := swaps
  clears := c = .goTransparent
  frees n := swaps ∨ c = .resetPart ∨ (c = .phase ∧ s.asksFor n)

/-- The swap check of a command ends, out of reset, with a swap. -/
def swapsBy (c : Instr) (s : State) (k : SwapCheck) : Prop :=
  c = .swapCheckEnd ∧ s.inReset = false ∧ s.swapCheck = some k ∧ s.swapFailure s.standbyBank = none

theorem State.swapCheckEnds_of_swapsBy {c : Instr} {s : State} {k : SwapCheck} (h : swapsBy c s k) :
    s.swapCheckEnds = s.makeSwap k := by
  obtain ⟨_, hreset, hcheck, hfailure⟩ := h
  simp [State.swapCheckEnds, State.endCheck, hreset, hcheck, hfailure]

namespace Leads

variable {L : Licence}

/-- The end of a swap check is a run of changes, or a swap. -/
theorem swapCheckEnds (s : State) : Leads L s s.swapCheckEnds ∨ ∃ k, swapsBy .swapCheckEnd s k := by
  unfold State.swapCheckEnds
  split
  · exact .inl (refl s)
  next hreset =>
    split
    next k hk =>
      unfold State.endCheck
      split
      · exact .inl ((of (.quiet s (s.setSwapCheck none) rfl)).trans (respond _ _ _ _ _))
      next hfailure => exact .inr ⟨k, rfl, by simpa using hreset, hk, hfailure⟩
    next => exact .inl (refl s)

/-- A command whose effect before the settling is a run of changes. -/
theorem of_exec {s u t : State} (h : Leads L s u) (ht : Host.Outcome.next u.settled = (.next t : Host.Outcome State Fault Refusal)) :
    Leads L s t := by
  obtain rfl := Host.Outcome.next.inj ht
  exact h.trans (settled u)

/-- Requests that are judged with an empty body. -/
theorem handleEmpty (s : State) (takes : MgmtTel → Bool) (judge : State → MgmtTel → State)
    (h : ∀ r rest, s.requests = r :: rest → Leads L (s.setRequests rest) (judge (s.setRequests rest) r)) :
    Leads L s (s.handle takes (fun s r => s.withEmptyBody r judge)) :=
  handle s takes _ fun r rest hr => withEmptyBody _ r judge (h r rest hr)

/-- Requests that are judged with the body a reader reads. -/
theorem handleBody {α : Type} (s : State) (takes : MgmtTel → Bool) (read : List Byte → Option α)
    (judge : State → MgmtTel → α → State)
    (h : ∀ r rest x, s.requests = r :: rest → read r.body = some x → Leads L (s.setRequests rest) (judge (s.setRequests rest) r x)) :
    Leads L s (s.handle takes (fun s r => s.withBody r read judge)) :=
  handle s takes _ fun r rest hr => withBody _ r read judge fun x hx => h r rest x hr hx

/-- Every command but those of the reset is a run of changes, or a swap and a run of changes. -/
theorem exec_or_swap (ordered swaps : Prop) {c : Instr} {s t : State} (hc : ¬ isResetCommand c) (hs : ordered → s.Ordered)
    (h : exec c s = .next t) :
    Leads (licenceOf ordered swaps c s) s t ∨
      ∃ k, swapsBy c s k ∧ Leads (licenceOf ordered swaps c s) (s.makeSwap k) t := by
  cases c with
  | swapCheckEnd =>
    obtain rfl := Host.Outcome.next.inj h
    rcases swapCheckEnds (L := licenceOf ordered swaps .swapCheckEnd s) s with hleads | ⟨k, hk⟩
    · exact .inl (hleads.trans (settled _))
    · exact .inr ⟨k, hk, State.swapCheckEnds_of_swapsBy hk ▸ settled _⟩
  | resetAsserted k => exact absurd trivial hc
  | resetReleased k x => exact absurd trivial hc
  | order tel => exact .inl (of_exec (arriveUp s _) h)
  | report d tel => exact .inl (of_exec (arriveDn s d _) h)
  | reply d tel => exact .inl (of_exec (arriveDn s d _) h)
  | transparentRepeat tel => exact .inl (of_exec (arriveUp s tel) h)
  | transparentForward d tel => exact .inl (of_exec (arriveDn s d tel) h)
  | telegramDiscarded p tel => exact .inl (of_exec (arrive s p tel) h)
  | checkError p rx => exact .inl (of_exec (receive s p rx) h)
  | mgmtRequestIntake tel => exact .inl (of_exec (arriveUp s _) h)
  | unknownRequest => exact .inl (of_exec (handle s _ _ fun r _ _ => rejectUnknown _ r) h)
  | writeTable => exact .inl (of_exec (handleBody s _ _ _ fun r _ x _ _ => judgeWrite (Or.inl rfl) _ r x) h)
  | readTable => exact .inl (of_exec (handleBody s _ _ _ fun r _ x _ _ => judgeRead _ r x) h)
  | copyToStandby => exact .inl (of_exec (handleEmpty s _ _ fun r _ _ => judgeCopy (Or.inr rfl) _ r) h)
  | swapBanks => exact .inl (of_exec (handleEmpty s _ State.judgeSwap fun _ _ _ => of (.quiet _ _ rfl)) h)
  | goTransparent => exact .inl (of_exec (handleEmpty s _ _ fun r _ _ => judgeTransparent rfl _ hs r) h)
  | phase =>
    exact .inl (of_exec (handleBody s _ _ _ fun r rest x hr hx =>
      judgePhase _ r x fun hp => Or.inr (Or.inr ⟨rfl, r, rest, x.2, hr, hx, hp⟩)) h)
  | campaignStartUp => exact .inl (of_exec (handleBody s _ _ _ fun r _ x _ _ => judgeCampaign _ r x) h)
  | campaignWindDown => exact .inl (of_exec (handleBody s _ _ _ fun r _ x _ _ => judgeCampaign _ r x) h)
  | campaignAbandon => exact .inl (of_exec (handleBody s _ _ _ fun r _ x _ _ => judgeCampaign _ r x) h)
  | readStatus => exact .inl (of_exec (handleEmpty s _ _ fun r _ _ => judgeStatus _ r) h)
  | readImage => exact .inl (of_exec (handleBody s _ _ _ fun r _ x _ _ => judgeImage _ r x) h)
  | clearMarks => exact .inl (of_exec (handleBody s _ _ _ fun r _ x _ _ => judgeMarks _ r x) h)
  | setNotices => exact .inl (of_exec (handleBody s _ _ _ fun r _ x _ _ => judgeNotices _ r x) h)
  | resetPart => exact .inl (of_exec (handleEmpty s _ _ fun r _ _ => judgeReset _ hs (fun _ => Or.inr (Or.inl rfl)) r) h)
  | permitInChange line level => exact .inl (of_exec (changePermitIn s line level) h)
  | campaignHaltAsserted => exact .inl (of_exec (assertHalt s) h)
  | campaignHaltDeasserted => exact .inl (of_exec (deassertHalt s) h)
  | lineSignalAppears p => exact .inl (of_exec (signalOn s p) h)
  | provingSignalAbsent p => exact .inl (of_exec (signalOff s p) h)
  | provingTimerExpiry p => exact .inl (of_exec (provingExpires s p) h)
  | lineSignalLost p => exact .inl (of_exec (signalOff s p) h)
  | lineSignalReturns p => exact .inl (of_exec (signalOn s p) h)
  | lossTimerExpiry p => exact .inl (of_exec (lossExpires (fun h => by cases h) s hs p) h)
  | staleTimerExpiry p => exact .inl (of_exec (outOfReset s (staleExpires s p)) h)
  | confirmationTimerExpiry n => exact .inl (of_exec (outOfReset s (confirmExpires s n)) h)
  | overdueTimerExpiry n => exact .inl (of_exec (outOfReset s (overdueExpires s n)) h)
  | periodBoundary => exact .inl (of_exec (outOfReset s (periodExpires s)) h)
  | tallyDecay => exact .inl (of_exec (outOfReset s (tallyExpires s)) h)
  | holdExpired dest point => exact .inl (of_exec (outOfReset s (holdExpires s dest point)) h)
  | replyTimeout seq => exact .inl (of_exec (outOfReset s (replyExpires s seq)) h)
  | transmission d => exact .inl (of_exec (transmitNext s d) h)
  | repeatLaneSend d => exact .inl (of_exec (repeatNext s d) h)
  | upTransmitStart => exact .inl (of_exec (upStart s) h)
  | upTransmitEnd => exact .inl (of_exec (upEnd s) h)

/-- Every command but those of the reset is a run of changes, a swap included. -/
theorem exec (ordered : Prop) {c : Instr} {s t : State} (hc : ¬ isResetCommand c) (hs : ordered → s.Ordered)
    (h : exec c s = .next t) : Leads (licenceOf ordered True c s) s t := by
  rcases exec_or_swap ordered True hc hs h with hleads | ⟨k, _, hleads⟩
  · exact hleads
  · exact (makeSwap trivial (fun _ => Or.inl trivial) s k).trans hleads

end Leads

end Sys2Proof.Machine
end

section

/-! PROOF. A millisecond, the onset of the reset and its end, each by what it leaves; and the rule that carries a law through a
step. -/

namespace Sys2Proof.Machine

/-! ### Port stores -/

theorem Store.find_mapValues {α : Type} (f : α → α) (m : Store α) (k : Nat) :
    Store.find (m.map (fun e => (e.1, f e.2))) k = (Store.find m k).map f := by
  induction m with
  | nil => rfl
  | cons e rest ih =>
    obtain ⟨j, v⟩ := e
    by_cases hj : j = k
    · simp [Store.find, hj]
    · simpa [Store.find, hj] using ih

theorem Port.tick_eq_clear {v : Port} (h : v.tick = Port.clear) : v = Port.clear := by
  obtain ⟨state, signal, proving, loss, linkLost, checkError, receiveRefused, repeatLane, line⟩ := v
  simpa [Port.tick, Port.clear] using h

theorem State.port_tickPorts (s : State) (p : PortId) : s.tickPorts.port p = (s.port p).tick := by
  have h := Store.find_mapValues Port.tick s.ports (PortId.index p)
  show Store.read Port.clear (s.ports.map fun e => (e.1, e.2.tick)) (PortId.index p) = _
  rw [Store.read, h]
  show _ = Port.tick ((Store.find s.ports (PortId.index p)).getD Port.clear)
  cases Store.find s.ports (PortId.index p) <;> rfl

theorem State.tickPorts_wf {s : State} (h : Store.wf Port.clear s.ports = true) :
    Store.wf Port.clear s.tickPorts.ports = true := by
  simp only [Store.wf, Bool.and_eq_true, decide_eq_true_eq, List.all_eq_true] at h ⊢
  refine ⟨List.pairwise_map.2 h.1, fun e he => ?_⟩
  obtain ⟨x, hx, rfl⟩ := List.mem_map.1 he
  exact fun hclear => h.2 x hx (Port.tick_eq_clear hclear)

theorem State.setPort_wf {s : State} (h : Store.wf Port.clear s.ports = true) (p : PortId) (v : Port) :
    Store.wf Port.clear (s.setPort p v).ports = true := Store.wf_write _ _ _ _ h

/-! ### What idles -/

/-- From `s` to `t` no table, queue, section, image or bank changes: the outputs, ports and counters alone may. -/
structure State.Idles (s t : State) : Prop where
  frame : t = { s with
    pending := t.pending
    supplyBad := t.supplyBad
    resetLine := t.resetLine
    clock := t.clock
    subMs := t.subMs
    permitOut := t.permitOut
    fault := t.fault
    ports := t.ports
    swapCheck := t.swapCheck
    agenda := t.agenda
    draws := t.draws }
  lanes : ∀ p, (t.port p).repeatLane = (s.port p).repeatLane ∨ (t.port p).repeatLane = []
  portsWf : Store.wf Port.clear s.ports = true → Store.wf Port.clear t.ports = true
  permitOutWf : Store.wf false s.permitOut = true → Store.wf false t.permitOut = true

/-- An idling of which the ports keep their states and the outputs their levels: a millisecond. -/
structure State.Ticks (s t : State) : Prop extends State.Idles s t where
  outputs : t.permitOut = s.permitOut ∧ t.fault = s.fault ∧ t.agenda = s.agenda
  reset : t.supplyBad = s.supplyBad ∧ t.resetLine = s.resetLine
  states : ∀ p, (t.port p).state = (s.port p).state
  lane : ∀ p, (t.port p).repeatLane = (s.port p).repeatLane

theorem State.Idles.refl (s : State) : s.Idles s := ⟨rfl, fun _ => .inl rfl, id, id⟩

theorem State.Idles.trans {s t u : State} (h : s.Idles t) (g : t.Idles u) : s.Idles u where
  frame := by
    rw [g.frame, h.frame]
  lanes p := (g.lanes p).elim (fun e => (h.lanes p).imp (e.trans) (e.trans)) .inr
  portsWf := g.portsWf ∘ h.portsWf
  permitOutWf := g.permitOutWf ∘ h.permitOutWf

theorem State.Ticks.refl (s : State) : s.Ticks s :=
  { State.Idles.refl s with outputs := ⟨rfl, rfl, rfl⟩, reset := ⟨rfl, rfl⟩, states := fun _ => rfl, lane := fun _ => rfl }

theorem State.Ticks.trans {s t u : State} (h : s.Ticks t) (g : t.Ticks u) : s.Ticks u :=
  { h.toIdles.trans g.toIdles with
    outputs := ⟨g.outputs.1.trans h.outputs.1, g.outputs.2.1.trans h.outputs.2.1, g.outputs.2.2.trans h.outputs.2.2⟩
    reset := ⟨g.reset.1.trans h.reset.1, g.reset.2.trans h.reset.2⟩
    states := fun p => (g.states p).trans (h.states p)
    lane := fun p => (g.lane p).trans (h.lane p) }

/-- A change of the counters alone is a tick. -/
theorem State.Ticks.of_counters {s t : State} (h : t = { s with
    pending := t.pending, clock := t.clock, subMs := t.subMs, swapCheck := t.swapCheck, draws := t.draws }) : s.Ticks t := by
  rw [h]
  exact { frame := rfl, lanes := fun _ => .inl rfl, portsWf := id, permitOutWf := id, outputs := ⟨rfl, rfl, rfl⟩,
          reset := ⟨rfl, rfl⟩, states := fun _ => rfl, lane := fun _ => rfl }

theorem State.Ticks.foldl {α : Type} (f : State → α → State) (hf : ∀ (s : State) (x : α), s.Ticks (f s x)) (l : List α) (s : State) :
    s.Ticks (l.foldl f s) := by
  induction l generalizing s with
  | nil => exact .refl s
  | cons x rest ih => exact (hf s x).trans (ih _)

theorem State.ticks_tickPorts (s : State) : s.Ticks s.tickPorts where
  frame := rfl
  lanes p := .inl (by rw [State.port_tickPorts]; rfl)
  portsWf := State.tickPorts_wf
  permitOutWf := id
  outputs := ⟨rfl, rfl, rfl⟩
  reset := ⟨rfl, rfl⟩
  states p := by rw [State.port_tickPorts]; rfl
  lane p := by rw [State.port_tickPorts]; rfl

/-- A change of a port's line alone is a tick. -/
theorem State.ticks_setLine (s : State) (p : PortId) (o : Option Telegram) :
    s.Ticks (s.setPort p { s.port p with line := o }) := by
  have hport : ∀ q, (s.setPort p { s.port p with line := o }).port q =
      if q = p then { s.port p with line := o } else s.port q := fun q => State.port_setPort s p q _
  have hlane : ∀ q, ((s.setPort p { s.port p with line := o }).port q).repeatLane = (s.port q).repeatLane := fun q => by
    rw [hport]
    split
    next h => rw [h]
    next => rfl
  exact {
    frame := rfl
    lanes := fun q => .inl (hlane q)
    portsWf := fun h => Store.wf_write _ _ _ _ h
    permitOutWf := id
    outputs := ⟨rfl, rfl, rfl⟩
    reset := ⟨rfl, rfl⟩
    states := fun q => by
      rw [hport]
      split
      next h => rw [h]
      next => rfl
    lane := hlane }

theorem State.ticks_freeLine (s : State) (d : DnPort) : s.Ticks (s.freeLine d) := by
  unfold State.freeLine
  split
  · exact .refl s
  · split
    · exact (s.ticks_setLine (.dn d) none).trans (.of_counters rfl)
    · exact .of_counters rfl

theorem ticks_shuffle {α : Type} (n : Nat) (l : List α) (s : State) : s.Ticks (shuffle n l s).2 := by
  induction n generalizing l s with
  | zero => exact .refl s
  | succ n ih =>
    have hcount : s.Ticks (s.countChoice l.length) := by
      unfold State.countChoice
      split
      · exact .refl s
      · exact .of_counters rfl
    unfold shuffle
    split
    · exact .refl s
    · exact hcount.trans (ih _ _)

theorem State.ticks_queueDue (s : State) : s.Ticks s.queueDue :=
  (ticks_shuffle s.dueCommands.length s.dueCommands s).trans (.of_counters rfl)

theorem State.ticks_tickClock (s : State) : s.Ticks s.tickClock := by
  unfold State.tickClock
  split
  · exact .of_counters rfl
  · exact .of_counters rfl

theorem State.ticks_idle (s : State) : s.Ticks s.idle := by
  have hswap : s.tickPorts.Ticks s.tickPorts.tickSwap := .of_counters rfl
  have hlines : ∀ u : State, u.Ticks u.freeLines := fun u => .foldl _ State.ticks_freeLine _ u
  unfold State.idle
  split
  · exact .refl s
  · exact (((s.ticks_tickPorts.trans hswap).trans (State.ticks_tickClock _)).trans (hlines _)).trans (State.ticks_queueDue _)

/-! ### The reset -/

/-- A port held in reset keeps its signal alone. -/
def Port.held (v : Port) : Port := { Port.clear with signal := v.signal }

theorem State.holdPort_eq (s : State) (p : PortId) : s.holdPort p = s.setPort p (s.port p).held := rfl

theorem foldl_ports_frame (f : State → PortId → State) (hf : ∀ s p, f s p = { s with ports := (f s p).ports })
    (l : List PortId) (s : State) : l.foldl f s = { s with ports := (l.foldl f s).ports } := by
  induction l generalizing s with
  | nil => rfl
  | cons p l ih =>
    rw [List.foldl_cons, ih, hf s p]

theorem mem_allPorts (p : PortId) : p ∈ allPorts := by
  rcases p with _ | d
  · simp [allPorts]
  · cases d <;> simp [allPorts, allDnPorts]

theorem allPorts_nodup : allPorts.Nodup := by decide

/-- A fold that sets each port by a rule leaves each port as its own rule says. -/
theorem State.port_foldl (g : Port → Port) (l : List PortId) (hl : l.Nodup) (s : State) (p : PortId) :
    (l.foldl (fun s p => s.setPort p (g (s.port p))) s).port p = if p ∈ l then g (s.port p) else s.port p := by
  induction l generalizing s with
  | nil => simp
  | cons q l ih =>
    obtain ⟨hq, hl⟩ := List.nodup_cons.1 hl
    rw [List.foldl_cons, ih hl, State.port_setPort]
    by_cases hpq : p = q
    · subst hpq
      simp [hq]
    · simp [hpq]

theorem foldl_wf (f : State → PortId → State)
    (hf : ∀ s p, Store.wf Port.clear s.ports = true → Store.wf Port.clear (f s p).ports = true) (l : List PortId) (s : State)
    (h : Store.wf Port.clear s.ports = true) : Store.wf Port.clear (l.foldl f s).ports = true :=
  List.foldlRecOn l f h fun u hu p _ => hf u p hu

theorem State.port_holdPorts (s : State) (p : PortId) : (allPorts.foldl State.holdPort s).port p = (s.port p).held := by
  have h := State.port_foldl Port.held allPorts allPorts_nodup s p
  rwa [if_pos (mem_allPorts p)] at h

theorem State.holdPorts_frame (s : State) :
    allPorts.foldl State.holdPort s = { s with ports := (allPorts.foldl State.holdPort s).ports } :=
  foldl_ports_frame _ (fun _ _ => rfl) _ s

theorem State.holdPorts_wf {s : State} (h : Store.wf Port.clear s.ports = true) :
    Store.wf Port.clear (allPorts.foldl State.holdPort s).ports = true :=
  foldl_wf _ (fun _ _ h => Store.wf_write _ _ _ _ h) _ s h

theorem State.dropPermitOut_frame (s : State) : s.dropPermitOut = { s with permitOut := s.dropPermitOut.permitOut } := rfl

theorem State.dropPermitOut_wf {s : State} (h : Store.wf false s.permitOut = true) :
    Store.wf false s.dropPermitOut.permitOut = true :=
  List.foldlRecOn (motive := fun u : State => Store.wf false u.permitOut = true) _ _ h
    fun u hu k _ => Store.wf_write false u.permitOut k false hu

theorem State.permitOutLevel_setPermitOut (s : State) (k j : Nat) (b : Bool) :
    (s.setPermitOut k b).permitOutLevel j = if j = k then b else s.permitOutLevel j := Store.read_write _ _ _ _ _

theorem State.permitOutLevel_dropPermitOut (s : State) {k : Nat} (hk : k < 4) : s.dropPermitOut.permitOutLevel k = false := by
  show (((((s.setPermitOut 0 false).setPermitOut 1 false).setPermitOut 2 false).setPermitOut 3 false)).permitOutLevel k = false
  simp only [State.permitOutLevel_setPermitOut]
  split_ifs <;> first | rfl | omega

theorem State.holdReset_frame (s : State) : s.holdReset = { s with
    permitOut := s.dropPermitOut.permitOut
    ports := (allPorts.foldl State.holdPort s).ports
    fault := false
    agenda := [] } := by
  unfold State.holdReset
  have h := s.holdPorts_frame
  generalize allPorts.foldl State.holdPort s = u at h ⊢
  generalize u.ports = q at h ⊢
  rw [h]
  rfl

theorem State.holdReset_agenda (s : State) : s.holdReset.agenda = [] := by
  rw [State.holdReset_frame]

theorem State.holdReset_portStore (s : State) : s.holdReset.ports = (allPorts.foldl State.holdPort s).ports := by
  rw [State.holdReset_frame]

theorem State.holdReset_permitOut (s : State) : s.holdReset.permitOut = s.dropPermitOut.permitOut := by
  rw [State.holdReset_frame]

theorem State.holdReset_ports (s : State) (p : PortId) : s.holdReset.port p = (s.port p).held := by
  rw [← State.port_holdPorts, State.holdReset_frame]
  generalize allPorts.foldl State.holdPort s = u
  rfl

theorem State.idles_holdReset (s : State) : s.Idles s.holdReset where
  frame := by
    have h := s.holdReset_frame
    generalize s.holdReset = t at h ⊢
    rw [h]
  lanes p := .inr (by rw [State.holdReset_ports]; rfl)
  portsWf h := by
    rw [State.holdReset_portStore]
    exact State.holdPorts_wf h
  permitOutWf h := by
    rw [State.holdReset_permitOut]
    exact State.dropPermitOut_wf h

/-- A port at the end of the reset. -/
def Port.started (v : Port) : Port := if v.signal then { v with state := .proving, proving := some 0 } else v

/-- `t` is the part that begins operation from `s`: every block at its power-on values but the lines and ports. -/
structure State.Restarts (s t : State) : Prop where
  frame : t = { State.reset with
    pending := s.pending
    straps := t.straps
    permitIn := s.permitIn
    campaignHalt := s.campaignHalt
    ports := t.ports
    draws := s.draws }
  ports : ∀ p, t.port p = (s.port p).held.started
  portsWf : Store.wf Port.clear s.ports = true → Store.wf Port.clear t.ports = true

theorem State.setPort_self {s : State} (p : PortId) (f : Port → Port) :
    (s.setPort p (f (s.port p))) = { s with ports := (s.setPort p (f (s.port p))).ports } := rfl

theorem State.restarts_beginOperation (s : State) (straps : BitVec 3) : s.Restarts (s.beginOperation straps) := by
  unfold State.beginOperation
  simp only []
  generalize hz : ({ State.reset with
    pending := s.pending
    straps := straps
    permitIn := s.permitIn
    campaignHalt := s.campaignHalt
    ports := (allPorts.foldl State.holdPort s).ports
    draws := s.draws } : State) = z
  have hport : ∀ p, z.port p = (s.port p).held := fun p => by
    rw [← State.port_holdPorts, ← hz]
    generalize allPorts.foldl State.holdPort s = u
    rfl
  have hframe : ∀ (u : State) p, u.startPort p = { u with ports := (u.startPort p).ports } := fun u p => by
    unfold State.startPort
    split <;> rfl
  have hstart : ∀ (u : State) (p q : PortId), (u.startPort p).port q = if q = p then (u.port p).started else u.port q := by
    intro u p q
    unfold State.startPort Port.started
    split
    · exact State.port_setPort _ _ _ _
    · split
      next h => rw [h]
      next => rfl
  have hfold : ∀ (l : List PortId), l.Nodup → ∀ (u : State) (p : PortId),
      (l.foldl State.startPort u).port p = if p ∈ l then (u.port p).started else u.port p := by
    intro l
    induction l with
    | nil => simp
    | cons q l ih =>
      intro hl u p
      obtain ⟨hq, hl⟩ := List.nodup_cons.1 hl
      rw [List.foldl_cons, ih hl, hstart]
      by_cases hpq : p = q
      · subst hpq
        simp [hq]
      · simp [hpq]
  refine ⟨?_, fun p => ?_, fun h => ?_⟩
  · have hf := foldl_ports_frame _ hframe allPorts z
    generalize allPorts.foldl State.startPort z = u at hf ⊢
    generalize u.ports = q at hf ⊢
    generalize (allPorts.foldl State.holdPort s).ports = r at hz
    subst hf hz
    rfl
  · rw [hfold _ allPorts_nodup, if_pos (mem_allPorts p), hport]
  · have hports : z.ports = (allPorts.foldl State.holdPort s).ports := by rw [← hz]
    refine foldl_wf _ (fun u p hu => ?_) _ z (by rw [hports]; exact State.holdPorts_wf h)
    unfold State.startPort
    split
    · exact State.setPort_wf hu p _
    · exact hu

theorem State.idles_endCause (s : State) (c : ResetCause) : s.Idles (s.endCause c) := by
  cases c <;> exact ⟨rfl, fun _ => .inl rfl, id, id⟩

theorem State.idles_setPending (s : State) (l : List Instr) : s.Idles { s with pending := l } :=
  ⟨rfl, fun _ => .inl rfl, id, id⟩

/-- The state with a condition of the reset set in. -/
def State.setCause (s : State) : ResetCause → State
  | .supply => { s with supplyBad := true }
  | .line => { s with resetLine := true }

theorem State.assertReset_eq (s : State) (c : ResetCause) : s.assertReset c = (s.setCause c).holdReset := by
  cases c <;> unfold State.assertReset State.setCause <;> simp only []

theorem State.assertReset_settled (s : State) (c : ResetCause) : (s.assertReset c).settled = s.assertReset c := by
  refine State.settled_of_quiet _ ?_
  rw [State.assertReset_eq]
  exact State.holdReset_agenda _

theorem State.idles_assertReset (s : State) (c : ResetCause) : s.Idles (s.assertReset c) := by
  rw [State.assertReset_eq]
  refine State.Idles.trans ?_ (State.idles_holdReset _)
  cases c <;> exact ⟨rfl, fun _ => .inl rfl, id, id⟩

/-- A law that idling, a restart, the settling of an event and every command but those of the reset keep is kept by a step. -/
theorem step_keeps (P : State → Prop) (hidle : ∀ s t, s.Idles t → P s → P t) (hrestart : ∀ s t, s.Restarts t → P s → P t)
    (hsettled : ∀ s, P s → P s.settled) (hexec : ∀ c s t, ¬ isResetCommand c → P s → exec c s = .next t → P t) {s t : State}
    (hs : P s) (h : step s = .next t) : P t := by
  have hcommand : ∀ (c : Instr) (u : State), P u → exec c u = .next t → P t := by
    intro c u hu hexec'
    by_cases hc : isResetCommand c
    · cases c with
      | resetAsserted k =>
        obtain rfl := Host.Outcome.next.inj hexec'
        rw [State.assertReset_settled]
        exact hidle _ _ (u.idles_assertReset k) hu
      | resetReleased k x =>
        obtain rfl := Host.Outcome.next.inj hexec'
        refine hsettled _ ?_
        have hend : P (u.endCause k) := hidle _ _ (u.idles_endCause k) hu
        unfold State.releaseReset
        split_ifs
        · exact hend
        · exact hrestart _ _ (State.restarts_beginOperation _ x) hend
        · exact hu
      | _ => exact hc.elim
    · exact hexec c u t hc hu hexec'
  unfold step at h
  split at h
  next c rest _ => exact hcommand c _ (hidle _ _ (s.idles_setPending rest) hs) h
  next =>
    obtain rfl := Host.Outcome.next.inj h
    exact hidle _ _ s.ticks_idle.toIdles hs

end Sys2Proof.Machine
end

section

/-! PROOF. The laws that speak of no bank: what a change does to the sections, the image and the held orders, and that every step
keeps the section, point, held, pledge and table laws. -/

namespace Sys2Proof.Machine

/-! ### Frames of the compound changes -/

theorem State.setBank_frame (s : State) (i : BankId) (b : Bank) :
    s.setBank i b = { s with bankA := (s.setBank i b).bankA, bankB := (s.setBank i b).bankB } := by
  cases i <;> rfl

theorem State.loadMoved_frame (s : State) (p : Nat) (old new : PointDyn) : s.loadMoved p old new = { s with
    load := (s.loadMoved p old new).load
    entries := (s.loadMoved p old new).entries
    pledgeSum := (s.loadMoved p old new).pledgeSum } := by
  unfold State.loadMoved
  split_ifs <;> rfl

/-! ### Sections -/

theorem Change.sects {L : Licence} {s t : State} (h : Change L s t) :
    t.sects = s.sects ∨ ∃ n v, SectionMoves (L.frees n) (s.sect n) v ∧ t = s.setSect n v := by
  cases h with
  | quiet t h => rw [h]; exact .inl rfl
  | store b _ _ => rw [State.setBank_frame]; exact .inl rfl
  | admission l o a row c _ _ _ => rw [State.admitOrder_frame]; exact .inl rfl
  | sect n v h => exact .inr ⟨n, v, h, rfl⟩
  | image p d _ _ _ => rw [State.loadMoved_frame]; exact .inl rfl
  | figures t _ h => rw [h]; exact .inl rfl
  | _ => exact .inl rfl

theorem State.SectionLaw.of_sects {s t : State} (h : t.sects = s.sects) (hs : s.SectionLaw) : t.SectionLaw where
  cause n := by
    unfold State.sect
    rw [h]
    exact hs.cause n
  empty n := by
    unfold State.sect
    rw [h]
    exact hs.empty n

theorem Change.sectionLaw {L : Licence} {s t : State} (h : Change L s t) (hs : s.SectionLaw) : t.SectionLaw := by
  rcases h.sects with hsame | ⟨n, v, hv, rfl⟩
  · exact hs.of_sects hsame
  · refine ⟨fun m => ?_, fun m => ?_⟩
    · rw [State.sect_setSect]
      split
      next =>
        rcases hv.cause with hcause | ⟨hphase, hcause⟩
        · exact hcause
        · rw [hphase, hcause]
          exact hs.cause n
      next => exact hs.cause m
    · rw [State.sect_setSect]
      split
      next =>
        intro hne
        rcases hv.empty hne with hempty | ⟨hphase, hempty⟩
        · exact hempty
        · exact absurd (hs.empty n (hphase ▸ hne)) hempty
      next => exact hs.empty m

/-! ### The image -/

/-- Between events a change leaves the image, empties it, or writes one point within what its law asks. -/
theorem Change.image_or {L : Licence} {s t : State} (h : Change L s t) : t.image = s.image ∨ t.image = [] ∨
    ∃ p d, t.image = (s.setPoint p d).image ∧ (d.tally ≤ 15 ∨ d.tally ≤ (s.point p).tally) ∧
      (d.fresh = true → d.report.isSome = true ∨ ((s.point p).fresh = true ∧ d.report = (s.point p).report)) := by
  cases h with
  | quiet t h => rw [h]; exact .inl rfl
  | store b _ _ => rw [State.setBank_frame]; exact .inl rfl
  | admission l o a row c _ _ _ =>
    have himage : ((s.setHeld l).admitOrder o a row c).image =
        (((s.setHeld l).charge c a.static.startCost).admitPoint a ((s.setHeld l).shape a row o.value)).image := rfl
    have hcharge : ((s.setHeld l).charge c a.static.startCost).image = s.image := by rcases c with _ | _ | _ <;> rfl
    rw [himage]
    unfold State.admitPoint
    split
    · refine .inr (.inr ⟨a.logical, { s.point a.logical with tally := min 15 ((s.point a.logical).tally + 1) }, ?_,
        .inl (min_le_left _ _), fun hf => .inr ⟨hf, rfl⟩⟩)
      simp [State.setPoint, State.point, hcharge]
    · refine .inr (.inr ⟨a.logical, { s.point a.logical with
        setPoint := some ((s.setHeld l).shape a row o.value, ((s.setHeld l).charge c a.static.startCost).clock) }, ?_,
        .inr (le_refl _), fun hf => .inr ⟨hf, rfl⟩⟩)
      simp [State.setPoint, State.point, hcharge]
    · exact .inl hcharge
  | touch p d hr hf ht _ => exact .inr (.inr ⟨p, d, rfl, ht, fun h => .inr ⟨hf ▸ h, hr⟩⟩)
  | image p d _ hf ht =>
    rw [State.loadMoved_frame]
    exact .inr (.inr ⟨p, d, rfl, .inr ht.le, fun h => .inl (hf h)⟩)
  | zero => exact .inr (.inl rfl)
  | carry p d _ ht hf => exact .inr (.inr ⟨p, d, rfl, .inr ht, fun h => .inr (hf h)⟩)
  | figures t _ h => rw [h]; exact .inl rfl
  | _ => exact .inl rfl

theorem State.PointLaw.of_image {s t : State} (h : t.image = s.image) (hs : s.PointLaw) : t.PointLaw where
  tally p := by
    unfold State.point
    rw [h]
    exact hs.tally p
  fresh p := by
    unfold State.point
    rw [h]
    exact hs.fresh p

theorem State.PointLaw.of_empty {t : State} (h : t.image = []) : t.PointLaw where
  tally p := by
    unfold State.point
    rw [h]
    exact Nat.zero_le _
  fresh p := by
    unfold State.point
    rw [h]
    exact fun h => by cases h

theorem Change.pointLaw {L : Licence} {s t : State} (h : Change L s t) (hs : s.PointLaw) : t.PointLaw := by
  rcases h.image_or with hsame | hempty | ⟨p, d, himage, ht, hf⟩
  · exact hs.of_image hsame
  · exact .of_empty hempty
  · refine State.PointLaw.of_image himage ⟨fun q => ?_, fun q => ?_⟩
    · rw [State.point_setPoint]
      split
      · exact ht.elim id fun hle => hle.trans (hs.tally p)
      · exact hs.tally q
    · rw [State.point_setPoint]
      split
      · exact fun hd => (hf hd).elim id fun ⟨hfresh, hreport⟩ => hreport ▸ hs.fresh p hfresh
      · exact hs.fresh q

/-! ### The Held Order Queue -/

/-- Steps 1 and 2 hand on an order with the action of its code (R85). -/
theorem State.action_of_known {s : State} {o : PointTel} {a : Addressed} (h : s.judgeDestination o = .known a) :
    Action.ofCode o.code = some a.action := by
  unfold State.judgeDestination at h
  split at h
  · cases h
  · split at h
    · cases h
    · cases h
    · split at h
      · cases h
      · split at h
        · cases h
        · unfold State.judgeClass at h
          split at h
          · cases h
          · split at h
            · cases h
            next haction =>
              split at h
              · cases h
                exact haction
              · cases h

/-- An order that may be held. -/
def HeldRec.holdable (h : HeldRec) : Prop :=
  Action.ofCode h.tel.code ≠ some .stop ∧ Action.ofCode h.tel.code ≠ some .closePoint

theorem Change.heldLaw {L : Licence} {s t : State} (h : Change L s t) (hs : s.HeldLaw) : t.HeldLaw := by
  have hsublist : ∀ {l : List HeldRec}, l.Sublist s.held → l.length ≤ 32 ∧ ∀ h ∈ l, h.holdable := fun hl =>
    ⟨hl.length_le.trans hs.size, fun h hh => hs.kinds h (hl.subset hh)⟩
  have hmk : ∀ u : State, u.held.length ≤ 32 ∧ (∀ h ∈ u.held, h.holdable) → u.HeldLaw := fun u hu => ⟨hu.1, hu.2⟩
  refine hmk t ?_
  cases h with
  | quiet t h => rw [h]; exact ⟨hs.size, hs.kinds⟩
  | store b _ _ => rw [State.setBank_frame]; exact ⟨hs.size, hs.kinds⟩
  | answer l c _ hl => exact hsublist hl.1
  | hold o a r k c hd hstop hclose _ hlen _ =>
    refine ⟨by simpa [State.setHeld] using hlen, fun h hh => ?_⟩
    rcases List.mem_append.1 hh with hh | hh
    · exact hs.kinds h hh
    · obtain rfl := List.mem_singleton.1 hh
      have haction : Action.ofCode o.code = some a.action := State.action_of_known hd
      exact ⟨fun he => hstop (Option.some.inj (haction.symm.trans he)),
        fun he => hclose (Option.some.inj (haction.symm.trans he))⟩
  | again l₁ l₂ h a r c hheld _ =>
    have hkinds := hs.kinds
    have hsize := hs.size
    rw [hheld] at hkinds hsize
    refine ⟨by simpa [State.setHeld] using hsize, fun x hx => ?_⟩
    rcases List.mem_append.1 hx with hx | hx
    · exact hkinds x (List.mem_append_left _ hx)
    · rcases List.mem_cons.1 hx with rfl | hx
      · exact hkinds h (List.mem_append_right _ List.mem_cons_self)
      · exact hkinds x (List.mem_append_right _ (List.mem_cons_of_mem _ hx))
  | admission l o a row c hl _ _ => rw [State.admitOrder_frame]; exact hsublist hl.1
  | priority l o a hl _ _ => exact hsublist hl.1
  | image p d _ _ _ => rw [State.loadMoved_frame]; exact ⟨hs.size, hs.kinds⟩
  | figures t _ h => rw [h]; exact ⟨hs.size, hs.kinds⟩
  | orders =>
    refine ⟨by simpa [State.carryOrders, State.setHeld] using hs.size, fun x hx => ?_⟩
    obtain ⟨h, hh, rfl⟩ := List.mem_map.1 hx
    exact hs.kinds h hh
  | _ => exact ⟨hs.size, hs.kinds⟩

/-! ### Every step -/

/-- A law that the changes of every command keep, idling and a restart included, is kept by a step. -/
theorem step_keeps_change (P : State → Prop) (ordered : Prop) (hordered : ∀ s, P s → ordered → s.Ordered)
    (hchange : ∀ L s t, (ordered → L.ordered) → Change L s t → P s → P t)
    (hidle : ∀ s t, s.Idles t → P s → P t) (hrestart : ∀ s t, s.Restarts t → P s → P t) {s t : State}
    (hs : P s) (h : step s = .next t) : P t := by
  have hleads : ∀ L s t, (ordered → L.ordered) → Leads L s t → P s → P t := fun L s t hL g hs =>
    Leads.keeps (fun s t => hchange L s t hL) g hs
  refine step_keeps P hidle hrestart (fun s hs => ?_) (fun c s t hc hs he => ?_) hs h
  · exact hleads ⟨True, False, False, False, fun _ => False⟩ s _ (fun _ => trivial) (Leads.settled s) hs
  · exact hleads (licenceOf ordered True c s) s t id (Leads.exec ordered hc (hordered s hs) he) hs

theorem step_sectionLaw {s t : State} (hs : s.SectionLaw) (h : step s = .next t) : t.SectionLaw :=
  step_keeps_change State.SectionLaw False (fun _ _ h => h.elim) (fun _ _ _ _ hc hs => hc.sectionLaw hs)
    (fun s t hi hs => .of_sects (by rw [hi.frame]) hs)
    (fun s t hr _ => by
      have hsects : t.sects = State.reset.sects := by rw [hr.frame]
      exact State.SectionLaw.of_sects hsects ⟨fun n => by simp [State.sect, State.reset, Store.read, Store.find,
        SectionDyn.clear], fun _ _ => rfl⟩) hs h

theorem step_pointLaw {s t : State} (hs : s.PointLaw) (h : step s = .next t) : t.PointLaw :=
  step_keeps_change State.PointLaw False (fun _ _ h => h.elim) (fun _ _ _ _ hc hs => hc.pointLaw hs)
    (fun s t hi hs => .of_image (by rw [hi.frame]) hs) (fun s t hr _ => .of_empty (by rw [hr.frame]; rfl)) hs h

theorem step_heldLaw {s t : State} (hs : s.HeldLaw) (h : step s = .next t) : t.HeldLaw :=
  step_keeps_change State.HeldLaw False (fun _ _ h => h.elim) (fun _ _ _ _ hc hs => hc.heldLaw hs)
    (fun s t hi hs => by
      have hheld : t.held = s.held := by rw [hi.frame]
      exact ⟨hheld ▸ hs.size, hheld ▸ hs.kinds⟩)
    (fun s t hr _ => by
      have hheld : t.held = [] := by rw [hr.frame]; rfl
      exact ⟨by simp [hheld], by simp [hheld]⟩) hs h

end Sys2Proof.Machine
end

section

/-! PROOF. The Outstanding Order Table: what a change does to the entries, and that every step keeps the pledge sum, the order of
creation, and the limits of the table and the lanes. -/

namespace Sys2Proof.Machine

/-! ### Pledges -/

/-- The pledges of a list of entries. -/
def pledgeTotal (l : List Entry) : Nat := (l.map Entry.pledged).sum

theorem pledgeTotal_append (l : List Entry) (e : Entry) : pledgeTotal (l ++ [e]) = pledgeTotal l + e.pledged := by
  simp [pledgeTotal]

theorem pledgeTotal_map {f : Entry → Entry} (hf : ∀ e, (f e).pledge = e.pledge) (l : List Entry) :
    pledgeTotal (l.map f) = pledgeTotal l := by
  have hsame : ∀ e, (f e).pledged = e.pledged := fun e => by rw [Entry.pledged, hf, Entry.pledged]
  simp [pledgeTotal, hsame, Function.comp_def]

theorem pledgeTotal_release (p : Nat) (l : List Entry) : pledgeTotal (releasePledge p l) + pledgesOf p l = pledgeTotal l := by
  induction l with
  | nil => rfl
  | cons e l ih =>
    have hcons : ∀ (f : Entry → Entry), pledgeTotal ((e :: l).map f) = (f e).pledged + pledgeTotal (l.map f) := fun f => by
      simp [pledgeTotal]
    have htotal : pledgeTotal (e :: l) = e.pledged + pledgeTotal l := by simp [pledgeTotal]
    rw [releasePledge, hcons, htotal]
    rw [releasePledge] at ih
    by_cases he : (e.part == .general && e.logical == some p) = true
    · have hof : pledgesOf p (e :: l) = e.pledged + pledgesOf p l := by simp [pledgesOf, he]
      rw [if_pos he, hof]
      show 0 + _ + _ = _
      omega
    · have hof : pledgesOf p (e :: l) = pledgesOf p l := by simp [pledgesOf, he]
      rw [if_neg he, hof]
      omega

theorem pledgeTotal_filter {l : List Entry} (h : l.Pairwise (fun x y => x.seq < y.seq)) {e : Entry} (he : e ∈ l) :
    pledgeTotal (l.filter (fun x => x.seq != e.seq)) = pledgeTotal l - e.pledged := by
  induction l with
  | nil => cases he
  | cons x l ih =>
    obtain ⟨hx, hl⟩ := List.pairwise_cons.1 h
    have htotal : ∀ m : List Entry, pledgeTotal (x :: m) = x.pledged + pledgeTotal m := fun m => by simp [pledgeTotal]
    rcases List.mem_cons.1 he with rfl | he
    · have hrest : l.filter (fun y => y.seq != e.seq) = l :=
        List.filter_eq_self.2 fun y hy => by simpa using (hx y hy).ne'
      rw [List.filter_cons_of_neg (by simp), hrest, htotal]
      omega
    · have hle : e.pledged ≤ pledgeTotal l := List.single_le_sum (by simp) _ (List.mem_map_of_mem he)
      rw [List.filter_cons_of_pos (by simpa using (hx e he).ne), htotal, htotal, ih hl he]
      omega

theorem State.freeEntry_pledged {s : State} (hs : s.Ordered) (hsum : s.pledgeSum = pledgeTotal s.entries) {e : Entry}
    (he : e ∈ s.entries) : (s.freeEntry e).pledgeSum = pledgeTotal (s.freeEntry e).entries := by
  show s.pledgeSum - e.pledged = _
  rw [hsum]
  exact (pledgeTotal_filter hs.1 he).symm

/-- The pledge sum is the sum of the pledges (R112). -/
theorem Change.pledgeSum {L : Licence} {s t : State} (h : Change L s t) (hL : L.ordered) (hs : s.Ordered)
    (hsum : s.pledgeSum = pledgeTotal s.entries) : t.pledgeSum = pledgeTotal t.entries := by
  have hadd : ∀ (u : State) (e : Entry), e.pledge = none → u.pledgeSum = pledgeTotal u.entries →
      (u.addEntry e).pledgeSum = pledgeTotal (u.addEntry e).entries := by
    intro u e he hu
    show u.pledgeSum = pledgeTotal (u.entries ++ [{ e with seq := u.nextSeq }])
    rw [pledgeTotal_append, hu, Entry.pledged, he]
    rfl
  cases h with
  | quiet t h => rw [h]; exact hsum
  | store b _ _ => rw [State.setBank_frame]; exact hsum
  | admission l o a row c _ _ _ =>
    have hsame : ((((s.setHeld l).charge c a.static.startCost).admitPoint a ((s.setHeld l).shape a row o.value)).entries =
        s.entries) ∧ (((s.setHeld l).charge c a.static.startCost).admitPoint a ((s.setHeld l).shape a row o.value)).pledgeSum =
        s.pledgeSum := by
      unfold State.admitPoint
      rcases c with _ | _ | _ <;> split <;> exact ⟨rfl, rfl⟩
    show (((s.setHeld l).charge c a.static.startCost).admitPoint a _).pledgeSum + _ =
      pledgeTotal ((((s.setHeld l).charge c a.static.startCost).admitPoint a _).entries ++ [_])
    rw [pledgeTotal_append, hsame.1, hsame.2, hsum]
    rfl
  | priority l o a _ _ _ => exact hadd (s.setHeld l) _ rfl hsum
  | trip n a i w _ _ => exact hadd s _ rfl hsum
  | free e he => exact State.freeEntry_pledged hs hsum (he hL)
  | endEntry e c _ _ he => exact State.freeEntry_pledged hs hsum (he hL)
  | sent n t =>
    show s.pledgeSum = pledgeTotal (s.entries.map _)
    rw [pledgeTotal_map (fun e => by split <;> rfl), hsum]
  | image p d _ _ _ =>
    unfold State.loadMoved
    split_ifs
    · exact hsum
    · show s.pledgeSum - pledgesOf p s.entries = pledgeTotal (releasePledge p s.entries)
      rw [hsum, ← pledgeTotal_release p s.entries]
      omega
    · exact hsum
  | zero hh he =>
    show 0 = pledgeTotal s.entries
    rw [he]
    rfl
  | figures t _ h => rw [h]; exact hsum
  | orders =>
    show s.pledgeSum = pledgeTotal (s.entries.map _)
    rw [pledgeTotal_map (fun e => by split <;> rfl), hsum]
  | _ => exact hsum

theorem State.PledgeLaw.ordered {s : State} (h : s.PledgeLaw) : s.Ordered := ⟨h.order, h.next⟩

theorem Change.pledgeLaw {L : Licence} {s t : State} (h : Change L s t) (hL : L.ordered) (hs : s.PledgeLaw) : t.PledgeLaw where
  sum := h.pledgeSum hL hs.ordered hs.sum
  order := (h.ordered hs.ordered).1
  next := (h.ordered hs.ordered).2

theorem State.PledgeLaw.of_idles {s t : State} (hi : s.Idles t) (hs : s.PledgeLaw) : t.PledgeLaw := by
  rw [hi.frame]
  exact ⟨hs.sum, hs.order, hs.next⟩

theorem State.PledgeLaw.of_restarts {s t : State} (hr : s.Restarts t) : t.PledgeLaw := by
  rw [hr.frame]
  exact ⟨rfl, List.Pairwise.nil, fun e he => by cases he⟩

theorem step_pledgeLaw {s t : State} (hs : s.PledgeLaw) (h : step s = .next t) : t.PledgeLaw :=
  step_keeps_change State.PledgeLaw True (fun _ hs _ => hs.ordered) (fun _ _ _ hL hc hs => hc.pledgeLaw (hL trivial) hs)
    (fun _ _ hi hs => .of_idles hi hs) (fun _ _ hr _ => .of_restarts hr) hs h

/-! ### Limits of the table and the lanes -/

theorem State.partCount_eq (s : State) (k : EntryPart) : s.partCount k = s.entries.countP (fun e => e.part == k) :=
  List.countP_eq_length_filter.symm

theorem State.lane_length (s : State) (d : DnPort) (k : EntryPart) :
    (s.lane d k).length = s.entries.countP (fun e => e.part == k && e.port == d && e.isQueued) :=
  List.countP_eq_length_filter.symm

/-- The limits of R136 and R139 on a list of entries. -/
structure EntriesFit (l : List Entry) : Prop where
  general : l.countP (fun e => e.part == .general) ≤ 48
  priority : l.countP (fun e => e.part == .priority) ≤ 16
  generalLane : ∀ d, l.countP (fun e => e.part == .general && e.port == d && e.isQueued) ≤ 16
  priorityLane : ∀ d, l.countP (fun e => e.part == .priority && e.port == d && e.isQueued) ≤ 8

theorem State.tableLaw_iff (s : State) :
    s.TableLaw ↔ EntriesFit s.entries ∧ ∀ d, (s.port (.dn d)).repeatLane.length ≤ 16 := by
  constructor
  · intro h
    refine ⟨⟨?_, ?_, fun d => ?_, fun d => ?_⟩, h.repeatLane⟩
    · exact s.partCount_eq _ ▸ h.general
    · exact s.partCount_eq _ ▸ h.priority
    · exact s.lane_length _ _ ▸ h.generalLane d
    · exact s.lane_length _ _ ▸ h.priorityLane d
  · rintro ⟨h, hlane⟩
    refine ⟨?_, ?_, fun d => ?_, fun d => ?_, hlane⟩
    · rw [s.partCount_eq]; exact h.general
    · rw [s.partCount_eq]; exact h.priority
    · rw [s.lane_length]; exact h.generalLane d
    · rw [s.lane_length]; exact h.priorityLane d

theorem EntriesFit.nil : EntriesFit [] := ⟨by simp, by simp, by simp, by simp⟩

theorem EntriesFit.sublist {l m : List Entry} (h : EntriesFit l) (hm : m.Sublist l) : EntriesFit m :=
  ⟨(hm.countP_le ..).trans h.general, (hm.countP_le ..).trans h.priority, fun d => (hm.countP_le ..).trans (h.generalLane d),
    fun d => (hm.countP_le ..).trans (h.priorityLane d)⟩

/-- A change of the entries that moves none to another part, port or into its lane. -/
theorem EntriesFit.map {l : List Entry} (h : EntriesFit l) (f : Entry → Entry)
    (hf : ∀ e, (f e).part = e.part ∧ (f e).port = e.port ∧ ((f e).isQueued = true → e.isQueued = true)) :
    EntriesFit (l.map f) := by
  have hpart : ∀ k, (l.map f).countP (fun e => e.part == k) ≤ l.countP (fun e => e.part == k) := fun k => by
    rw [List.countP_map]
    exact List.countP_mono_left fun e _ he => by simpa [(hf e).1] using he
  have hlane : ∀ k d, (l.map f).countP (fun e => e.part == k && e.port == d && e.isQueued) ≤
      l.countP (fun e => e.part == k && e.port == d && e.isQueued) := fun k d => by
    rw [List.countP_map]
    refine List.countP_mono_left fun e _ he => ?_
    simp only [Function.comp_apply, (hf e).1, (hf e).2.1, Bool.and_eq_true] at he ⊢
    exact ⟨he.1, (hf e).2.2 he.2⟩
  exact ⟨(hpart _).trans h.general, (hpart _).trans h.priority, fun d => (hlane _ d).trans (h.generalLane d),
    fun d => (hlane _ d).trans (h.priorityLane d)⟩

theorem EntriesFit.add_general {s : State} (h : EntriesFit s.entries) {e : Entry} (hpart : e.part = .general)
    (hfree : s.generalFree e.port = true) : EntriesFit (s.entries ++ [e]) := by
  obtain ⟨hcount, hlane⟩ := (s.generalFree_iff e.port).1 hfree
  rw [s.partCount_eq] at hcount
  rw [s.lane_length] at hlane
  refine ⟨?_, ?_, fun d => ?_, fun d => ?_⟩
  · simpa [List.countP_append, hpart] using hcount
  · simpa [List.countP_append, hpart] using h.priority
  · rw [List.countP_append, List.countP_singleton]
    by_cases hd : e.port = d
    · subst hd
      split
      · omega
      · exact (h.generalLane _)
    · simpa [hd] using h.generalLane d
  · simpa [List.countP_append, List.countP_singleton, hpart] using h.priorityLane d

theorem EntriesFit.add_priority {s : State} (h : EntriesFit s.entries) {e : Entry} (hpart : e.part = .priority)
    (hfree : s.priorityFree e.port = true) : EntriesFit (s.entries ++ [e]) := by
  obtain ⟨hcount, hlane⟩ := (s.priorityFree_iff e.port).1 hfree
  rw [s.partCount_eq] at hcount
  rw [s.lane_length] at hlane
  refine ⟨?_, ?_, fun d => ?_, fun d => ?_⟩
  · simpa [List.countP_append, hpart] using h.general
  · simpa [List.countP_append, hpart] using hcount
  · simpa [List.countP_append, List.countP_singleton, hpart] using h.generalLane d
  · rw [List.countP_append, List.countP_singleton]
    by_cases hd : e.port = d
    · subst hd
      split
      · omega
      · exact (h.priorityLane _)
    · simpa [hd] using h.priorityLane d

/-- An admission adds one general entry of the order's window (R96). -/
theorem State.admitOrder_entries (s : State) (o : PointTel) (a : Addressed) (row : ScreenRow) (c : Option BudgetClass) :
    ∃ e : Entry, (s.admitOrder o a row c).entries = s.entries ++ [e] ∧ e.part = .general ∧ e.port = a.window.port ∧
      e.dest = o.dest ∧ e.point = o.point ∧ e.logical = some a.logical ∧ e.isSupervisory = true := by
  have hsame : ((s.charge c a.static.startCost).admitPoint a (s.shape a row o.value)).entries = s.entries := by
    unfold State.admitPoint
    rcases c with _ | _ | _ <;> split <;> rfl
  unfold State.admitOrder State.addEntry State.setPledgeSum
  simp only [hsame]
  exact ⟨_, rfl, rfl, rfl, rfl, rfl, rfl, rfl⟩

theorem Change.entriesFit {L : Licence} {s t : State} (h : Change L s t) (hs : EntriesFit s.entries) : EntriesFit t.entries := by
  cases h with
  | quiet t h => rw [h]; exact hs
  | store b _ _ => rw [State.setBank_frame]; exact hs
  | admission l o a row c _ _ h =>
    obtain ⟨e, he, hpart, hport, _⟩ := (s.setHeld l).admitOrder_entries o a row c
    rw [he]
    exact hs.add_general hpart (hport ▸ h.free)
  | priority l o a _ _ h => exact hs.add_priority rfl h
  | trip n a i w _ h => exact hs.add_priority rfl h
  | free e _ => exact hs.sublist List.filter_sublist
  | endEntry e c _ _ _ => exact hs.sublist List.filter_sublist
  | sent n t =>
    refine hs.map _ fun e => ?_
    split
    · exact ⟨rfl, rfl, fun h => by cases h⟩
    · exact ⟨rfl, rfl, id⟩
  | image p d _ _ _ =>
    unfold State.loadMoved
    split_ifs
    · exact hs
    · refine hs.map _ fun e => ?_
      split <;> exact ⟨rfl, rfl, id⟩
    · exact hs
  | figures t _ h => rw [h]; exact hs
  | orders =>
    refine hs.map _ fun e => ?_
    split <;> exact ⟨rfl, rfl, id⟩
  | _ => exact hs

theorem Change.ports {L : Licence} {s t : State} (h : Change L s t) : t.ports = s.ports ∨
    ∃ p v, t = s.setPort p v ∧ (v.repeatLane.length ≤ 16 ∨ v.repeatLane.length ≤ (s.port p).repeatLane.length) := by
  cases h with
  | quiet t h => rw [h]; exact .inl rfl
  | store b _ _ => rw [State.setBank_frame]; exact .inl rfl
  | port p v h => exact .inr ⟨p, v, rfl, h⟩
  | admission l o a row c _ _ _ => rw [State.admitOrder_frame]; exact .inl rfl
  | image p d _ _ _ => rw [State.loadMoved_frame]; exact .inl rfl
  | figures t _ h => rw [h]; exact .inl rfl
  | _ => exact .inl rfl

theorem Change.tableLaw {L : Licence} {s t : State} (h : Change L s t) (hs : s.TableLaw) : t.TableLaw := by
  rw [State.tableLaw_iff] at hs ⊢
  refine ⟨h.entriesFit hs.1, fun d => ?_⟩
  rcases h.ports with hsame | ⟨p, v, rfl, hv⟩
  · unfold State.port
    rw [hsame]
    exact hs.2 d
  · rw [State.port_setPort]
    split
    next hp =>
      subst hp
      exact hv.elim id fun h => h.trans (hs.2 d)
    next => exact hs.2 d

theorem step_tableLaw {s t : State} (hs : s.TableLaw) (h : step s = .next t) : t.TableLaw := by
  refine step_keeps_change State.TableLaw False (fun _ _ h => h.elim) (fun _ _ _ _ hc hs => hc.tableLaw hs)
    (fun s t hi hs => ?_) (fun s t hr _ => ?_) hs h
  · rw [State.tableLaw_iff] at hs ⊢
    refine ⟨?_, fun d => ?_⟩
    · rw [hi.frame]
      exact hs.1
    · rcases hi.lanes (.dn d) with hlane | hlane
      · rw [hlane]
        exact hs.2 d
      · simp [hlane]
  · rw [State.tableLaw_iff]
    refine ⟨?_, fun d => ?_⟩
    · rw [hr.frame]
      exact .nil
    · rw [hr.ports]
      unfold Port.started
      split <;> simp [Port.held, Port.clear]

end Sys2Proof.Machine
end

section

/-! PROOF. The UP transmit queue: what joins it and what gives way keeps its limits, and every step keeps them and the limit of the
answer debt. -/

namespace Sys2Proof.Machine

/-! ### The limits of a queue -/

/-- The limits of R160 on a queue. -/
structure QueueFits (q : List UpItem) : Prop where
  size : q.length ≤ 128
  reports : reportCount q ≤ 48
  keys : q.Pairwise (fun u v => ¬ sameReportKey u v)

theorem reportCount_add (q : List UpItem) : reportCount q + nonReportCount q = q.length := by
  unfold reportCount nonReportCount
  have h := List.length_eq_countP_add_countP UpItem.isReport (l := q)
  simp only [List.countP_eq_length_filter, Bool.not_eq_true, Bool.decide_eq_false] at h
  exact h.symm

theorem QueueFits.shrinks {q q' : List UpItem} (h : QueueFits q) (hq : QueueShrinks q q') : QueueFits q' :=
  ⟨hq.size.trans h.size, hq.reports.trans h.reports, hq.keys h.keys⟩

theorem UpContent.isReport_of_isAnswer {c : UpContent} (hc : c.isAnswer) (b : Bool) : (⟨c, b⟩ : UpItem).isReport = false := by
  cases c with
  | report r => exact absurd rfl (hc r)
  | _ => rfl

theorem length_discard {q : List UpItem} (h : reportCount q ≠ 0) : (discardOldestReport q).length + 1 = q.length := by
  have hany : ∃ u ∈ q, u.isReport = true := by
    have : (q.filter UpItem.isReport) ≠ [] := fun he => h (by simp [reportCount, he])
    obtain ⟨u, hu⟩ := List.exists_mem_of_ne_nil _ this
    exact ⟨u, List.mem_filter.1 hu⟩
  obtain ⟨u, hu, hreport⟩ := hany
  have := List.length_eraseP_add_one hu hreport
  exact this

theorem reportCount_discard {q : List UpItem} (h : reportCount q ≠ 0) : reportCount (discardOldestReport q) + 1 = reportCount q := by
  have hlen := length_discard h
  have hnon := nonReportCount_discard q
  have h1 := reportCount_add q
  have h2 := reportCount_add (discardOldestReport q)
  omega

theorem discard_sublist (q : List UpItem) : (discardOldestReport q).Sublist q := List.eraseP_sublist

theorem QueueFits.upJoin {q : List UpItem} (h : QueueFits q) {c : UpContent} (hc : c.isAnswer) (hn : nonReportCount q < 128) :
    QueueFits (upJoin q c) := by
  have hkeys : (q ++ [(⟨c, false⟩ : UpItem)]).Pairwise (fun u v => ¬ sameReportKey u v) := by
    refine List.pairwise_append.2 ⟨h.keys, List.pairwise_singleton _ _, fun u _ v hv => ?_⟩
    obtain rfl := List.mem_singleton.1 hv
    exact fun ⟨r, hr, _⟩ => hc r hr
  have hcount : reportCount (q ++ [⟨c, false⟩]) = reportCount q := by
    simp [reportCount, UpContent.isReport_of_isAnswer hc]
  have hlen : (q ++ [(⟨c, false⟩ : UpItem)]).length = q.length + 1 := by simp
  have hsum := reportCount_add q
  have hsize := h.size
  unfold Machine.upJoin
  simp only [gt_iff_lt]
  split
  next hover =>
    have hover : 128 < (q ++ [(⟨c, false⟩ : UpItem)]).length := hover
    have hne : reportCount (q ++ [⟨c, false⟩]) ≠ 0 := by omega
    have hlength := length_discard hne
    have hreports := reportCount_discard hne
    have := h.reports
    exact ⟨by omega, by omega, hkeys.sublist (discard_sublist _)⟩
  next hover =>
    have hover : ¬ 128 < (q ++ [(⟨c, false⟩ : UpItem)]).length := hover
    exact ⟨by omega, hcount ▸ h.reports, hkeys⟩

theorem hasKey_report (src : Byte) (point : Word) (t : PointTel) (b : Bool) :
    UpItem.hasKey src point ⟨.report t, b⟩ = true ↔ t.src = src ∧ t.point = point := by
  simp [UpItem.hasKey]

/-- The replacement of the report of a key in its place (R160). -/
def replaceReport (t : PointTel) (u : UpItem) : UpItem :=
  if UpItem.hasKey t.src t.point u then ⟨.report t, u.sending⟩ else u

theorem UpItem.isReport_of_hasKey {src : Byte} {point : Word} {u : UpItem} (h : u.hasKey src point = true) :
    u.isReport = true := by
  unfold UpItem.hasKey at h
  unfold UpItem.isReport
  cases hc : u.content <;> simp [hc] at h ⊢

theorem replaceReport_isReport (t : PointTel) (u : UpItem) : (replaceReport t u).isReport = u.isReport := by
  unfold replaceReport
  split
  next h => rw [UpItem.isReport_of_hasKey h]; rfl
  next => rfl

/-- The replacement keeps the keys of every place. -/
theorem replaceReport_hasKey (t : PointTel) (src : Byte) (point : Word) (u : UpItem) :
    (replaceReport t u).hasKey src point = u.hasKey src point := by
  unfold replaceReport
  split
  next h =>
    unfold UpItem.hasKey at h ⊢
    split at h
    next r hr => simp_all
    next => cases h
  next => rfl

theorem replaceReport_keys (t : PointTel) {q : List UpItem} (h : q.Pairwise (fun u v => ¬ sameReportKey u v)) :
    (q.map (replaceReport t)).Pairwise (fun u v => ¬ sameReportKey u v) := by
  refine List.pairwise_map.2 (h.imp fun {u v} hne => ?_)
  rintro ⟨r, hr, hkey⟩
  rw [replaceReport_hasKey] at hkey
  unfold replaceReport at hr
  split at hr
  next hv =>
    obtain rfl : t = r := by simpa using hr
    unfold UpItem.hasKey at hv
    split at hv
    next r' hr' =>
      refine hne ⟨r', hr', ?_⟩
      simp only [Bool.and_eq_true, beq_iff_eq] at hv
      rw [hv.1, hv.2]
      exact hkey
    next => cases hv
  next => exact hne ⟨r, hr, hkey⟩

theorem upReport_eq (q : List UpItem) (t : PointTel) : upReport q t =
    if q.any (UpItem.hasKey t.src t.point) then q.map (replaceReport t)
    else if reportCount (q ++ [⟨.report t, false⟩]) > 48 ∨ (q ++ [(⟨.report t, false⟩ : UpItem)]).length > 128 then
      discardOldestReport (q ++ [⟨.report t, false⟩])
    else q ++ [⟨.report t, false⟩] := by
  unfold upReport
  simp only [Bool.or_eq_true, decide_eq_true_eq]
  rfl

theorem filter_map_replaceReport (t : PointTel) (f : Bool → Bool) (q : List UpItem) :
    ((q.map (replaceReport t)).filter (fun u => f u.isReport)).length = (q.filter (fun u => f u.isReport)).length := by
  rw [List.filter_map, List.length_map]
  simp [Function.comp_def, replaceReport_isReport]

theorem nonReportCount_upReport (q : List UpItem) (t : PointTel) : nonReportCount (upReport q t) = nonReportCount q := by
  have happend : nonReportCount (q ++ [⟨.report t, false⟩]) = nonReportCount q := by
    simp [nonReportCount, UpItem.isReport]
  rw [upReport_eq]
  split_ifs
  · exact filter_map_replaceReport t not q
  · rw [nonReportCount_discard, happend]
  · exact happend

theorem QueueFits.upReport {q : List UpItem} (h : QueueFits q) (t : PointTel) : QueueFits (upReport q t) := by
  rw [upReport_eq]
  have hcount : reportCount (q ++ [⟨.report t, false⟩]) = reportCount q + 1 := by
    rw [reportCount, List.filter_append, List.length_append]
    rfl
  have hlen : (q ++ [(⟨.report t, false⟩ : UpItem)]).length = q.length + 1 := by simp
  have hsize := h.size
  have hreports := h.reports
  split
  next =>
    refine ⟨by simpa using hsize, ?_, replaceReport_keys t h.keys⟩
    exact (filter_map_replaceReport t id q).le.trans hreports
  next hnew =>
    have hkeys : (q ++ [(⟨.report t, false⟩ : UpItem)]).Pairwise (fun u v => ¬ sameReportKey u v) := by
      refine List.pairwise_append.2 ⟨h.keys, List.pairwise_singleton _ _, fun u hu v hv => ?_⟩
      obtain rfl := List.mem_singleton.1 hv
      intro ⟨r, hr, hkey⟩
      obtain rfl : t = r := by simpa using hr
      exact hnew (List.any_eq_true.2 ⟨u, hu, hkey⟩)
    split
    next =>
      have hne : reportCount (q ++ [⟨.report t, false⟩]) ≠ 0 := by omega
      have h1 := length_discard hne
      have h2 := reportCount_discard hne
      exact ⟨by omega, by omega, hkeys.sublist (discard_sublist _)⟩
    next hover => exact ⟨by omega, by omega, hkeys⟩

/-! ### The answer debt -/

/-- The entries of supervisory orders. -/
def supervisoryCount (l : List Entry) : Nat := (l.filter Entry.isSupervisory).length

theorem State.debt_eq (s : State) : s.debt = nonReportCount s.upQueue + s.held.length + supervisoryCount s.entries := rfl

theorem supervisoryCount_map {f : Entry → Entry} (hf : ∀ e, (f e).origin = e.origin) (l : List Entry) :
    supervisoryCount (l.map f) = supervisoryCount l := by
  have hsame : ∀ e, (f e).isSupervisory = e.isSupervisory := fun e => by rw [Entry.isSupervisory, hf, Entry.isSupervisory]
  simp [supervisoryCount, List.filter_map, Function.comp_def, hsame]

theorem supervisoryCount_append (l : List Entry) (e : Entry) :
    supervisoryCount (l ++ [e]) = supervisoryCount l + if e.isSupervisory then 1 else 0 := by
  unfold supervisoryCount
  rw [List.filter_append, List.length_append]
  cases h : e.isSupervisory <;> simp [h]

theorem supervisoryCount_free_le (l : List Entry) (n : Nat) :
    supervisoryCount (l.filter (fun x => x.seq != n)) ≤ supervisoryCount l :=
  (List.filter_sublist.filter _).length_le

theorem supervisoryCount_free_lt {l : List Entry} {e : Entry} (he : e ∈ l) (hs : e.isSupervisory = true) :
    supervisoryCount (l.filter (fun x => x.seq != e.seq)) < supervisoryCount l := by
  unfold supervisoryCount
  rw [List.filter_filter]
  rw [← List.countP_eq_length_filter, ← List.countP_eq_length_filter]
  induction l with
  | nil => cases he
  | cons x l ih =>
    rw [List.countP_cons, List.countP_cons]
    rcases List.mem_cons.1 he with rfl | he
    · have hle : l.countP (fun a => a.isSupervisory && a.seq != e.seq) ≤ l.countP Entry.isSupervisory :=
        List.countP_mono_left fun x _ hx => (Bool.and_eq_true _ _ ▸ hx).1
      simp [hs]
      omega
    · have := ih he
      have hone : (if (x.isSupervisory && x.seq != e.seq) = true then 1 else 0) ≤ if x.isSupervisory = true then 1 else 0 := by
        cases x.isSupervisory <;> simp
        split <;> omega
      omega

/-- The queue fits and the debt is within its limit. -/
structure State.Owes (s : State) : Prop where
  fits : QueueFits s.upQueue
  debt : s.debt ≤ 120

theorem State.queueLaw_iff (s : State) : s.QueueLaw ↔ s.Owes :=
  ⟨fun h => ⟨⟨h.size, h.reports, h.keys⟩, h.debt⟩, fun h => ⟨h.fits.size, h.fits.reports, h.fits.keys, h.debt⟩⟩

/-- An answer joins where the debt has room for it. -/
theorem State.Owes.pushUp {s : State} (h : QueueFits s.upQueue) (hd : s.debt < 120) {c : UpContent} (hc : c.isAnswer) :
    (s.pushUp c).Owes := by
  have hn := nonReportCount_upJoin_le s.upQueue c
  rw [State.debt_eq] at hd
  refine ⟨h.upJoin hc (by omega), ?_⟩
  rw [State.debt_eq]
  simp only [State.pushUp_upQueue, State.pushUp_held, State.pushUp_entries]
  omega

theorem State.Spares.debt_lt {s : State} {l : List HeldRec} (h : s.Spares l) (hs : s.debt ≤ 120) : (s.setHeld l).debt < 120 := by
  have hlen := h.1.length_le
  have hroom := h.2
  rw [State.debt_eq] at hs hroom ⊢
  simp only [State.setHeld_upQueue, State.setHeld_held, State.setHeld_entries]
  omega

/-- An entry that joins adds at most one to the debt. -/
theorem State.debt_addEntry_le (s : State) (e : Entry) : (s.addEntry e).debt ≤ s.debt + 1 := by
  rw [State.debt_eq, State.debt_eq]
  show nonReportCount s.upQueue + s.held.length + supervisoryCount (s.entries ++ [{ e with seq := s.nextSeq }]) ≤ _
  rw [supervisoryCount_append]
  split <;> omega

theorem State.Owes.of_debt_le {s t : State} (h : s.Owes) (hq : t.upQueue = s.upQueue) (hd : t.debt ≤ s.debt) : t.Owes :=
  ⟨hq ▸ h.fits, hd.trans h.debt⟩

theorem State.Owes.of_same {s t : State} (h : s.Owes) (hq : t.upQueue = s.upQueue) (hh : t.held.length = s.held.length)
    (he : supervisoryCount t.entries = supervisoryCount s.entries) : t.Owes :=
  h.of_debt_le hq (by rw [State.debt_eq, State.debt_eq, hq, hh, he])

theorem Change.owes {L : Licence} {s t : State} (h : Change L s t) (hL : L.ordered) (hs : s.Owes) : t.Owes := by
  cases h with
  | quiet t h => rw [h]; exact hs.of_same rfl rfl rfl
  | store b _ _ => rw [State.setBank_frame]; exact hs.of_same rfl rfl rfl
  | queue q h =>
    refine ⟨hs.fits.shrinks h, ?_⟩
    have hd := hs.debt
    have ha := h.answers
    rw [State.debt_eq] at hd ⊢
    simp only
    omega
  | report r =>
    refine ⟨hs.fits.upReport r, ?_⟩
    have hd := hs.debt
    have hn := nonReportCount_upReport s.upQueue r
    rw [State.debt_eq] at hd ⊢
    simp only [State.pushReport_upQueue, State.pushReport_held, State.pushReport_entries]
    omega
  | answer l c hc h => exact .pushUp (s := s.setHeld l) hs.fits (h.debt_lt hs.debt) hc
  | hold o a r k c _ _ _ _ _ hq =>
    refine ⟨hs.fits, ?_⟩
    rw [State.debt_eq] at hq ⊢
    simp only [State.setHeld_upQueue, State.setHeld_held, State.setHeld_entries, List.length_append, List.length_singleton]
    omega
  | again l₁ l₂ h a r c hh _ => exact hs.of_same rfl (by rw [hh]; simp [State.setHeld]) rfl
  | admission l o a row c hl _ _ =>
    have hlt := hl.debt_lt hs.debt
    obtain ⟨e, he, _⟩ := (s.setHeld l).admitOrder_entries o a row c
    have hq : ((s.setHeld l).admitOrder o a row c).upQueue = s.upQueue := by rw [State.admitOrder_frame]; rfl
    have hh : ((s.setHeld l).admitOrder o a row c).held = l := by rw [State.admitOrder_frame]; rfl
    refine ⟨hq ▸ hs.fits, ?_⟩
    rw [State.debt_eq] at hlt ⊢
    rw [he, hq, hh, supervisoryCount_append]
    simp only [State.setHeld_upQueue, State.setHeld_held, State.setHeld_entries] at hlt ⊢
    split <;> omega
  | priority l o a hl _ _ =>
    have hlt := hl.debt_lt hs.debt
    have hle := (s.setHeld l).debt_addEntry_le (orderEntry .priority o a 0 none false)
    exact ⟨hs.fits, hle.trans hlt⟩
  | trip n a i w _ _ =>
    refine hs.of_same rfl rfl ?_
    show supervisoryCount (s.entries ++ [_]) = _
    rw [supervisoryCount_append]
    rfl
  | free e _ =>
    refine hs.of_debt_le rfl ?_
    have hle := supervisoryCount_free_le s.entries e.seq
    rw [State.debt_eq, State.debt_eq]
    show nonReportCount s.upQueue + s.held.length + supervisoryCount (s.entries.filter _) ≤ _
    omega
  | endEntry e c hc hsup he =>
    have hlt : (s.freeEntry e).debt < 120 := by
      have hd := hs.debt
      have hle := supervisoryCount_free_lt (he hL) hsup
      rw [State.debt_eq] at hd ⊢
      show nonReportCount s.upQueue + s.held.length + supervisoryCount (s.entries.filter _) < _
      omega
    exact .pushUp (s := s.freeEntry e) hs.fits hlt hc
  | sent n t => exact hs.of_same rfl rfl (supervisoryCount_map (fun e => by split <;> rfl) _)
  | image p d _ _ _ =>
    unfold State.loadMoved
    split_ifs
    · exact hs.of_same rfl rfl rfl
    · exact hs.of_same rfl rfl (supervisoryCount_map (fun e => by split <;> rfl) _)
    · exact hs.of_same rfl rfl rfl
  | figures t _ h => rw [h]; exact hs.of_same rfl rfl rfl
  | orders => exact hs.of_same rfl (List.length_map _) (supervisoryCount_map (fun e => by split <;> rfl) _)
  | _ => exact hs.of_same rfl rfl rfl

theorem step_queueLaw {s t : State} (hp : s.PledgeLaw) (hs : s.QueueLaw) (h : step s = .next t) : t.QueueLaw := by
  rw [State.queueLaw_iff] at hs ⊢
  refine (step_keeps_change (fun s => s.PledgeLaw ∧ s.Owes) True (fun _ hs _ => hs.1.ordered)
    (fun _ _ _ hL hc hs => ⟨hc.pledgeLaw (hL trivial) hs.1, hc.owes (hL trivial) hs.2⟩)
    (fun s t hi hs => ⟨.of_idles hi hs.1, ?_⟩) (fun s t hr hs => ⟨.of_restarts hr, ?_⟩) ⟨hp, hs⟩ h).2
  · rw [hi.frame]
    exact hs.2.of_same rfl rfl rfl
  · rw [hr.frame]
    exact ⟨⟨Nat.zero_le _, Nat.zero_le _, List.Pairwise.nil⟩, Nat.zero_le _⟩

end Sys2Proof.Machine
end

section

/-! PROOF. Every step keeps the stores in canonical form, and the agreement of the part mode, the markers, FAULT and the held
reset. -/

namespace Sys2Proof.Machine

/-! ### Stores -/

theorem Change.storeLaw {L : Licence} {s t : State} (h : Change L s t) (hs : s.StoreLaw) : t.StoreLaw := by
  have hsame : ∀ u : State, u.sects = s.sects → u.ports = s.ports → u.permitIn = s.permitIn → u.permitOut = s.permitOut →
      u.bankA = s.bankA → u.bankB = s.bankB → Store.wf PointDyn.clear u.image = true → u.StoreLaw := by
    intro u h1 h2 h3 h4 h5 h6 himage
    exact ⟨himage, h1 ▸ hs.sects, h2 ▸ hs.ports, h3 ▸ hs.permitIn, h4 ▸ hs.permitOut, h5 ▸ hs.bankA, h6 ▸ hs.bankB⟩
  have himage : ∀ p d, Store.wf PointDyn.clear (Store.write PointDyn.clear s.image p d) = true := fun p d =>
    Store.wf_write _ _ _ _ hs.image
  cases h with
  | quiet t h => rw [h]; exact hsame _ rfl rfl rfl rfl rfl rfl hs.image
  | port p v _ => exact ⟨hs.image, hs.sects, State.setPort_wf hs.ports p v, hs.permitIn, hs.permitOut, hs.bankA, hs.bankB⟩
  | permitIn k b =>
    exact ⟨hs.image, hs.sects, hs.ports, Store.wf_write _ _ _ _ hs.permitIn, hs.permitOut, hs.bankA, hs.bankB⟩
  | permitOut k b =>
    exact ⟨hs.image, hs.sects, hs.ports, hs.permitIn, Store.wf_write _ _ _ _ hs.permitOut, hs.bankA, hs.bankB⟩
  | store b _ h =>
    have hb := h hs.bankA hs.bankB
    cases hst : s.standby with
    | a => exact ⟨hs.image, hs.sects, hs.ports, hs.permitIn, hs.permitOut, hb, hs.bankB⟩
    | b => exact ⟨hs.image, hs.sects, hs.ports, hs.permitIn, hs.permitOut, hs.bankA, hb⟩
  | sect n v _ =>
    exact ⟨hs.image, Store.wf_write _ _ _ _ hs.sects, hs.ports, hs.permitIn, hs.permitOut, hs.bankA, hs.bankB⟩
  | admission l o a row c _ _ _ =>
    have hwf : Store.wf PointDyn.clear ((s.setHeld l).admitOrder o a row c).image = true := by
      show Store.wf PointDyn.clear (((s.setHeld l).charge c a.static.startCost).admitPoint a _).image = true
      have hcharge : ((s.setHeld l).charge c a.static.startCost).image = s.image := by rcases c with _ | _ | _ <;> rfl
      unfold State.admitPoint
      split
      · simpa [State.setPoint, hcharge] using himage _ _
      · simpa [State.setPoint, hcharge] using himage _ _
      · exact hcharge ▸ hs.image
    rw [State.admitOrder_frame] at hwf ⊢
    exact hsame _ rfl rfl rfl rfl rfl rfl hwf
  | touch p d _ _ _ _ => exact hsame _ rfl rfl rfl rfl rfl rfl (himage p d)
  | image p d _ _ _ => rw [State.loadMoved_frame]; exact hsame _ rfl rfl rfl rfl rfl rfl (himage p d)
  | zero => exact hsame _ rfl rfl rfl rfl rfl rfl (Store.wf_nil _)
  | carry p d _ _ _ => exact hsame _ rfl rfl rfl rfl rfl rfl (himage p d)
  | figures t _ h => rw [h]; exact hsame _ rfl rfl rfl rfl rfl rfl hs.image
  | _ => exact hsame _ rfl rfl rfl rfl rfl rfl hs.image

theorem Bank.empty_wf : Bank.empty.wf = true := by decide

theorem State.StoreLaw.of_idles {s t : State} (hi : s.Idles t) (hs : s.StoreLaw) : t.StoreLaw := by
  have hports := hi.portsWf hs.ports
  have hout := hi.permitOutWf hs.permitOut
  rw [hi.frame] at hports hout ⊢
  exact ⟨hs.image, hs.sects, hports, hs.permitIn, hout, hs.bankA, hs.bankB⟩

theorem State.StoreLaw.of_restarts {s t : State} (hr : s.Restarts t) (hs : s.StoreLaw) : t.StoreLaw := by
  have hports := hr.portsWf hs.ports
  rw [hr.frame] at hports ⊢
  exact ⟨Store.wf_nil _, Store.wf_nil _, hports, hs.permitIn, Store.wf_nil _, Bank.empty_wf, Bank.empty_wf⟩

theorem step_storeLaw {s t : State} (hs : s.StoreLaw) (h : step s = .next t) : t.StoreLaw :=
  step_keeps_change State.StoreLaw False (fun _ _ h => h.elim) (fun _ _ _ _ hc hs => hc.storeLaw hs)
    (fun _ _ hi hs => .of_idles hi hs) (fun _ _ hr hs => .of_restarts hr hs) hs h

/-- Settles O59: every kind of change keeps the canonical form of every store. -/
theorem everyStepKeepsTheStoreLaw : Obligations.EveryStepKeepsTheStoreLaw := fun _ _ hs h => step_storeLaw hs h

/-! ### The markers -/

/-- The part mode agrees with the markers and FAULT, as out of reset (R164, R170 to R172). -/
structure State.Marked (s : State) : Prop where
  transparent : s.mode = .transparent ↔ s.active = none
  standby : ∀ i, s.active = some i → s.standby = i.other
  fault : s.inReset = false → (s.fault = true ↔ s.mode = .failHold)

theorem State.ModeLaw.marked {s : State} (h : s.ModeLaw) : s.Marked := ⟨h.transparent, h.standby, h.fault⟩

theorem State.Marked.modeLaw {s : State} (h : s.Marked) (hr : s.inReset = false) : s.ModeLaw :=
  ⟨h.transparent, h.standby, h.fault, fun he => absurd he (by simp [hr])⟩

theorem Change.inReset {L : Licence} {s t : State} (h : Change L s t) : t.inReset = s.inReset := by
  cases h with
  | quiet t h => rw [h]; rfl
  | store b _ _ => rw [State.setBank_frame]; rfl
  | admission l o a row c _ _ _ => rw [State.admitOrder_frame]; rfl
  | image p d _ _ _ => rw [State.loadMoved_frame]; rfl
  | figures t _ h => rw [h]; rfl
  | _ => rfl

theorem Leads.inReset {L : Licence} {s t : State} (h : Leads L s t) : t.inReset = s.inReset :=
  Leads.keeps (P := fun u => u.inReset = s.inReset) (fun _ _ hc hs => hc.inReset.trans hs) h rfl

theorem BankId.other_other (i : BankId) : i.other.other = i := by cases i <;> rfl

theorem Change.marked {L : Licence} {s t : State} (h : Change L s t) (hs : s.Marked) : t.Marked := by
  cases h with
  | quiet t h => rw [h]; exact ⟨hs.transparent, hs.standby, hs.fault⟩
  | store b _ _ => rw [State.setBank_frame]; exact ⟨hs.transparent, hs.standby, hs.fault⟩
  | fault hm =>
    have hne : s.active ≠ none := fun he => by simp [hs.transparent.2 he] at hm
    exact ⟨by simp [hne], hs.standby, fun _ => by simp⟩
  | admission l o a row c _ _ _ => rw [State.admitOrder_frame]; exact ⟨hs.transparent, hs.standby, hs.fault⟩
  | image p d _ _ _ => rw [State.loadMoved_frame]; exact ⟨hs.transparent, hs.standby, hs.fault⟩
  | figures t _ h => rw [h]; exact ⟨hs.transparent, hs.standby, hs.fault⟩
  | leave => exact ⟨by simp, by simp, by simp⟩
  | exchange =>
    refine ⟨by simp [State.exchangeBanks], fun i hi => ?_, by simp [State.exchangeBanks]⟩
    simp only [State.exchangeBanks, Option.some.injEq] at hi ⊢
    rw [hi]
  | _ => exact ⟨hs.transparent, hs.standby, hs.fault⟩

/-! ### In reset -/

/-- What a command but those of the reset does to a part held in reset: a line command sets the level of its own line (R178). -/
def State.lineTaken (s : State) : Instr → State
  | .permitInChange k level =>
    if 4 ≤ k ∨ s.permitInLevel k = level then s else { s with permitIn := Store.write false s.permitIn k level }
  | .campaignHaltAsserted => { s with campaignHalt := true }
  | .campaignHaltDeasserted => { s with campaignHalt := false }
  | .lineSignalAppears p => s.setPort p { s.port p with signal := true }
  | .lineSignalReturns p => s.setPort p { s.port p with signal := true }
  | .provingSignalAbsent p => s.setPort p { s.port p with signal := false }
  | .lineSignalLost p => s.setPort p { s.port p with signal := false }
  | _ => s

section InReset

variable {s : State} (hr : s.inReset = true)
include hr

theorem State.arriveUp_inReset (t : Telegram) : s.arriveUp t = s := by simp [State.arriveUp, hr]

theorem State.arriveDn_inReset (d : DnPort) (t : Telegram) : s.arriveDn d t = s := by simp [State.arriveDn, hr]

theorem State.arrive_inReset (p : PortId) (t : Telegram) : s.arrive p t = s := by
  cases p with
  | up => exact State.arriveUp_inReset hr t
  | dn d => exact State.arriveDn_inReset hr d t

theorem State.handle_inReset (takes : MgmtTel → Bool) (judge : State → MgmtTel → State) : s.handle takes judge = s := by
  simp [State.handle, State.nextRequest, hr]

theorem State.signalOn_inReset (p : PortId) : s.signalOn p = s.setPort p { s.port p with signal := true } := by
  simp [State.signalOn, hr]

theorem State.signalOff_inReset (p : PortId) : s.signalOff p = s.setPort p { s.port p with signal := false } := by
  simp [State.signalOff, hr]

theorem State.outOfReset_inReset (f : State → State) : s.outOfReset f = s := by simp [State.outOfReset, hr]

theorem State.changePermitIn_inReset (k : Nat) (level : Bool) :
    s.changePermitIn k level = s.lineTaken (.permitInChange k level) := by
  unfold State.changePermitIn State.lineTaken
  refine ite_congr rfl (fun _ => rfl) fun _ => if_pos ?_
  show (s.inReset || _) = true
  rw [hr]
  rfl

theorem State.assertHalt_inReset : s.assertHalt = { s with campaignHalt := true } := by
  unfold State.assertHalt
  split
  next h => rw [← h]
  next =>
    refine if_pos ?_
    show (s.inReset || _) = true
    rw [hr]
    rfl

theorem State.deassertHalt_inReset : s.deassertHalt = { s with campaignHalt := false } := by
  unfold State.deassertHalt
  split
  next =>
    refine if_pos ?_
    show (s.inReset || _) = true
    rw [hr]
    rfl
  next h =>
    have hfalse : s.campaignHalt = false := by simpa using h
    rw [← hfalse]

/-- While the reset is held a command but those of the reset does no more than set the level of its line (R178). -/
theorem exec_inReset (hq : s.agenda = []) {c : Instr} (hc : ¬ isResetCommand c) : exec c s = .next (s.lineTaken c) := by
  have hsettled : ∀ u : State, u.agenda = [] → (.next u.settled : Host.Outcome State Fault Refusal) = .next u := fun u hu => by
    rw [State.settled_of_quiet u hu]
  have hnext : ∀ u : State, u = s.lineTaken c → (.next u.settled : Host.Outcome State Fault Refusal) = .next (s.lineTaken c) :=
    fun u hu => by
      rw [← hu]
      refine hsettled u ?_
      rw [hu]
      unfold State.lineTaken
      split
      · split <;> exact hq
      all_goals exact hq
  cases c with
  | resetAsserted k => exact absurd trivial hc
  | resetReleased k x => exact absurd trivial hc
  | order tel => exact hnext _ (State.arriveUp_inReset hr _)
  | report d tel => exact hnext _ (State.arriveDn_inReset hr _ _)
  | reply d tel => exact hnext _ (State.arriveDn_inReset hr _ _)
  | transparentRepeat tel => exact hnext _ (State.arriveUp_inReset hr _)
  | transparentForward d tel => exact hnext _ (State.arriveDn_inReset hr _ _)
  | telegramDiscarded p tel => exact hnext _ (State.arrive_inReset hr _ _)
  | checkError p rx => exact hnext _ (by simp [State.receive, hr, State.lineTaken])
  | mgmtRequestIntake tel => exact hnext _ (State.arriveUp_inReset hr _)
  | swapCheckEnd => exact hnext _ (by simp [State.swapCheckEnds, hr, State.lineTaken])
  | permitInChange k level => exact hnext _ (State.changePermitIn_inReset hr k level)
  | campaignHaltAsserted => exact hnext _ (State.assertHalt_inReset hr)
  | campaignHaltDeasserted => exact hnext _ (State.deassertHalt_inReset hr)
  | lineSignalAppears p => exact hnext _ (State.signalOn_inReset hr p)
  | lineSignalReturns p => exact hnext _ (State.signalOn_inReset hr p)
  | provingSignalAbsent p => exact hnext _ (State.signalOff_inReset hr p)
  | lineSignalLost p => exact hnext _ (State.signalOff_inReset hr p)
  | provingTimerExpiry p => exact hnext _ (by simp [State.provingExpires, hr, State.lineTaken])
  | lossTimerExpiry p => exact hnext _ (by simp [State.lossExpires, hr, State.lineTaken])
  | staleTimerExpiry p => exact hnext _ (State.outOfReset_inReset hr _)
  | confirmationTimerExpiry n => exact hnext _ (State.outOfReset_inReset hr _)
  | overdueTimerExpiry n => exact hnext _ (State.outOfReset_inReset hr _)
  | periodBoundary => exact hnext _ (State.outOfReset_inReset hr _)
  | tallyDecay => exact hnext _ (State.outOfReset_inReset hr _)
  | holdExpired dest point => exact hnext _ (State.outOfReset_inReset hr _)
  | replyTimeout n => exact hnext _ (State.outOfReset_inReset hr _)
  | transmission d => exact hnext _ (by simp [State.transmitNext, State.lineFree, hr, State.lineTaken])
  | repeatLaneSend d => exact hnext _ (by simp [State.repeatNext, State.lineFree, hr, State.lineTaken])
  | upTransmitStart => exact hnext _ (by simp [State.upStart, hr, State.lineTaken])
  | upTransmitEnd => exact hnext _ (by simp [State.upEnd, hr, State.lineTaken])
  | _ => exact hnext _ (State.handle_inReset hr _ _)

end InReset

/-! ### The mode law -/

/-- The outputs and ports of a part held in reset (R178). -/
structure State.HeldOutputs (s : State) : Prop where
  fault : s.fault = false
  quiet : s.agenda = []
  permitOut : ∀ k < 4, s.permitOutLevel k = false
  down : ∀ p, (s.port p).state = .down

theorem State.modeLaw_iff (s : State) : s.ModeLaw ↔ s.Marked ∧ (s.inReset = true → s.HeldOutputs) :=
  ⟨fun h => ⟨h.marked, fun hr => ⟨(h.held hr).1, (h.held hr).2.1, (h.held hr).2.2.1, (h.held hr).2.2.2⟩⟩,
    fun h => ⟨h.1.transparent, h.1.standby, h.1.fault, fun hr =>
      ⟨(h.2 hr).fault, (h.2 hr).quiet, (h.2 hr).permitOut, (h.2 hr).down⟩⟩⟩

/-- A line command leaves all but its line. -/
theorem State.modeLaw_lineTaken {s : State} (hs : s.ModeLaw) (c : Instr) : (s.lineTaken c).ModeLaw := by
  have hport : ∀ p b, (s.setPort p { s.port p with signal := b }).ModeLaw := fun p b => by
    refine ⟨hs.transparent, hs.standby, hs.fault, fun hr => ?_⟩
    obtain ⟨hfault, hquiet, hpermit, hdown⟩ := hs.held hr
    refine ⟨hfault, hquiet, hpermit, fun q => ?_⟩
    rw [State.port_setPort]
    split
    · exact hdown p
    · exact hdown q
  have hsame : ∀ u : State, u.mode = s.mode → u.active = s.active → u.standby = s.standby → u.inReset = s.inReset →
      u.fault = s.fault → u.agenda = s.agenda → u.permitOut = s.permitOut → u.ports = s.ports → u.ModeLaw := by
    intro u h1 h2 h3 h4 h5 h6 h7 h8
    refine ⟨by rw [h1, h2]; exact hs.transparent, by rw [h2, h3]; exact hs.standby, by rw [h4, h5, h1]; exact hs.fault, ?_⟩
    rw [h4, h5, h6]
    unfold State.permitOutLevel State.port
    rw [h7, h8]
    exact hs.held
  unfold State.lineTaken
  split
  · split
    · exact hs
    · exact hsame _ rfl rfl rfl rfl rfl rfl rfl rfl
  · exact hsame _ rfl rfl rfl rfl rfl rfl rfl rfl
  · exact hsame _ rfl rfl rfl rfl rfl rfl rfl rfl
  · exact hport _ _
  · exact hport _ _
  · exact hport _ _
  · exact hport _ _
  · exact hs

theorem exec_modeLaw {c : Instr} {s t : State} (hc : ¬ isResetCommand c) (hs : s.ModeLaw) (h : exec c s = .next t) :
    t.ModeLaw := by
  cases hr : s.inReset with
  | true =>
    rw [exec_inReset hr (hs.held hr).2.1 hc] at h
    obtain rfl := Host.Outcome.next.inj h
    exact State.modeLaw_lineTaken hs c
  | false =>
    have hleads := Leads.exec False hc (fun h => h.elim) h
    exact (Leads.keeps (fun _ _ hc hs => hc.marked hs) hleads hs.marked).modeLaw (hleads.inReset.trans hr)

theorem State.holdReset_inReset (s : State) : s.holdReset.inReset = s.inReset := by
  rw [State.inReset, State.holdReset_frame]
  rfl

theorem State.setCause_inReset (s : State) (c : ResetCause) : (s.setCause c).inReset = true := by
  cases c <;> simp [State.setCause, State.inReset]

theorem State.heldOutputs_holdReset (s : State) : s.holdReset.HeldOutputs where
  fault := by rw [State.holdReset_frame]
  quiet := s.holdReset_agenda
  permitOut k hk := by
    unfold State.permitOutLevel
    rw [State.holdReset_permitOut]
    exact State.permitOutLevel_dropPermitOut s hk
  down p := by rw [State.holdReset_ports]; rfl

theorem State.modeLaw_assertReset {s : State} (hs : s.ModeLaw) (c : ResetCause) : (s.assertReset c).ModeLaw := by
  rw [State.assertReset_eq, State.modeLaw_iff]
  have hr : (s.setCause c).holdReset.inReset = true := by rw [State.holdReset_inReset, State.setCause_inReset]
  refine ⟨⟨?_, ?_, fun h => absurd h (by simp [hr])⟩, fun _ => State.heldOutputs_holdReset _⟩
  · rw [State.holdReset_frame]
    cases c <;> exact hs.transparent
  · rw [State.holdReset_frame]
    cases c <;> exact hs.standby

theorem State.modeLaw_restarts {s t : State} (h : s.Restarts t) : t.ModeLaw := by
  refine State.Marked.modeLaw ?_ ?_
  · rw [h.frame]
    exact ⟨by simp [State.reset], by simp [State.reset], by simp [State.reset]⟩
  · rw [h.frame]
    rfl

theorem State.modeLaw_tick {s t : State} (h : s.Ticks t) (hs : s.ModeLaw) : t.ModeLaw := by
  have hr : t.inReset = s.inReset := by rw [State.inReset, h.reset.1, h.reset.2]; rfl
  have hmode : t.mode = s.mode := by rw [h.frame]
  have hactive : t.active = s.active := by rw [h.frame]
  have hstandby : t.standby = s.standby := by rw [h.frame]
  obtain ⟨hout, hfault, hagenda⟩ := h.outputs
  refine ⟨by rw [hmode, hactive]; exact hs.transparent, by rw [hactive, hstandby]; exact hs.standby,
    by rw [hr, hfault, hmode]; exact hs.fault, fun he => ?_⟩
  obtain ⟨h1, h2, h3, h4⟩ := hs.held (hr ▸ he)
  refine ⟨hfault.trans h1, hagenda.trans h2, fun k hk => ?_, fun p => (h.states p).trans (h4 p)⟩
  rw [State.permitOutLevel, hout]
  exact h3 k hk

theorem State.modeLaw_releaseReset {s : State} (hs : s.ModeLaw) (c : ResetCause) (x : BitVec 3) :
    (s.releaseReset c x).settled.ModeLaw := by
  unfold State.releaseReset
  split
  next hr =>
    obtain ⟨hfault, hquiet, hpermit, hdown⟩ := hs.held hr
    split
    next hstill =>
      have hagenda : (s.endCause c).agenda = [] := by cases c <;> exact hquiet
      rw [State.settled_of_quiet _ hagenda]
      refine ⟨?_, ?_, fun h => absurd h (by simp [hstill]), fun _ => ?_⟩
      · cases c <;> exact hs.transparent
      · cases c <;> exact hs.standby
      · cases c <;> exact ⟨hfault, hquiet, hpermit, hdown⟩
    next =>
      have hrestart := State.restarts_beginOperation (s.endCause c) x
      have hagenda : ((s.endCause c).beginOperation x).agenda = [] := by rw [hrestart.frame]; rfl
      rw [State.settled_of_quiet _ hagenda]
      exact State.modeLaw_restarts hrestart
  next hr =>
    have hr : s.inReset = false := by simpa using hr
    have hleads := Leads.settled (L := ⟨False, False, False, False, fun _ => False⟩) s
    exact (Leads.keeps (fun _ _ hc hs => hc.marked hs) hleads hs.marked).modeLaw (hleads.inReset.trans hr)

theorem State.modeLaw_setPending {s : State} (hs : s.ModeLaw) (l : List Instr) : ({ s with pending := l } : State).ModeLaw :=
  ⟨hs.transparent, hs.standby, hs.fault, hs.held⟩

theorem step_modeLaw {s t : State} (hs : s.ModeLaw) (h : step s = .next t) : t.ModeLaw := by
  unfold step at h
  split at h
  next c rest _ =>
    have hs := State.modeLaw_setPending hs rest
    by_cases hc : isResetCommand c
    · cases c with
      | resetAsserted k =>
        obtain rfl := Host.Outcome.next.inj h
        rw [State.assertReset_settled]
        exact State.modeLaw_assertReset hs k
      | resetReleased k x =>
        obtain rfl := Host.Outcome.next.inj h
        exact State.modeLaw_releaseReset hs k x
      | _ => exact hc.elim
    · exact exec_modeLaw hc hs h
  next =>
    obtain rfl := Host.Outcome.next.inj h
    exact State.modeLaw_tick s.ticks_idle hs

end Sys2Proof.Machine
end

section

/-! PROOF. What each part of a bank swap may change, and that every step keeps the budget figures within the active record. -/

namespace Sys2Proof.Machine

/-! ### Frames of a swap -/

theorem State.offerNotice_frame (s : State) (k : NoticeKind) (n p : Option Nat) (c : Cause) : s.offerNotice k n p c =
    { s with upQueue := (s.offerNotice k n p c).upQueue, noticeLost := (s.offerNotice k n p c).noticeLost } := by
  unfold State.offerNotice
  split_ifs <;> rfl

theorem State.respond_frame (s : State) (src tag code : Byte) (body : List (Option Byte)) : s.respond src tag code body =
    { s with upQueue := (s.respond src tag code body).upQueue, draws := (s.respond src tag code body).draws } := by
  unfold State.respond
  simp only []
  split <;> rfl

theorem State.carryPoint_frame (old : Bank) (s : State) (p : Nat) : State.carryPoint old s p =
    { s with image := (State.carryPoint old s p).image, agenda := (State.carryPoint old s p).agenda } := by
  unfold State.carryPoint
  simp only []
  split <;> rfl

theorem foldl_carryPoint_frame (old : Bank) (l : List Nat) (s : State) : l.foldl (State.carryPoint old) s =
    { s with
      image := (l.foldl (State.carryPoint old) s).image
      agenda := (l.foldl (State.carryPoint old) s).agenda } := by
  have h := foldl_keeps (fun u : State => ({ u with image := [], agenda := [] } : State)) (State.carryPoint old)
    (fun u p => by rw [State.carryPoint_frame]) l s
  generalize l.foldl (State.carryPoint old) s = v at h ⊢
  have g := congrArg (fun u : State => ({ u with image := v.image, agenda := v.agenda } : State)) h
  exact g

theorem State.carryImage_frame (s : State) (old : Bank) : s.carryImage old =
    { s with image := (s.carryImage old).image, agenda := (s.carryImage old).agenda } := foldl_carryPoint_frame old _ s

theorem State.carrySection_frame (old : Bank) (s : State) (n : Nat) : State.carrySection old s n =
    { s with
      sects := (State.carrySection old s n).sects
      upQueue := (State.carrySection old s n).upQueue
      noticeLost := (State.carrySection old s n).noticeLost } := by
  unfold State.carrySection
  simp only []
  split
  · unfold State.noteOverdue
    rw [State.offerNotice_frame]
    rfl
  · rfl

theorem foldl_carrySection_frame (old : Bank) (l : List Nat) (s : State) : l.foldl (State.carrySection old) s =
    { s with
      sects := (l.foldl (State.carrySection old) s).sects
      upQueue := (l.foldl (State.carrySection old) s).upQueue
      noticeLost := (l.foldl (State.carrySection old) s).noticeLost } := by
  have h := foldl_keeps (fun u : State => ({ u with sects := [], upQueue := [], noticeLost := false } : State))
    (State.carrySection old) (fun u n => by rw [State.carrySection_frame]) l s
  generalize l.foldl (State.carrySection old) s = v at h ⊢
  have g := congrArg (fun u : State =>
    ({ u with sects := v.sects, upQueue := v.upQueue, noticeLost := v.noticeLost } : State)) h
  exact g

theorem State.carrySections_frame (s : State) (old : Bank) : s.carrySections old =
    { s with
      sects := (s.carrySections old).sects
      upQueue := (s.carrySections old).upQueue
      noticeLost := (s.carrySections old).noticeLost } := foldl_carrySection_frame old _ s

theorem State.decay_frame (s : State) : s.decay = { s with image := s.decay.image } := by
  have h := foldl_keeps (fun u : State => ({ u with image := [] } : State)) State.lowerTally (fun _ _ => rfl)
    (s.image.map Prod.fst) s
  have g := congrArg (fun u : State => ({ u with image := s.decay.image } : State)) h
  exact g

theorem State.runTally_frame (s : State) (b : BudgetRec) :
    s.runTally b = { s with image := (s.runTally b).image, tallyTimer := (s.runTally b).tallyTimer } := by
  unfold State.runTally
  split
  · split
    · rw [State.decay_frame]
    · rfl
  · rfl

theorem State.runPeriod_frame (s : State) (b : BudgetRec) : s.runPeriod b =
    { s with
      periodNumber := (s.runPeriod b).periodNumber
      remaining := (s.runPeriod b).remaining
      unusedReserve := (s.runPeriod b).unusedReserve
      periodTimer := (s.runPeriod b).periodTimer
      agenda := (s.runPeriod b).agenda } := by
  unfold State.runPeriod
  split
  · split <;> rfl
  · rfl

theorem State.carryTimers_frame (s : State) (b : BudgetRec) : s.carryTimers b =
    { s with
      periodNumber := (s.carryTimers b).periodNumber
      remaining := (s.carryTimers b).remaining
      unusedReserve := (s.carryTimers b).unusedReserve
      periodTimer := (s.carryTimers b).periodTimer
      tallyTimer := (s.carryTimers b).tallyTimer
      image := (s.carryTimers b).image
      agenda := (s.carryTimers b).agenda } := by
  rw [State.carryTimers_eq, State.carryPeriodTimer]
  have hp := State.runPeriod_frame (s.setPeriodTimer (s.periodTimer.map (Timer.withLength b.period))) b
  generalize State.runPeriod (s.setPeriodTimer (s.periodTimer.map (Timer.withLength b.period))) b = u at hp ⊢
  have ht := State.runTally_frame (u.setTallyTimer (u.tallyTimer.map (Timer.withLength b.tallyInterval))) b
  generalize State.runTally (u.setTallyTimer (u.tallyTimer.map (Timer.withLength b.tallyInterval))) b = v at ht ⊢
  rw [ht]
  unfold State.setTallyTimer
  rw [hp]
  rfl

theorem State.carryBudget_frame (s : State) (b : BudgetRec) : s.carryBudget b =
    { s with
      load := loadOver s.activeBank s.image
      periodNumber := (s.carryBudget b).periodNumber
      remaining := (s.carryBudget b).remaining
      unusedReserve := (s.carryBudget b).unusedReserve
      periodTimer := (s.carryBudget b).periodTimer
      tallyTimer := (s.carryBudget b).tallyTimer
      image := (s.carryBudget b).image
      agenda := (s.carryBudget b).agenda } := by
  unfold State.carryBudget
  simp only []
  rw [State.carryTimers_frame]
  split <;> rfl

theorem State.refreshPermitOut_frame (s : State) :
    s.refreshPermitOut = { s with permitOut := s.refreshPermitOut.permitOut } := by
  have h := foldl_keeps (fun u : State => ({ u with permitOut := [] } : State))
    (fun u k => u.setPermitOut k (u.permitOutWanted k)) (fun _ _ => rfl) (List.range 4) s
  unfold State.refreshPermitOut
  generalize (List.range 4).foldl (fun s k => s.setPermitOut k (s.permitOutWanted k)) s = v at h ⊢
  have g := congrArg (fun u : State => ({ u with permitOut := v.permitOut } : State)) h
  exact g

/-- The banks change roles, the mode is SCREENING and the notice joins: what every swap begins with (R170). -/
def State.swapStart (s : State) (k : SwapCheck) : State :=
  ((s.exchangeBanks.setSwapCheck none).respond k.src k.tag 0 []).offerNotice .bankSwapped none none (.partMode s.mode)

theorem State.swapStart_frame (s : State) (k : SwapCheck) : s.swapStart k =
    { s.exchangeBanks with
      swapCheck := none
      upQueue := (s.swapStart k).upQueue
      noticeLost := (s.swapStart k).noticeLost
      draws := (s.swapStart k).draws } := by
  unfold State.swapStart
  rw [State.offerNotice_frame, State.respond_frame]
  rfl

/-- What a swap in service has carried before its ends: image and sections, budget, orders. -/
def State.swapCarried (s : State) (k : SwapCheck) : State :=
  ((((s.swapStart k).carryImage s.activeBank).carrySections s.activeBank).countDraw.carryBudget
    (s.swapStart k).activeBank.budget.content).carryOrders

theorem State.makeSwap_transparent {s : State} (h : s.mode = .transparent) (k : SwapCheck) :
    s.makeSwap k = ((s.swapStart k).firstPeriod (s.swapStart k).activeBank.budget.content).swapEnds [] := if_pos h

theorem State.makeSwap_banked {s : State} (h : s.mode ≠ .transparent) (k : SwapCheck) :
    s.makeSwap k = (s.swapCarried k).swapEnds (s.swapCarried k).swapHaltTasks := if_neg h

end Sys2Proof.Machine
end

section

/-! PROOF. The laws that speak of the active bank: the rule that carries them through a step, and the budget law. -/

namespace Sys2Proof.Machine

/-! ### The active bank -/

theorem State.activeBank_setBank {s : State} (hs : s.Marked) (b : Bank) :
    (s.setBank s.standby b).activeBank = s.activeBank := by
  have hactive : (s.setBank s.standby b).active = s.active := by rw [State.setBank_frame]
  unfold State.activeBank
  rw [hactive]
  cases ha : s.active with
  | none => rfl
  | some i => rw [hs.standby i ha]; cases i <;> rfl

/-- A change other than a swap or the leaving of a bank keeps what stands in the active bank. -/
theorem Change.activeBank {L : Licence} {s t : State} (h : Change L s t) (hl : ¬ L.swaps) (hs : s.Marked) :
    t.activeBank = s.activeBank ∨ t = { s with
      mode := .transparent, active := none, standby := s.active.getD s.standby, fault := false } := by
  cases h with
  | quiet t h => rw [h]; exact .inl rfl
  | store b _ _ => exact .inl (State.activeBank_setBank hs b)
  | admission l o a row c _ _ _ => rw [State.admitOrder_frame]; exact .inl rfl
  | image p d _ _ _ => rw [State.loadMoved_frame]; exact .inl rfl
  | leave => exact .inr rfl
  | exchange h => exact absurd h hl
  | figures t h => exact absurd h hl
  | carry p d h => exact absurd h hl
  | orders h => exact absurd h hl
  | _ => exact .inl rfl

theorem State.activeBank_of_none {s : State} (h : s.active = none) : s.activeBank = Bank.empty := by
  unfold State.activeBank
  rw [h]

/-- A law that idling, a restart, the changes of a command and a swap keep, with the mode law, is kept by a step. -/
theorem step_keeps_banked (P : State → Prop) (hchange : ∀ L s t, ¬ L.swaps → Change L s t → s.Marked → P s → P t)
    (hswap : ∀ s k, s.swapFailure s.standbyBank = none → s.ModeLaw → P s → P (s.makeSwap k))
    (hidle : ∀ s t, s.Idles t → P s → P t) (hrestart : ∀ s t, s.Restarts t → P s → P t) {s t : State}
    (hm : s.ModeLaw) (hs : P s) (h : step s = .next t) : P t := by
  have hleads : ∀ L s t, ¬ L.swaps → Leads L s t → s.Marked → P s → P t := fun L s t hl g hm hs =>
    (Leads.keeps (P := fun u => u.Marked ∧ P u)
      (fun s t hc hs => ⟨hc.marked hs.1, hchange L s t hl hc hs.1 hs.2⟩) g ⟨hm, hs⟩).2
  have hsettled : ∀ s : State, s.Marked → P s → P s.settled := fun s hm hs =>
    hleads ⟨False, False, False, False, fun _ => False⟩ s _ id (Leads.settled s) hm hs
  unfold step at h
  split at h
  next c rest _ =>
    have hm := State.modeLaw_setPending hm rest
    have hs := hidle _ _ (s.idles_setPending rest) hs
    generalize ({ s with pending := rest } : State) = u at hm hs h
    by_cases hc : isResetCommand c
    · cases c with
      | resetAsserted k =>
        obtain rfl := Host.Outcome.next.inj h
        rw [State.assertReset_settled]
        exact hidle _ _ (u.idles_assertReset k) hs
      | resetReleased k x =>
        obtain rfl := Host.Outcome.next.inj h
        unfold State.releaseReset
        have hend : P (u.endCause k) := hidle _ _ (u.idles_endCause k) hs
        split
        next hr =>
          split
          next =>
            have hagenda : (u.endCause k).agenda = [] := by cases k <;> exact (hm.held hr).2.1
            rwa [State.settled_of_quiet _ hagenda]
          next =>
            have hrest := State.restarts_beginOperation (u.endCause k) x
            exact hsettled _ (State.modeLaw_restarts hrest).marked (hrestart _ _ hrest hend)
        next => exact hsettled _ hm.marked hs
      | _ => exact hc.elim
    · rcases Leads.exec_or_swap False False hc (fun h => h.elim) h with hl | ⟨k, ⟨rfl, _, _, hfailure⟩, hl⟩
      · exact hleads _ _ _ id hl hm.marked hs
      · have hmarked : (u.makeSwap k).Marked :=
          Leads.keeps (L := licenceOf False True .swapCheckEnd u) (fun _ _ hc hs => hc.marked hs)
            (Leads.makeSwap trivial (fun _ => Or.inl trivial) u k) hm.marked
        exact hleads _ _ _ id hl hmarked (hswap u k hfailure hm hs)
  next =>
    obtain rfl := Host.Outcome.next.inj h
    exact hidle _ _ s.ticks_idle.toIdles hs

/-! ### The new bank -/

theorem BankId.eq_other {i j : BankId} (h : j = i.other) : i = j.other := by
  rw [h, BankId.other_other]

/-- The bank a swap makes active is the standby bank. -/
theorem State.exchangeBanks_activeBank {s : State} (hs : s.ModeLaw) : s.exchangeBanks.activeBank = s.standbyBank := by
  unfold State.exchangeBanks State.activeBank State.standbyBank
  cases ha : s.active with
  | none => rfl
  | some i => rw [hs.standby i ha]; rfl

theorem State.swapStart_activeBank {s : State} (hs : s.ModeLaw) (k : SwapCheck) : (s.swapStart k).activeBank = s.standbyBank := by
  rw [← State.exchangeBanks_activeBank hs, State.swapStart_frame]
  rfl

theorem State.carryPoint_activeBank (old : Bank) (s : State) (p : Nat) :
    (State.carryPoint old s p).activeBank = s.activeBank := by
  rw [State.carryPoint_frame]
  rfl

theorem State.carrySection_activeBank (old : Bank) (s : State) (n : Nat) :
    (State.carrySection old s n).activeBank = s.activeBank := by
  rw [State.carrySection_frame]
  rfl

theorem State.carryImage_activeBank (s : State) (old : Bank) : (s.carryImage old).activeBank = s.activeBank :=
  foldl_keeps State.activeBank (State.carryPoint old) (State.carryPoint_activeBank old) _ s

theorem State.carrySections_activeBank (s : State) (old : Bank) : (s.carrySections old).activeBank = s.activeBank :=
  foldl_keeps State.activeBank (State.carrySection old) (State.carrySection_activeBank old) _ s

theorem State.carryBudget_activeBank (s : State) (b : BudgetRec) : (s.carryBudget b).activeBank = s.activeBank := by
  have h := State.carryBudget_frame s b
  generalize s.carryBudget b = v at h ⊢
  rw [h]
  rfl

theorem State.carryOrders_activeBank (s : State) : s.carryOrders.activeBank = s.activeBank := rfl

theorem State.countDraw_activeBank (s : State) : s.countDraw.activeBank = s.activeBank := rfl

/-- What a swap in service ends at keeps the banks of its beginning. -/
theorem State.swapCarried_activeBank {s : State} (hs : s.ModeLaw) (k : SwapCheck) :
    (s.swapCarried k).activeBank = s.standbyBank := by
  rw [← State.swapStart_activeBank hs k]
  unfold State.swapCarried
  rw [State.carryOrders_activeBank, State.carryBudget_activeBank, State.countDraw_activeBank, State.carrySections_activeBank,
    State.carryImage_activeBank]

theorem State.swapEnds_frame (s : State) (l : List Task) :
    s.swapEnds l = { s with permitOut := (s.swapEnds l).permitOut, agenda := (s.swapEnds l).agenda } := by
  unfold State.swapEnds
  rw [State.refreshPermitOut_frame]
  rfl

theorem failing_eq_none {c : Rejection} {t : TableId} {n : Nat} {fails : Nat → Bool} :
    failing c t n fails = none ↔ ∀ i < n, fails i = false := by
  simp [failing, firstIndex]

/-- A swap passes no item of its check with a failing entry (R169). -/
theorem State.swapFailure_eq_none {s : State} {b : Bank} (h : s.swapFailure b = none) :
    b.firstFault = none ∧ b.relationFailure = none ∧ b.fieldFailure = none ∧ s.phaseFailure b = none := by
  unfold State.swapFailure at h
  split at h
  · cases h
  next hfault =>
    obtain ⟨hstructure, hphase⟩ := Option.or_eq_none_iff.1 h
    obtain ⟨hrelation, hfield⟩ := Option.or_eq_none_iff.1 hstructure
    exact ⟨hfault, hrelation, hfield, hphase⟩

theorem State.reserve_le_allowance_of_swapFailure {s : State} {b : Bank} (h : s.swapFailure b = none) :
    b.budget.content.reserve ≤ b.budget.content.allowance := by
  have hfield := (State.swapFailure_eq_none h).2.2.1
  simp only [Bank.fieldFailure, List.findSome?_eq_none_iff, id] at hfield
  have hbudget := failing_eq_none.1 (hfield (failing .reserveAboveAllowance .budget 1
    (fun _ => decide (b.budget.content.allowance < b.budget.content.reserve))) (by simp)) 0 Nat.one_pos
  simpa using hbudget

/-! ### The budget law -/

/-- V within R within the allowance of a record. -/
def State.within (s : State) (b : BudgetRec) : Prop :=
  s.unusedReserve ≤ s.remaining ∧ s.remaining ≤ b.allowance

theorem State.budgetLaw_iff (s : State) : s.BudgetLaw ↔ s.within s.activeBank.budget.content ∧
    s.activeBank.budget.content.reserve ≤ s.activeBank.budget.content.allowance :=
  ⟨fun h => ⟨⟨h.reserve, h.allowance⟩, h.record⟩, fun h => ⟨h.1.1, h.1.2, h.2⟩⟩

theorem State.BudgetLaw.of_figures {s t : State} (h : s.BudgetLaw) (hb : t.activeBank = s.activeBank)
    (hr : t.remaining = s.remaining) (hv : t.unusedReserve = s.unusedReserve) : t.BudgetLaw :=
  ⟨by rw [hr, hv]; exact h.reserve, by rw [hr, hb]; exact h.allowance, by rw [hb]; exact h.record⟩

/-- A charge within the class's allowance keeps V at most R (R109). -/
theorem State.charge_within {s : State} {c : Option BudgetClass} {k : Nat} {b : BudgetRec} (h : s.within b)
    (hc : ∀ j, c = some j → s.budgetPasses j k = true) : (s.charge c k).within b := by
  obtain ⟨hv, hr⟩ := h
  rcases c with _ | _ | _
  · exact ⟨hv, hr⟩
  · exact ⟨Nat.sub_le_sub_right hv k, (Nat.sub_le _ _).trans hr⟩
  · have hpass := hc .general rfl
    simp only [State.budgetPasses, decide_eq_true_eq] at hpass
    refine ⟨?_, (Nat.sub_le _ _).trans hr⟩
    show s.unusedReserve ≤ s.remaining - k
    omega

theorem State.readBudget_content {s : State} {b : BudgetRec} (h : s.readBudget = some b) :
    s.activeBank.budget.content = b := by
  unfold State.readBudget Stored.checked at h
  split at h
  · exact Option.some.inj h
  · cases h

theorem Change.budgetLaw {L : Licence} {s t : State} (h : Change L s t) (hl : ¬ L.swaps) (hm : s.Marked) (hs : s.BudgetLaw) :
    t.BudgetLaw := by
  have hbank := h.activeBank hl hm
  cases h with
  | quiet t h => rw [h]; exact hs.of_figures rfl rfl rfl
  | store b _ _ =>
    refine hs.of_figures (State.activeBank_setBank hm b) ?_ ?_
    · rw [State.setBank_frame]
    · rw [State.setBank_frame]
  | period b hb =>
    have hb := State.readBudget_content hb
    have hrecord := hs.record
    rw [hb] at hrecord
    rw [State.budgetLaw_iff]
    exact ⟨⟨hrecord, (congrArg BudgetRec.allowance hb).ge⟩, hs.record⟩
  | admission l o a row c _ _ ha =>
    have hwithin : ((s.setHeld l).charge c a.static.startCost).within s.activeBank.budget.content :=
      State.charge_within (s := s.setHeld l) ⟨hs.reserve, hs.allowance⟩ ha.budget
    have hfigures : ((s.setHeld l).admitOrder o a row c).remaining = ((s.setHeld l).charge c a.static.startCost).remaining ∧
        ((s.setHeld l).admitOrder o a row c).unusedReserve =
          ((s.setHeld l).charge c a.static.startCost).unusedReserve := by
      unfold State.admitOrder State.admitPoint
      simp only []
      split <;> exact ⟨rfl, rfl⟩
    have hactive : ((s.setHeld l).admitOrder o a row c).activeBank = s.activeBank := by rw [State.admitOrder_frame]; rfl
    exact ⟨by rw [hfigures.1, hfigures.2]; exact hwithin.1, by rw [hfigures.1, hactive]; exact hwithin.2,
      by rw [hactive]; exact hs.record⟩
  | image p d _ _ _ => rw [State.loadMoved_frame]; exact hs.of_figures rfl rfl rfl
  | zero => exact ⟨le_refl _, Nat.zero_le _, hs.record⟩
  | leave _ _ _ _ _ hr hv _ =>
    exact ⟨hv ▸ Nat.zero_le _, hr.le.trans (Nat.zero_le _), Nat.zero_le _⟩
  | exchange h => exact absurd h hl
  | figures t h => exact absurd h hl
  | carry p d h => exact absurd h hl
  | orders h => exact absurd h hl
  | _ => exact hs.of_figures rfl rfl rfl

theorem State.runTally_within {s : State} {b r : BudgetRec} (h : s.within r) : (s.runTally b).within r := by
  rw [State.runTally_frame]
  exact h

theorem State.runPeriod_within {s : State} {b : BudgetRec} (hb : b.reserve ≤ b.allowance) (h : s.within b) :
    (s.runPeriod b).within b := by
  unfold State.runPeriod
  split
  · split
    · exact ⟨hb, le_refl _⟩
    · exact h
  · exact h

theorem State.carryBudget_within (s : State) {b : BudgetRec} (hb : b.reserve ≤ b.allowance) : (s.carryBudget b).within b := by
  have hmin : min s.unusedReserve (min b.reserve (min s.remaining b.allowance)) ≤ min s.remaining b.allowance :=
    (min_le_right _ _).trans (min_le_right _ _)
  have htimers : ∀ u : State, u.within b → (u.carryTimers b).within b := fun u hu =>
    State.runTally_within (State.runPeriod_within (s := u.setPeriodTimer _) hb hu)
  unfold State.carryBudget
  simp only []
  split
  · exact htimers _ ⟨hmin, min_le_right _ _⟩
  · exact htimers _ ⟨hmin, min_le_right _ _⟩

theorem State.carryOrders_within {s : State} {b : BudgetRec} (h : s.within b) : s.carryOrders.within b := h

theorem State.swapCarried_within {s : State} (hm : s.ModeLaw) (k : SwapCheck)
    (h : s.standbyBank.budget.content.reserve ≤ s.standbyBank.budget.content.allowance) :
    (s.swapCarried k).within s.standbyBank.budget.content := by
  unfold State.swapCarried
  rw [State.swapStart_activeBank hm]
  exact State.carryOrders_within (State.carryBudget_within _ h)

theorem State.budgetLaw_makeSwap {s : State} (hm : s.ModeLaw) (h : s.swapFailure s.standbyBank = none) (k : SwapCheck) :
    (s.makeSwap k).BudgetLaw := by
  have hrecord := State.reserve_le_allowance_of_swapFailure h
  have hends : ∀ (u : State) (l : List Task), u.activeBank = s.standbyBank → u.within s.standbyBank.budget.content →
      (u.swapEnds l).BudgetLaw := by
    intro u l hb hu
    have hlaw : u.BudgetLaw := by
      rw [State.budgetLaw_iff, hb]
      exact ⟨hu, hrecord⟩
    rw [State.swapEnds_frame]
    exact hlaw.of_figures rfl rfl rfl
  by_cases hmode : s.mode = .transparent
  · rw [State.makeSwap_transparent hmode]
    refine hends _ _ (State.swapStart_activeBank hm k) ?_
    rw [State.swapStart_activeBank hm]
    exact ⟨hrecord, le_refl _⟩
  · rw [State.makeSwap_banked hmode]
    refine hends _ _ (State.swapCarried_activeBank hm k) ?_
    exact State.swapCarried_within hm k hrecord

theorem step_budgetLaw {s t : State} (hm : s.ModeLaw) (hs : s.BudgetLaw) (h : step s = .next t) : t.BudgetLaw :=
  step_keeps_banked State.BudgetLaw (fun _ _ _ hl hc hm hs => hc.budgetLaw hl hm hs)
    (fun _ k hf hm _ => State.budgetLaw_makeSwap hm hf k)
    (fun s t hi hs => by rw [hi.frame]; exact hs.of_figures rfl rfl rfl)
    (fun s t hr _ => by
      rw [hr.frame]
      exact ⟨le_refl _, Nat.zero_le _, Nat.zero_le _⟩) hm hs h

/-- Settles O56: the mode law by the changes of the markers, the budget law with it by those of the figures and the swap check's
items on the budget record. -/
theorem everyStepKeepsTheModeAndBudgetLaws : Obligations.EveryStepKeepsTheModeAndBudgetLaws :=
  ⟨fun _ _ hs h => step_modeLaw hs h, fun _ _ hm hs h => step_budgetLaw hm hs h⟩

end Sys2Proof.Machine
end

section

/-! PROOF. The load account: what a write of the image does to its sum, and that every step keeps it. -/

namespace Sys2Proof.Machine

/-! ### The sum over the image -/

/-- What one point adds to the load account (R111). -/
def loadOf (b : Bank) (p : Nat) (d : PointDyn) : Nat :=
  if (b.pointStatic p).content.cls == .drive && d.isOn then (b.pointStatic p).content.ratedLoad else 0

theorem loadOver_cons (b : Bank) (e : Nat × PointDyn) (m : Store PointDyn) :
    loadOver b (e :: m) = loadOf b e.1 e.2 + loadOver b m := by
  simp [loadOver, loadOf]

theorem loadOf_clear (b : Bank) (p : Nat) : loadOf b p PointDyn.clear = 0 := by simp [loadOf, PointDyn.clear, PointDyn.isOn]

theorem loadOf_congr (b : Bank) (p : Nat) {d d' : PointDyn} (h : d'.report = d.report) : loadOf b p d' = loadOf b p d := by
  unfold loadOf PointDyn.isOn
  rw [h]

theorem Store.find_eq_none_of_lt {α : Type} {m : Store α} {k : Nat} (h : ∀ e ∈ m, k < e.1) : Store.find m k = none := by
  induction m with
  | nil => rfl
  | cons e rest ih =>
    have hne : e.1 ≠ k := (h e List.mem_cons_self).ne'
    rw [Store.find, if_neg hne]
    exact ih fun x hx => h x (List.mem_cons_of_mem e hx)

theorem loadOver_put (b : Bank) {m : Store PointDyn} (h : m.Pairwise (fun x y => x.1 < y.1)) (p : Nat) (d : PointDyn) :
    loadOver b (Store.put m p d) + loadOf b p (Store.read PointDyn.clear m p) = loadOver b m + loadOf b p d := by
  induction m with
  | nil =>
    have hread : Store.read PointDyn.clear ([] : Store PointDyn) p = PointDyn.clear := rfl
    rw [hread, loadOf_clear, Store.put, loadOver_cons]
    simp only
    omega
  | cons e rest ih =>
    obtain ⟨j, w⟩ := e
    obtain ⟨hj, hrest⟩ := List.pairwise_cons.1 h
    unfold Store.put
    split
    next hlt =>
      have hread : Store.read PointDyn.clear ((j, w) :: rest) p = PointDyn.clear := by
        rw [Store.read, Store.find_eq_none_of_lt]
        · rfl
        · intro x hx
          rcases List.mem_cons.1 hx with rfl | hx
          · exact hlt
          · exact lt_trans hlt (hj x hx)
      rw [hread, loadOf_clear, loadOver_cons]
      simp only
      omega
    next =>
      split
      next heq =>
        subst heq
        have hread : Store.read PointDyn.clear ((p, w) :: rest) p = w := by simp [Store.read, Store.find]
        rw [hread, loadOver_cons, loadOver_cons]
        simp only
        omega
      next hne =>
        have hread : Store.read PointDyn.clear ((j, w) :: rest) p = Store.read PointDyn.clear rest p := by
          simp [Store.read, Store.find, Ne.symm hne]
        have := ih hrest
        rw [hread, loadOver_cons, loadOver_cons]
        omega

theorem loadOver_unlist (b : Bank) {m : Store PointDyn} (h : m.Pairwise (fun x y => x.1 < y.1)) (p : Nat) :
    loadOver b (Store.unlist m p) + loadOf b p (Store.read PointDyn.clear m p) = loadOver b m := by
  induction m with
  | nil =>
    show 0 + loadOf b p PointDyn.clear = 0
    rw [loadOf_clear]
  | cons e rest ih =>
    obtain ⟨j, w⟩ := e
    obtain ⟨hj, hrest⟩ := List.pairwise_cons.1 h
    by_cases heq : j = p
    · subst heq
      have hread : Store.read PointDyn.clear ((j, w) :: rest) j = w := by simp [Store.read, Store.find]
      have hfilter : Store.unlist ((j, w) :: rest) j = rest := by
        unfold Store.unlist
        rw [List.filter_cons_of_neg (by simp)]
        exact List.filter_eq_self.2 fun x hx => by simpa using (hj x hx).ne'
      rw [hread, hfilter, loadOver_cons]
      simp only
      omega
    · have hread : Store.read PointDyn.clear ((j, w) :: rest) p = Store.read PointDyn.clear rest p := by
        simp [Store.read, Store.find, heq]
      have hfilter : Store.unlist ((j, w) :: rest) p = (j, w) :: Store.unlist rest p := by
        unfold Store.unlist
        rw [List.filter_cons_of_pos (by simpa using heq)]
      have := ih hrest
      rw [hread, hfilter, loadOver_cons, loadOver_cons]
      omega

/-- A write of one point moves the sum by what the point adds. -/
theorem loadOver_write (b : Bank) {m : Store PointDyn} (h : Store.wf PointDyn.clear m = true) (p : Nat) (d : PointDyn) :
    loadOver b (Store.write PointDyn.clear m p d) + loadOf b p (Store.read PointDyn.clear m p) =
      loadOver b m + loadOf b p d := by
  simp only [Store.wf, Bool.and_eq_true, decide_eq_true_eq] at h
  unfold Store.write
  split
  next hclear => rw [hclear, loadOf_clear, loadOver_unlist b h.1]; rfl
  next => exact loadOver_put b h.1 p d

/-- A write that keeps the report keeps the sum. -/
theorem State.loadOver_setPoint {s : State} (h : Store.wf PointDyn.clear s.image = true) (b : Bank) (p : Nat) {d : PointDyn}
    (hd : d.report = (s.point p).report) : loadOver b (s.setPoint p d).image = loadOver b s.image := by
  have hwrite := loadOver_write b h p d
  have hsame : loadOf b p d = loadOf b p (Store.read PointDyn.clear s.image p) := loadOf_congr b p hd
  show loadOver b (Store.write PointDyn.clear s.image p d) = _
  omega

/-! ### The load law -/

theorem State.active_of_known {s : State} {o : PointTel} {a : Addressed} (h : s.judgeDestination o = .known a) :
    s.active ≠ none := by
  intro hnone
  have hempty : s.covering o.dest o.point = .absent := by
    unfold State.covering coveringIn
    rw [State.activeBank_of_none hnone]
    have hfind : ∀ l : List Nat, findWindow Bank.empty (fun w => w.covers o.dest.toNat o.point.toNat) l = .absent := by
      intro l
      induction l with
      | nil => rfl
      | cons i l ih => exact ih
    exact hfind _
  unfold State.judgeDestination at h
  rw [hempty] at h
  split at h <;> cases h

theorem Store.write_clear_nil {α : Type} [DecidableEq α] (d : α) (k : Nat) : Store.write d ([] : Store α) k d = [] := by
  simp [Store.write, Store.unlist]

/-- The load account and the image agree, under a bank. -/
structure State.LoadedBy (s : State) (b : Bank) : Prop where
  wf : Store.wf PointDyn.clear s.image = true
  account : s.load = loadOver b s.image

theorem State.LoadedBy.setPoint {s : State} {b : Bank} (h : s.LoadedBy b) (p : Nat) {d : PointDyn}
    (hd : d.report = (s.point p).report) : (s.setPoint p d).LoadedBy b :=
  ⟨Store.wf_write _ _ _ _ h.wf, h.account.trans (State.loadOver_setPoint h.wf b p hd).symm⟩

/-- The load account follows a point that goes from its dynamic part to `d`. -/
theorem State.LoadedBy.loadMoved {s : State} (h : s.LoadedBy s.activeBank) (p : Nat) (d : PointDyn) :
    ((s.setPoint p d).loadMoved p (s.point p) d).load = loadOver s.activeBank (s.setPoint p d).image := by
  have hwrite := loadOver_write s.activeBank h.wf p d
  have haccount := h.account
  have himage : (s.setPoint p d).image = Store.write PointDyn.clear s.image p d := rfl
  have hcounts : ∀ x : PointDyn, loadOf s.activeBank p x =
      if s.countsInLoad p x then (s.activeBank.pointStatic p).content.ratedLoad else 0 := fun _ => rfl
  have hold := hcounts (s.point p)
  have hnew := hcounts d
  unfold State.point at hold
  rw [himage]
  unfold State.loadMoved
  split
  next heq =>
    have heq : s.countsInLoad p (s.point p) = s.countsInLoad p d := heq
    unfold State.point at heq
    rw [heq] at hold
    show s.load = _
    omega
  next hne =>
    have hne : ¬ s.countsInLoad p (s.point p) = s.countsInLoad p d := hne
    unfold State.point at hne
    split
    next hon =>
      have hon : s.countsInLoad p d = true := hon
      rw [hon] at hne
      rw [if_neg hne] at hold
      rw [if_pos hon] at hnew
      show s.load + (s.activeBank.pointStatic p).content.ratedLoad = _
      omega
    next hoff =>
      have hoff : ¬ s.countsInLoad p d = true := hoff
      have hon : s.countsInLoad p (Store.read PointDyn.clear s.image p) = true := by
        simp only [Bool.not_eq_true] at hoff
        rw [hoff] at hne
        simpa using hne
      rw [if_pos hon] at hold
      rw [if_neg hoff] at hnew
      show s.load - (s.activeBank.pointStatic p).content.ratedLoad = _
      omega

theorem State.LoadLaw.of_same {s t : State} (h : s.LoadLaw) (hb : t.activeBank = s.activeBank) (hl : t.load = s.load)
    (hi : t.image = s.image) (hm : t.mode = .transparent → s.mode = .transparent) : t.LoadLaw :=
  ⟨by rw [hl, hb, hi]; exact h.account, fun ht => hi.trans (h.clear (hm ht))⟩

theorem Change.loadLaw {L : Licence} {s t : State} (h : Change L s t) (hl : ¬ L.swaps) (hm : s.Marked) (hst : s.StoreLaw)
    (hs : s.LoadLaw) : t.LoadLaw := by
  have hloaded : s.LoadedBy s.activeBank := ⟨hst.image, hs.account⟩
  cases h with
  | quiet t h => rw [h]; exact hs.of_same rfl rfl rfl id
  | store b _ _ =>
    have hbank := State.activeBank_setBank hm b
    rw [State.setBank_frame] at hbank ⊢
    exact hs.of_same hbank rfl rfl id
  | fault => exact ⟨hs.account, by simp⟩
  | admission l o a row c _ hd _ =>
    have hmode : s.mode ≠ .transparent := fun ht => State.active_of_known hd (hm.transparent.1 ht)
    have hcharge : ∀ u : State, u.image = s.image → ∀ v, loadOver s.activeBank (u.admitPoint a v).image =
        loadOver s.activeBank s.image := by
      intro u hu v
      have hwf : Store.wf PointDyn.clear u.image = true := hu ▸ hst.image
      unfold State.admitPoint
      split
      · refine (State.loadOver_setPoint hwf _ _ ?_).trans (by rw [hu])
        rfl
      · refine (State.loadOver_setPoint hwf _ _ ?_).trans (by rw [hu])
        rfl
      · rw [hu]
    have himage := hcharge ((s.setHeld l).charge c a.static.startCost) (by rcases c with _ | _ | _ <;> rfl)
      ((s.setHeld l).shape a row o.value)
    have hframe := State.admitOrder_frame (s.setHeld l) o a row c
    have hsame : ((s.setHeld l).admitOrder o a row c).image = (((s.setHeld l).charge c a.static.startCost).admitPoint a
        ((s.setHeld l).shape a row o.value)).image := rfl
    rw [← hsame] at himage
    generalize (s.setHeld l).admitOrder o a row c = t at himage hframe ⊢
    refine ⟨?_, fun ht => absurd ?_ hmode⟩
    · have hbank : t.activeBank = s.activeBank := by rw [hframe]; rfl
      have hload : t.load = s.load := by rw [hframe]; rfl
      rw [hbank, hload, himage]
      exact hs.account
    · rw [hframe] at ht
      exact ht
  | touch p d hr hf ht hc =>
    refine ⟨(hloaded.setPoint p hr).account, fun htr => ?_⟩
    have himage : s.image = [] := hs.clear htr
    have hpoint : s.point p = PointDyn.clear := by
      unfold State.point
      rw [himage]
      rfl
    show Store.write PointDyn.clear s.image p d = []
    rw [hc (hm.transparent.1 htr) hpoint, himage]
    exact Store.write_clear_nil _ _
  | image p d hu hf ht =>
    have hmode : s.mode ≠ .transparent := hu.elim id fun hactive htr => hactive (hm.transparent.1 htr)
    have hload := hloaded.loadMoved p d
    rw [State.loadMoved_frame] at hload ⊢
    exact ⟨hload, fun htr => absurd htr hmode⟩
  | zero => exact ⟨rfl, fun _ => rfl⟩
  | leave _ _ _ _ hi _ _ hload =>
    refine ⟨?_, fun _ => hi⟩
    show s.load = loadOver _ s.image
    rw [hload, hi]
    rfl
  | exchange h => exact absurd h hl
  | figures t h => exact absurd h hl
  | carry p d h => exact absurd h hl
  | orders h => exact absurd h hl
  | _ => exact hs.of_same rfl rfl rfl id

theorem State.LoadedBy.decay {s : State} {b : Bank} (h : s.LoadedBy b) : s.decay.LoadedBy b :=
  List.foldlRecOn (motive := fun u : State => u.LoadedBy b) _ _ h fun _ hu p _ => hu.setPoint p rfl

theorem State.LoadedBy.runPeriod {s : State} {b : Bank} (h : s.LoadedBy b) (r : BudgetRec) : (s.runPeriod r).LoadedBy b := by
  rw [State.runPeriod_frame]
  exact ⟨h.wf, h.account⟩

theorem State.LoadedBy.runTally {s : State} {b : Bank} (h : s.LoadedBy b) (r : BudgetRec) : (s.runTally r).LoadedBy b := by
  unfold State.runTally
  split
  · split
    · exact ⟨h.decay.wf, h.decay.account⟩
    · exact h
  · exact h

theorem State.LoadedBy.setPeriodTimer {s : State} {b : Bank} (h : s.LoadedBy b) (o : Option Timer) :
    (s.setPeriodTimer o).LoadedBy b := ⟨h.wf, h.account⟩

theorem State.LoadedBy.setTallyTimer {s : State} {b : Bank} (h : s.LoadedBy b) (o : Option Timer) :
    (s.setTallyTimer o).LoadedBy b := ⟨h.wf, h.account⟩

theorem State.LoadedBy.carryTimers {s : State} {b : Bank} (h : s.LoadedBy b) (r : BudgetRec) : (s.carryTimers r).LoadedBy b := by
  rw [State.carryTimers_eq]
  have hperiod : (s.carryPeriodTimer r).LoadedBy b := (h.setPeriodTimer _).runPeriod r
  exact (hperiod.setTallyTimer _).runTally r

theorem State.loadedBy_carryBudget {s : State} (h : Store.wf PointDyn.clear s.image = true) (r : BudgetRec) :
    (s.carryBudget r).LoadedBy s.activeBank := by
  unfold State.carryBudget
  simp only []
  split
  · refine State.LoadedBy.carryTimers ?_ r
    exact ⟨h, rfl⟩
  · refine State.LoadedBy.carryTimers ?_ r
    exact ⟨h, rfl⟩

theorem State.loadedBy_carryBudget_countDraw {s : State} (h : Store.wf PointDyn.clear s.image = true) (r : BudgetRec) :
    (s.countDraw.carryBudget r).LoadedBy s.activeBank := State.loadedBy_carryBudget (s := s.countDraw) h r

theorem State.carryImage_wf {s : State} (h : Store.wf PointDyn.clear s.image = true) (old : Bank) :
    Store.wf PointDyn.clear (s.carryImage old).image = true := by
  have hfold : ∀ l : List Nat, Store.wf PointDyn.clear (l.foldl (State.carryPoint old) s).image = true := fun l =>
    List.foldlRecOn (motive := fun u : State => Store.wf PointDyn.clear u.image = true) l _ h fun u hu p _ => by
      have hset : ∀ d, Store.wf PointDyn.clear (u.setPoint p d).image = true := fun d => Store.wf_write _ _ _ _ hu
      unfold State.carryPoint
      simp only []
      split
      · exact hset _
      · exact hset _
  exact hfold _

theorem State.carrySections_image (s : State) (old : Bank) : (s.carrySections old).image = s.image :=
  foldl_keeps State.image (State.carrySection old) (fun u n => by rw [State.carrySection_frame]) _ s

theorem State.LoadedBy.carryOrders {s : State} {b : Bank} (h : s.LoadedBy b) : s.carryOrders.LoadedBy b := ⟨h.wf, h.account⟩

theorem State.swapStart_image (s : State) (k : SwapCheck) : (s.swapStart k).image = s.image := by
  rw [State.swapStart_frame]
  rfl

theorem State.swapStart_load (s : State) (k : SwapCheck) : (s.swapStart k).load = s.load := by
  rw [State.swapStart_frame]
  rfl

theorem State.swapCarried_loadedBy {s : State} (hm : s.ModeLaw) (h : Store.wf PointDyn.clear s.image = true) (k : SwapCheck) :
    (s.swapCarried k).LoadedBy s.standbyBank := by
  have hstart : Store.wf PointDyn.clear (s.swapStart k).image = true := by rw [State.swapStart_image]; exact h
  have hwf := State.carryImage_wf hstart s.activeBank
  rw [← State.carrySections_image _ s.activeBank] at hwf
  have hbudget := State.loadedBy_carryBudget_countDraw hwf (s.swapStart k).activeBank.budget.content
  rw [State.carrySections_activeBank, State.carryImage_activeBank,
    State.swapStart_activeBank hm] at hbudget
  unfold State.swapCarried
  rw [State.swapStart_activeBank hm]
  exact hbudget.carryOrders

/-- The part is SCREENING after a swap. -/
theorem State.swapStart_mode (s : State) (k : SwapCheck) : (s.swapStart k).mode = .screening := by
  rw [State.swapStart_frame]
  rfl

theorem State.swapCarried_mode (s : State) (k : SwapCheck) : (s.swapCarried k).mode = .screening := by
  have himage : ∀ u : State, ∀ old, (u.carryImage old).mode = u.mode := fun u old =>
    foldl_keeps State.mode (State.carryPoint old) (fun u p => by rw [State.carryPoint_frame]) _ u
  have hsections : ∀ u : State, ∀ old, (u.carrySections old).mode = u.mode := fun u old =>
    foldl_keeps State.mode (State.carrySection old) (fun u p => by rw [State.carrySection_frame]) _ u
  have hbudget : ∀ u : State, ∀ r, (u.carryBudget r).mode = u.mode := fun u r => by rw [State.carryBudget_frame]
  have horders : ∀ u : State, u.carryOrders.mode = u.mode := fun _ => rfl
  have hcount : ∀ u : State, u.countDraw.mode = u.mode := fun _ => rfl
  unfold State.swapCarried
  rw [horders, hbudget, hcount, hsections, himage, State.swapStart_mode]

theorem State.loadLaw_makeSwap {s : State} (hm : s.ModeLaw) (hst : s.StoreLaw) (hs : s.LoadLaw) (k : SwapCheck) :
    (s.makeSwap k).LoadLaw := by
  have hends : ∀ (u : State) (l : List Task), u.activeBank = s.standbyBank → u.mode = .screening →
      u.load = loadOver s.standbyBank u.image → (u.swapEnds l).LoadLaw := by
    intro u l hb hmode hload
    rw [State.swapEnds_frame]
    exact ⟨by rw [← hb] at hload; exact hload, fun ht => by rw [hmode] at ht; cases ht⟩
  by_cases hmode : s.mode = .transparent
  · have himage : s.image = [] := hs.clear hmode
    have hzero : s.load = 0 := by rw [hs.account, himage]; rfl
    rw [State.makeSwap_transparent hmode]
    refine hends _ _ (State.swapStart_activeBank hm k) (State.swapStart_mode s k) ?_
    show (s.swapStart k).load = loadOver _ (s.swapStart k).image
    rw [State.swapStart_load, State.swapStart_image, hzero, himage]
    rfl
  · rw [State.makeSwap_banked hmode]
    exact hends _ _ (State.swapCarried_activeBank hm k) (State.swapCarried_mode s k)
      (State.swapCarried_loadedBy hm hst.image k).account

theorem State.storeLaw_makeSwap {s : State} (hs : s.StoreLaw) (k : SwapCheck) : (s.makeSwap k).StoreLaw :=
  Leads.keeps (L := licenceOf False True .swapCheckEnd s) (fun _ _ hc hs => hc.storeLaw hs)
    (Leads.makeSwap trivial (fun _ => Or.inl trivial) s k) hs

theorem step_loadLaw {s t : State} (hm : s.ModeLaw) (hst : s.StoreLaw) (hs : s.LoadLaw) (h : step s = .next t) : t.LoadLaw :=
  (step_keeps_banked (fun u => u.StoreLaw ∧ u.LoadLaw)
    (fun _ _ _ hl hc hm hs => ⟨hc.storeLaw hs.1, hc.loadLaw hl hm hs.1 hs.2⟩)
    (fun _ k _ hm hs => ⟨State.storeLaw_makeSwap hs.1 k, State.loadLaw_makeSwap hm hs.1 hs.2 k⟩)
    (fun s t hi hs => ⟨.of_idles hi hs.1, by rw [hi.frame]; exact hs.2.of_same rfl rfl rfl id⟩)
    (fun s t hr hs => ⟨.of_restarts hr hs.1, by rw [hr.frame]; exact ⟨rfl, fun _ => rfl⟩⟩) hm ⟨hst, hs⟩ h).2

/-- Settles O58: the load account by the sum over the image, the pledge sum and the order of creation by the entries, the queue by
what joins it, the tables and lanes by their counts. -/
theorem everyStepKeepsTheLoadPledgeAndQueueLaws : Obligations.EveryStepKeepsTheLoadPledgeAndQueueLaws :=
  ⟨fun _ _ hm hst hs h => step_loadLaw hm hst hs h, fun _ _ hs h => step_pledgeLaw hs h,
    fun _ _ hp hs h => step_queueLaw hp hs h, fun _ _ hs h => step_tableLaw hs h⟩

end Sys2Proof.Machine
end

section

/-! PROOF. What no command breaks: the queue of commands, the banks, the clock and the mode, and the sections in HALTED. -/

namespace Sys2Proof.Machine

/-! ### The queue of waiting commands -/

theorem Change.pending {L : Licence} {s t : State} (h : Change L s t) : t.pending = s.pending := by
  cases h with
  | quiet t h => rw [h]
  | store b _ _ => rw [State.setBank_frame]
  | admission l o a row c _ _ _ => rw [State.admitOrder_frame]; rfl
  | image p d _ _ _ => rw [State.loadMoved_frame]; rfl
  | figures t _ h => rw [h]
  | _ => rfl

theorem Leads.pending {L : Licence} {s t : State} (h : Leads L s t) : t.pending = s.pending :=
  Leads.keeps (P := fun u => u.pending = s.pending) (fun _ _ hc hs => hc.pending.trans hs) h rfl

theorem exec_answers (c : Instr) (s : State) : ∃ t, exec c s = .next t := by
  cases c <;> exact ⟨_, rfl⟩

theorem State.assertReset_pending (s : State) (c : ResetCause) : (s.assertReset c).pending = s.pending := by
  rw [State.assertReset_eq, State.holdReset_frame]
  cases c <;> rfl

theorem State.endCause_pending (s : State) (c : ResetCause) : (s.endCause c).pending = s.pending := by cases c <;> rfl

theorem State.releaseReset_pending (s : State) (c : ResetCause) (x : BitVec 3) : (s.releaseReset c x).pending = s.pending := by
  unfold State.releaseReset
  split
  · split
    · exact s.endCause_pending c
    · have h := State.restarts_beginOperation (s.endCause c) x
      rw [h.frame]
      exact s.endCause_pending c
  · rfl

/-- Settles O2: the changes of a command leave the queue, and so do the reset's. -/
theorem everyCommandAnswersAndKeepsTheQueue : Obligations.EveryCommandAnswersAndKeepsTheQueue := by
  intro c s
  obtain ⟨t, ht⟩ := exec_answers c s
  refine ⟨t, ht, ?_⟩
  by_cases hc : isResetCommand c
  · cases c with
    | resetAsserted k =>
      obtain rfl := Host.Outcome.next.inj ht
      rw [State.assertReset_settled, State.assertReset_pending]
    | resetReleased k x =>
      obtain rfl := Host.Outcome.next.inj ht
      exact (Leads.settled (L := ⟨False, False, False, False, fun _ => False⟩) _).pending.trans (s.releaseReset_pending k x)
    | _ => exact hc.elim
  · exact (Leads.exec False hc (fun h => h.elim) ht).pending

/-! ### Banks, clock and mode -/

/-- Without a licence to store a change leaves the banks. -/
theorem Change.banks {L : Licence} {s t : State} (h : Change L s t) (hl : ¬ L.stores) : t.bankA = s.bankA ∧ t.bankB = s.bankB := by
  cases h with
  | quiet t h => rw [h]; exact ⟨rfl, rfl⟩
  | store b hstore _ => exact absurd hstore hl
  | admission l o a row c _ _ _ => rw [State.admitOrder_frame]; exact ⟨rfl, rfl⟩
  | image p d _ _ _ => rw [State.loadMoved_frame]; exact ⟨rfl, rfl⟩
  | figures t _ h => rw [h]; exact ⟨rfl, rfl⟩
  | _ => exact ⟨rfl, rfl⟩

theorem Change.clock {L : Licence} {s t : State} (h : Change L s t) : t.clock = s.clock := by
  cases h with
  | quiet t h => rw [h]
  | store b _ _ => rw [State.setBank_frame]
  | admission l o a row c _ _ _ => rw [State.admitOrder_frame]; rfl
  | image p d _ _ _ => rw [State.loadMoved_frame]; rfl
  | figures t _ h => rw [h]
  | _ => rfl

/-- Without a licence to swap or to leave a bank a change leaves the markers. -/
theorem Change.markers {L : Licence} {s t : State} (h : Change L s t) (hs : ¬ L.swaps) (hc : ¬ L.clears) :
    t.active = s.active ∧ t.standby = s.standby := by
  cases h with
  | quiet t h => rw [h]; exact ⟨rfl, rfl⟩
  | store b _ _ => rw [State.setBank_frame]; exact ⟨rfl, rfl⟩
  | admission l o a row c _ _ _ => rw [State.admitOrder_frame]; exact ⟨rfl, rfl⟩
  | image p d _ _ _ => rw [State.loadMoved_frame]; exact ⟨rfl, rfl⟩
  | leave h => exact absurd h hc
  | exchange h => exact absurd h hs
  | figures t h => exact absurd h hs
  | _ => exact ⟨rfl, rfl⟩

/-- Without such a licence the part mode changes from SCREENING to FAIL_HOLD alone. -/
theorem Change.mode {L : Licence} {s t : State} (h : Change L s t) (hs : ¬ L.swaps) (hc : ¬ L.clears) :
    t.mode = s.mode ∨ (s.mode = .screening ∧ t.mode = .failHold) := by
  cases h with
  | quiet t h => rw [h]; exact .inl rfl
  | store b _ _ => rw [State.setBank_frame]; exact .inl rfl
  | fault h => exact .inr ⟨h, rfl⟩
  | admission l o a row c _ _ _ => rw [State.admitOrder_frame]; exact .inl rfl
  | image p d _ _ _ => rw [State.loadMoved_frame]; exact .inl rfl
  | leave h => exact absurd h hc
  | exchange h => exact absurd h hs
  | figures t h => exact absurd h hs
  | _ => exact .inl rfl

/-- Bank `i` is not the standby bank. -/
def State.keepsBank (s : State) (i : BankId) : Prop := s.active = some i ∧ s.standby = i.other

theorem Change.bank_of_keeps {L : Licence} {s t : State} (h : Change L s t) (hs : ¬ L.swaps) (hc : ¬ L.clears) {i : BankId}
    (hi : s.keepsBank i) : t.keepsBank i ∧ t.bank i = s.bank i := by
  have hmarkers := h.markers hs hc
  refine ⟨⟨hmarkers.1.trans hi.1, hmarkers.2.trans hi.2⟩, ?_⟩
  cases h with
  | store b _ _ => rw [hi.2]; cases i <;> rfl
  | quiet t h => rw [h]; cases i <;> rfl
  | admission l o a row c _ _ _ => rw [State.admitOrder_frame]; cases i <;> rfl
  | image p d _ _ _ => rw [State.loadMoved_frame]; cases i <;> rfl
  | leave h => exact absurd h hc
  | exchange h => exact absurd h hs
  | figures t h => exact absurd h hs
  | _ => cases i <;> rfl

theorem Leads.banks {L : Licence} {s t : State} (h : Leads L s t) (hl : ¬ L.stores) : t.bankA = s.bankA ∧ t.bankB = s.bankB :=
  Leads.keeps (P := fun u => u.bankA = s.bankA ∧ u.bankB = s.bankB)
    (fun _ _ hc hs => ⟨(hc.banks hl).1.trans hs.1, (hc.banks hl).2.trans hs.2⟩) h ⟨rfl, rfl⟩

theorem Leads.clock {L : Licence} {s t : State} (h : Leads L s t) : t.clock = s.clock :=
  Leads.keeps (P := fun u => u.clock = s.clock) (fun _ _ hc hs => hc.clock.trans hs) h rfl

theorem Leads.mode {L : Licence} {s t : State} (h : Leads L s t) (hs : ¬ L.swaps) (hc : ¬ L.clears) :
    t.mode = s.mode ∨ (s.mode = .screening ∧ t.mode = .failHold) := by
  refine Leads.keeps (P := fun u => u.mode = s.mode ∨ (s.mode = .screening ∧ u.mode = .failHold)) (fun u v hch hu => ?_) h
    (.inl rfl)
  rcases hch.mode hs hc with hv | ⟨hscreening, hv⟩
  · rwa [hv]
  · rcases hu with hu | ⟨hm, hu⟩
    · exact .inr ⟨hu ▸ hscreening, hv⟩
    · exact .inr ⟨hm, hv⟩

theorem Leads.bank_of_keeps {L : Licence} {s t : State} (h : Leads L s t) (hs : ¬ L.swaps) (hc : ¬ L.clears) {i : BankId}
    (hi : s.keepsBank i) : t.bank i = s.bank i :=
  (Leads.keeps (P := fun u => u.keepsBank i ∧ u.bank i = s.bank i)
    (fun _ _ hch hu => ⟨(hch.bank_of_keeps hs hc hu.1).1, (hch.bank_of_keeps hs hc hu.1).2.trans hu.2⟩) h ⟨hi, rfl⟩).2

theorem State.bank_of_banks {s t : State} (h : t.bankA = s.bankA ∧ t.bankB = s.bankB) (i : BankId) : t.bank i = s.bank i := by
  cases i
  · exact h.1
  · exact h.2

theorem State.Idles.banks {s t : State} (h : s.Idles t) : t.bankA = s.bankA ∧ t.bankB = s.bankB := by
  rw [h.frame]
  exact ⟨rfl, rfl⟩

theorem State.assertReset_clock (s : State) (c : ResetCause) : (s.assertReset c).clock = s.clock := by
  rw [State.assertReset_eq, State.holdReset_frame]
  cases c <;> rfl

theorem State.Idles.mode {s t : State} (h : s.Idles t) : t.mode = s.mode := by rw [h.frame]

/-- Settles O53: the kinds of change that touch a bank, the clock, a marker or the mode, by the licence of the command. -/
theorem banksAndModeChangeOnlyByTheirRequests : Obligations.BanksAndModeChangeOnlyByTheirRequests := by
  intro c s t h
  by_cases hc : isResetCommand c
  · cases c with
    | resetAsserted k =>
      obtain rfl := Host.Outcome.next.inj h
      rw [State.assertReset_settled]
      have hidle := s.idles_assertReset k
      exact ⟨fun _ _ _ => hidle.banks, fun _ => ⟨s.assertReset_clock k, fun i _ _ => State.bank_of_banks hidle.banks i⟩,
        .inl hidle.mode⟩
    | resetReleased k x =>
      exact ⟨fun _ _ hne => absurd rfl (hne k x), fun hne => absurd rfl (hne k x), .inr (.inr (.inr (.inr ⟨k, x, rfl⟩)))⟩
    | _ => exact hc.elim
  · have hleads := Leads.exec False hc (fun h => h.elim) h
    have hbanks : c ≠ .writeTable → c ≠ .copyToStandby → t.bankA = s.bankA ∧ t.bankB = s.bankB := fun hw hcopy =>
      hleads.banks (not_or.2 ⟨hw, hcopy⟩)
    have hplain : c ≠ .swapCheckEnd → Leads (licenceOf False False c s) s t := fun hne => by
      rcases Leads.exec_or_swap False False hc (fun h => h.elim) h with hl | ⟨k, hk, _⟩
      · exact hl
      · exact absurd hk.1 hne
    refine ⟨fun hw hcopy _ => hbanks hw hcopy, fun _ => ⟨hleads.clock, fun i hactive hstandby => ?_⟩, ?_⟩
    · by_cases hw : c = .writeTable ∨ c = .copyToStandby
      · refine (hplain ?_).bank_of_keeps id ?_ ⟨hactive, hstandby⟩
        · rintro rfl
          rcases hw with hw | hw <;> cases hw
        · rintro (rfl : c = .goTransparent)
          rcases hw with hw | hw <;> cases hw
      · obtain ⟨hw, hcopy⟩ := not_or.1 hw
        exact State.bank_of_banks (hbanks hw hcopy) i
    · by_cases hswap : c = .swapCheckEnd
      · exact .inr (.inr (.inl hswap))
      · by_cases hgo : c = .goTransparent
        · exact .inr (.inr (.inr (.inl hgo)))
        · rcases (hplain hswap).mode id hgo with hmode | hmode
          · exact .inl hmode
          · exact .inr (.inl hmode)

/-! ### Sections in HALTED -/

/-- Section `n` is HALTED with a cause. -/
def State.haltedWith (s : State) (n : Nat) (c : Option HaltCause) : Prop := s.phaseOf n = .halted ∧ (s.sect n).haltCause = c

theorem State.haltedWith_of_sects {s t : State} (h : t.sects = s.sects) {n : Nat} {c : Option HaltCause} (hs : s.haltedWith n c) :
    t.haltedWith n c := by
  unfold State.haltedWith State.phaseOf State.sect
  rw [h]
  exact hs

theorem Change.haltedWith {L : Licence} {s t : State} (h : Change L s t) {n : Nat} (hl : ¬ L.frees n) {c : Option HaltCause}
    (hs : s.haltedWith n c) : t.haltedWith n c := by
  rcases h.sects with hsame | ⟨m, v, hv, rfl⟩
  · exact State.haltedWith_of_sects hsame hs
  · unfold State.haltedWith State.phaseOf
    rw [State.sect_setSect]
    split
    next heq =>
      subst heq
      obtain ⟨hphase, hcause⟩ := (hv.halted.resolve_left hl) hs.1
      exact ⟨hphase, hcause.trans hs.2⟩
    next => exact hs

theorem Leads.haltedWith {L : Licence} {s t : State} (h : Leads L s t) {n : Nat} (hl : ¬ L.frees n) {c : Option HaltCause}
    (hs : s.haltedWith n c) : t.haltedWith n c :=
  Leads.keeps (P := fun u => u.haltedWith n c) (fun _ _ hc hs => hc.haltedWith hl hs) h hs

/-- A HALTED section of the old bank is carried in HALTED with its cause (R46). -/
theorem State.carriedSection_halted {s : State} {old : Bank} {n : Nat} {c : Option HaltCause} (hd : old.isDefined n = true)
    (hs : s.haltedWith n c) : (s.carriedSection old n).phase = .halted ∧ (s.carriedSection old n).haltCause = c := by
  have hphase : (s.sect n).phase = .halted := hs.1
  have hwas : s.wasDefined old n = true := by
    cases hg : (old.sectionRec n).good with
    | true => rw [State.wasDefined_of_good s old n hg, hd]
    | false => exact State.wasDefined_of_shown s old n hg ((s.showsDefined_iff n).2 (.inl (by rw [hs.1]; simp)))
  unfold State.carriedSection
  rw [hwas]
  cases s.activeBank.isDefined n with
  | true =>
    simp only
    rw [if_neg (by rw [hphase]; simp)]
    exact hs
  | false => exact hs

theorem State.carrySection_haltedWith {s : State} {old : Bank} {n : Nat} {c : Option HaltCause} (hd : old.isDefined n = true)
    (hs : s.haltedWith n c) (m : Nat) : (State.carrySection old s m).haltedWith n c := by
  have hcarry : (s.setSect m (s.carriedSection old m)).haltedWith n c := by
    unfold State.haltedWith State.phaseOf
    rw [State.sect_setSect]
    split
    next heq => subst heq; exact State.carriedSection_halted hd hs
    next => exact hs
  unfold State.carrySection
  simp only []
  split
  · exact (Leads.noteOverdue (L := ⟨False, False, False, False, fun _ => False⟩) _ m).haltedWith id hcarry
  · exact hcarry

theorem State.makeSwap_haltedWith {s : State} {n : Nat} {c : Option HaltCause} (hd : s.activeBank.isDefined n = true)
    (hs : s.haltedWith n c) (k : SwapCheck) : (s.makeSwap k).haltedWith n c := by
  have hstart : (s.swapStart k).haltedWith n c := by
    refine State.haltedWith_of_sects ?_ hs
    rw [State.swapStart_frame]
    rfl
  have hends : ∀ (u : State) (l : List Task), u.haltedWith n c → (u.swapEnds l).haltedWith n c := fun u l hu => by
    rw [State.swapEnds_frame]
    exact hu
  by_cases hmode : s.mode = .transparent
  · rw [State.makeSwap_transparent hmode]
    exact hends _ _ hstart
  · rw [State.makeSwap_banked hmode]
    refine hends _ _ ?_
    have himage : ((s.swapStart k).carryImage s.activeBank).haltedWith n c :=
      State.haltedWith_of_sects
        (foldl_keeps State.sects (State.carryPoint s.activeBank) (fun u p => by rw [State.carryPoint_frame]) _ _) hstart
    have hsections : (((s.swapStart k).carryImage s.activeBank).carrySections s.activeBank).haltedWith n c :=
      List.foldlRecOn (motive := fun u : State => u.haltedWith n c) _ _ himage
        fun u hu m _ => State.carrySection_haltedWith hd hu m
    have hbudget : ∀ (u : State) (r : BudgetRec), u.haltedWith n c → (u.countDraw.carryBudget r).carryOrders.haltedWith n c := by
      intro u r hu
      have hcarry : (u.countDraw.carryBudget r).haltedWith n c := by
        rw [State.carryBudget_frame]
        exact hu
      exact hcarry
    exact hbudget _ _ hsections

/-- Settles O54: a change lets a section leave HALTED only under its licence, and a swap carries a HALTED section as it is. -/
theorem haltedIsLeftOnlyByRequest : Obligations.HaltedIsLeftOnlyByRequest := by
  intro c s t n _ hd hhalted h
  by_cases hreset : isResetCommand c
  · cases c with
    | resetAsserted k =>
      obtain rfl := Host.Outcome.next.inj h
      rw [State.assertReset_settled]
      have hidle := s.idles_assertReset k
      exact .inl (State.haltedWith_of_sects (by rw [hidle.frame]) ⟨hhalted, rfl⟩)
    | resetReleased k x => exact .inr (.inr (.inr ⟨k, x, rfl⟩))
    | _ => exact hreset.elim
  · by_cases hpart : c = .resetPart
    · exact .inr (.inr (.inl hpart))
    · by_cases hphase : c = .phase ∧ s.asksFor n
      · exact .inr (.inl hphase)
      · have hfree : ¬ (licenceOf False False c s).frees n := by
          rintro (h | h | h)
          · exact h
          · exact hpart h
          · exact hphase h
        refine .inl ?_
        rcases Leads.exec_or_swap False False hreset (fun h => h.elim) h with hl | ⟨k, _, hl⟩
        · exact hl.haltedWith hfree ⟨hhalted, rfl⟩
        · exact hl.haltedWith hfree (State.makeSwap_haltedWith hd ⟨hhalted, rfl⟩ k)

end Sys2Proof.Machine
end

section

/-! PROOF. One order a point: the places of the held records and of the general entries, and that every step keeps each at the
logical point of its station point and no two at one. -/

namespace Sys2Proof.Machine

/-! ### Places -/

/-- The windows of a bank occupy disjoint logical ranges (R2). -/
def Bank.disjoint (b : Bank) : Prop :=
  ∀ i < 32, ∀ j < 32, ∀ p, (b.win i).holds p = true → (b.win j).holds p = true → i = j

theorem Window.holds_iff (w : Window) (p : Nat) :
    w.holds p = true ↔ w.defined = true ∧ w.first ≤ w.last ∧ w.base ≤ p ∧ p ≤ w.base + (w.last - w.first) := by
  simp [Window.holds, and_assoc]

theorem State.pointOf_iff (s : State) (station : Byte) (point : Word) (p : Option Nat) :
    s.pointOf station point p ↔ p = s.logicalOf station point := by
  unfold State.pointOf State.logicalOf
  cases s.covering station point <;> exact Iff.rfl

theorem State.logicalOf_of_activeBank {s t : State} (h : t.activeBank = s.activeBank) : t.logicalOf = s.logicalOf := by
  funext station point
  unfold State.logicalOf State.covering
  rw [h]

theorem findWindow_window {b : Bank} {pass : Window → Bool} {l : List Nat} {i : Nat} {w : Window}
    (h : findWindow b pass l = .window i w) : i ∈ l ∧ (b.window i).checked = some w ∧ pass w = true := by
  induction l with
  | nil => cases h
  | cons j l ih =>
    unfold findWindow at h
    split at h
    · cases h
    next v hv =>
      split at h
      next hpass =>
        cases h
        exact ⟨List.mem_cons_self, hv, hpass⟩
      next =>
        obtain ⟨hmem, hrest⟩ := ih h
        exact ⟨List.mem_cons_of_mem _ hmem, hrest⟩

theorem Stored.checked_content {α : Type} {e : Stored α} {x : α} (h : e.checked = some x) : e.content = x := by
  unfold Stored.checked at h
  split at h
  · exact Option.some.inj h
  · cases h

/-- The window that a station point is found in, with the logical point (R2, R3). -/
theorem State.logicalOf_eq_some {s : State} {station : Byte} {point : Word} {p : Nat} (h : s.logicalOf station point = some p) :
    ∃ i < 32, (s.activeBank.win i).station = station.toNat ∧ (s.activeBank.win i).first ≤ point.toNat ∧
      (s.activeBank.win i).logicalOf point.toNat = p ∧ (s.activeBank.win i).holds p = true := by
  unfold State.logicalOf at h
  split at h
  next i w hw =>
    obtain ⟨hmem, hread, hcovers⟩ := findWindow_window hw
    obtain rfl : (s.activeBank.window i).content = w := Stored.checked_content hread
    obtain rfl := Option.some.inj h
    simp only [Window.covers, Bool.and_eq_true, beq_iff_eq, decide_eq_true_eq] at hcovers
    obtain ⟨⟨⟨hdefined, hstation⟩, hfirst⟩, hlast⟩ := hcovers
    refine ⟨i, List.mem_range.1 hmem, hstation, hfirst, rfl, ?_⟩
    refine (Window.holds_iff _ _).2 ⟨hdefined, hfirst.trans hlast, ?_, ?_⟩
    · exact Nat.le_add_right _ _
    · exact Nat.add_le_add_left (Nat.sub_le_sub_right hlast _) _
  · cases h

/-- Under disjoint windows two station points of one logical point are one. -/
theorem State.place_of_logicalOf {s : State} (hd : s.activeBank.disjoint) {a b : Byte} {x y : Word} {p : Nat}
    (h : s.logicalOf a x = some p) (g : s.logicalOf b y = some p) : a = b ∧ x = y := by
  obtain ⟨i, hi, hstation, hfirst, hlogical, hholds⟩ := State.logicalOf_eq_some h
  obtain ⟨j, hj, hstation', hfirst', hlogical', hholds'⟩ := State.logicalOf_eq_some g
  obtain rfl := hd i hi j hj p hholds hholds'
  refine ⟨BitVec.eq_of_toNat_eq (hstation.symm.trans hstation'), BitVec.eq_of_toNat_eq ?_⟩
  unfold Window.logicalOf at hlogical hlogical'
  omega

theorem State.logicalOf_of_known {s : State} {o : PointTel} {a : Addressed} (h : s.judgeDestination o = .known a) :
    s.logicalOf o.dest o.point = some a.logical := by
  unfold State.judgeDestination at h
  split at h
  · cases h
  · split at h
    · cases h
    · cases h
    next i w hw =>
      have hlogical : s.logicalOf o.dest o.point = some (w.logicalOf o.point.toNat) := by
        unfold State.logicalOf
        rw [hw]
      rw [hlogical]
      split at h
      · cases h
      · split at h
        · cases h
        · unfold State.judgeClass at h
          split at h
          · cases h
          · split at h
            · cases h
            · split at h
              · cases h
                rfl
              · cases h

/-- The station and station point of a held order. -/
def HeldRec.place (h : HeldRec) : Byte × Word := (h.tel.dest, h.tel.point)

/-- The station and station point of an entry. -/
def Entry.place (e : Entry) : Byte × Word := (e.dest, e.point)

/-- Records, under a map of station points to logical points: each at its own, no two for one station point. -/
structure RecordsPlaced (f : Byte → Word → Option Nat) (l : List HeldRec) : Prop where
  point : ∀ h ∈ l, h.point = f h.tel.dest h.tel.point
  places : (l.map HeldRec.place).Nodup

/-- The same of general entries. -/
structure EntriesPlaced (f : Byte → Word → Option Nat) (l : List Entry) : Prop where
  point : ∀ e ∈ l, e.part = .general → e.logical = f e.dest e.point
  places : ((l.filter (fun e => e.part == .general)).map Entry.place).Nodup

theorem RecordsPlaced.nil (f : Byte → Word → Option Nat) : RecordsPlaced f [] :=
  ⟨fun _ hx => absurd hx List.not_mem_nil, List.nodup_nil⟩

theorem EntriesPlaced.nil (f : Byte → Word → Option Nat) : EntriesPlaced f [] :=
  ⟨fun _ hx => absurd hx List.not_mem_nil, List.nodup_nil⟩

theorem RecordsPlaced.pairwise {f : Byte → Word → Option Nat} {l : List HeldRec} (h : RecordsPlaced f l) :
    l.Pairwise (fun x y => ¬ (x.tel.dest = y.tel.dest ∧ x.tel.point = y.tel.point)) :=
  (List.pairwise_map.1 h.places).imp fun hne heq => hne (Prod.ext heq.1 heq.2)

theorem EntriesPlaced.pairwise {f : Byte → Word → Option Nat} {l : List Entry} (h : EntriesPlaced f l) :
    l.Pairwise (fun x y => x.part = .general → y.part = .general → ¬ (x.dest = y.dest ∧ x.point = y.point)) := by
  have hfilter := List.pairwise_map.1 h.places
  rw [List.pairwise_filter] at hfilter
  exact hfilter.imp fun himp hx hy heq => himp (by simpa using hx) (by simpa using hy) (Prod.ext heq.1 heq.2)

theorem State.orderLaw_iff (s : State) : s.OrderLaw ↔ s.activeBank.disjoint ∧ RecordsPlaced s.logicalOf s.held ∧
    EntriesPlaced s.logicalOf s.entries ∧ (s.mode = .transparent → s.held = [] ∧ s.entries = []) := by
  constructor
  · intro h
    refine ⟨h.windows, ⟨fun x hx => (s.pointOf_iff _ _ _).1 (h.heldPoint x hx), ?_⟩,
      ⟨fun e he hpart => (s.pointOf_iff _ _ _).1 (h.entryPoint e he hpart), ?_⟩, h.clear⟩
    · exact List.pairwise_map.2 (h.heldPlace.imp fun hne heq => hne (Prod.ext_iff.1 heq))
    · refine List.pairwise_map.2 (List.pairwise_filter.2 (h.entryPlace.imp fun hne hx hy heq => ?_))
      exact hne (by simpa using hx) (by simpa using hy) (Prod.ext_iff.1 heq)
  · rintro ⟨hdisjoint, hheld, hentries, hclear⟩
    refine ⟨hdisjoint, fun x hx => (s.pointOf_iff _ _ _).2 (hheld.point x hx), hheld.pairwise, ?_,
      fun e he hpart => (s.pointOf_iff _ _ _).2 (hentries.point e he hpart), hentries.pairwise, ?_, hclear⟩
    · refine hheld.pairwise.imp_of_mem fun {x y} hx hy hne => ?_
      refine or_iff_not_imp_left.2 fun hsome heq => ?_
      obtain ⟨p, hp⟩ := Option.ne_none_iff_exists'.1 hsome
      exact hne (State.place_of_logicalOf hdisjoint ((hheld.point x hx).symm.trans hp)
        ((hheld.point y hy).symm.trans (heq ▸ hp)))
    · refine hentries.pairwise.imp_of_mem fun {x y} hx hy hne hxpart hypart => ?_
      refine or_iff_not_imp_left.2 fun hsome heq => ?_
      obtain ⟨p, hp⟩ := Option.ne_none_iff_exists'.1 hsome
      exact hne hxpart hypart (State.place_of_logicalOf hdisjoint ((hentries.point x hx hxpart).symm.trans hp)
        ((hentries.point y hy hypart).symm.trans (heq ▸ hp)))

theorem RecordsPlaced.sublist {f : Byte → Word → Option Nat} {l m : List HeldRec} (h : RecordsPlaced f l) (hm : m.Sublist l) :
    RecordsPlaced f m :=
  ⟨fun x hx => h.point x (hm.subset hx), h.places.sublist (hm.map _)⟩

theorem EntriesPlaced.sublist {f : Byte → Word → Option Nat} {l m : List Entry} (h : EntriesPlaced f l) (hm : m.Sublist l) :
    EntriesPlaced f m :=
  ⟨fun x hx => h.point x (hm.subset hx), h.places.sublist ((hm.filter _).map _)⟩

/-- A record joins for whose point none is held. -/
theorem RecordsPlaced.append {f : Byte → Word → Option Nat} {l : List HeldRec} (h : RecordsPlaced f l) {x : HeldRec}
    (hx : x.point = f x.tel.dest x.tel.point) (hnew : ∀ y ∈ l, y.point ≠ x.point) : RecordsPlaced f (l ++ [x]) := by
  refine ⟨fun y hy => ?_, ?_⟩
  · rcases List.mem_append.1 hy with hy | hy
    · exact h.point y hy
    · obtain rfl := List.mem_singleton.1 hy
      exact hx
  · rw [List.map_append, List.map_singleton]
    refine List.nodup_append.2 ⟨h.places, List.nodup_singleton _, fun a ha b hb heq => ?_⟩
    obtain ⟨y, hy, rfl⟩ := List.mem_map.1 ha
    obtain rfl := List.mem_singleton.1 hb
    obtain ⟨hdest, hpoint⟩ := Prod.ext_iff.1 heq
    refine hnew y hy ?_
    rw [h.point y hy, hx]
    exact congrArg₂ f hdest hpoint

/-- A general entry joins at a point that has none. -/
theorem EntriesPlaced.append {f : Byte → Word → Option Nat} {l : List Entry} (h : EntriesPlaced f l) {x : Entry}
    (hx : x.logical = f x.dest x.point) (hnew : ∀ y ∈ l, y.part = .general → y.logical ≠ x.logical) :
    EntriesPlaced f (l ++ [x]) := by
  refine ⟨fun y hy hpart => ?_, ?_⟩
  · rcases List.mem_append.1 hy with hy | hy
    · exact h.point y hy hpart
    · obtain rfl := List.mem_singleton.1 hy
      exact hx
  · rw [List.filter_append, List.map_append]
    refine List.nodup_append.2 ⟨h.places, ?_, fun a ha b hb heq => ?_⟩
    · exact (List.nodup_singleton x.place).sublist (List.filter_sublist.map Entry.place)
    · obtain ⟨y, hy, rfl⟩ := List.mem_map.1 ha
      obtain ⟨z, hz, rfl⟩ := List.mem_map.1 hb
      obtain rfl := List.mem_singleton.1 (List.mem_filter.1 hz).1
      obtain ⟨hy, hpart⟩ := List.mem_filter.1 hy
      have hpart : y.part = .general := by simpa using hpart
      obtain ⟨hdest, hpoint⟩ := Prod.ext_iff.1 heq
      refine hnew y hy hpart ?_
      rw [h.point y hy hpart, hx]
      exact congrArg₂ f hdest hpoint

/-- A priority entry joins: the general ones are as before. -/
theorem EntriesPlaced.append_priority {f : Byte → Word → Option Nat} {l : List Entry} (h : EntriesPlaced f l) {x : Entry}
    (hx : x.part = .priority) : EntriesPlaced f (l ++ [x]) := by
  refine ⟨fun y hy hpart => ?_, ?_⟩
  · rcases List.mem_append.1 hy with hy | hy
    · exact h.point y hy hpart
    · obtain rfl := List.mem_singleton.1 hy
      rw [hx] at hpart
      cases hpart
  · have hfilter : (l ++ [x]).filter (fun e => e.part == .general) = l.filter (fun e => e.part == .general) := by
      simp [List.filter_append, hx]
    rw [hfilter]
    exact h.places

/-- A change that keeps part, place and logical point. -/
theorem EntriesPlaced.map {f : Byte → Word → Option Nat} {l : List Entry} (h : EntriesPlaced f l) (g : Entry → Entry)
    (hg : ∀ e, (g e).part = e.part ∧ (g e).dest = e.dest ∧ (g e).point = e.point ∧ (g e).logical = e.logical) :
    EntriesPlaced f (l.map g) := by
  refine ⟨fun y hy hpart => ?_, ?_⟩
  · obtain ⟨e, he, rfl⟩ := List.mem_map.1 hy
    obtain ⟨h1, h2, h3, h4⟩ := hg e
    rw [h2, h3, h4]
    exact h.point e he (h1 ▸ hpart)
  · have hfilter : ((l.map g).filter (fun e => e.part == .general)).map Entry.place =
        (l.filter (fun e => e.part == .general)).map Entry.place := by
      rw [List.filter_map, List.map_map]
      have hpart : (fun e : Entry => (g e).part == .general) = fun e => e.part == .general := by
        funext e
        rw [(hg e).1]
      have hplace : Entry.place ∘ g = Entry.place := by
        funext e
        exact Prod.ext (hg e).2.1 (hg e).2.2.1
      rw [hplace]
      exact congrArg (List.map Entry.place) (congrArg (fun p => List.filter p l) hpart)
    rw [hfilter]
    exact h.places

/-! ### The order law -/

theorem State.OrderLaw.of_same {s t : State} (h : s.OrderLaw) (hb : t.activeBank = s.activeBank) (hh : t.held = s.held)
    (he : t.entries = s.entries) (hm : t.mode = .transparent → s.mode = .transparent) : t.OrderLaw := by
  rw [State.orderLaw_iff] at h ⊢
  rw [hb, hh, he, State.logicalOf_of_activeBank hb]
  exact ⟨h.1, h.2.1, h.2.2.1, fun ht => h.2.2.2 (hm ht)⟩

theorem State.active_of_windowOf {s : State} {p i : Nat} {w : Window} (h : s.windowOf p = .window i w) : s.active ≠ none := by
  intro hnone
  obtain ⟨_, hread, hholds⟩ := findWindow_window h
  rw [State.activeBank_of_none hnone] at hread
  obtain rfl : Window.empty = w := Stored.checked_content hread
  cases hholds

theorem Change.orderLaw {L : Licence} {s t : State} (h : Change L s t) (hl : ¬ L.swaps) (hm : s.Marked) (hs : s.OrderLaw) :
    t.OrderLaw := by
  have hactive : s.active ≠ none → s.mode ≠ .transparent := fun ha ht => ha (hm.transparent.1 ht)
  obtain ⟨hdisjoint, hheld, hentries, hclear⟩ := s.orderLaw_iff.1 hs
  cases h with
  | quiet t h => rw [h]; exact hs.of_same rfl rfl rfl id
  | store b _ _ =>
    have hbank := State.activeBank_setBank hm b
    rw [State.setBank_frame] at hbank ⊢
    exact hs.of_same hbank rfl rfl id
  | fault => exact hs.of_same rfl rfl rfl fun ht => by cases ht
  | answer l c _ hlt =>
    refine (State.orderLaw_iff _).2 ⟨hdisjoint, hheld.sublist hlt.1, hentries, fun ht => ?_⟩
    obtain ⟨hnone, hempty⟩ := hclear ht
    exact ⟨List.sublist_nil.1 (hnone ▸ hlt.1), hempty⟩
  | hold o a r k c hd _ _ hn _ _ =>
    refine (State.orderLaw_iff _).2 ⟨hdisjoint, hheld.append (State.logicalOf_of_known hd).symm hn, hentries,
      fun ht => absurd ht (hactive (State.active_of_known hd))⟩
  | again l₁ l₂ x a r c hh hd =>
    refine (State.orderLaw_iff _).2 ⟨hdisjoint, ⟨fun y hy => ?_, ?_⟩, hentries,
      fun ht => absurd ht (hactive (State.active_of_known hd))⟩
    · have hpoint := hheld.point
      rw [hh] at hpoint
      rcases List.mem_append.1 hy with hy | hy
      · exact hpoint y (List.mem_append_left _ hy)
      · rcases List.mem_cons.1 hy with rfl | hy
        · exact (State.logicalOf_of_known hd).symm
        · exact hpoint y (List.mem_append_right _ (List.mem_cons_of_mem _ hy))
    · have hplaces := hheld.places
      rw [hh] at hplaces
      simpa [State.setHeld, HeldRec.place, HeldRec.again] using hplaces
  | admission l o a row c hlt hd hadmits =>
    obtain ⟨e, he, hpart, _, hdest, hpoint, hlogical, _⟩ := (s.setHeld l).admitOrder_entries o a row c
    have hframe := State.admitOrder_frame (s.setHeld l) o a row c
    generalize (s.setHeld l).admitOrder o a row c = t at he hframe ⊢
    have hbank : t.activeBank = s.activeBank := by rw [hframe]; rfl
    have hheld' : t.held = l := by rw [hframe]; rfl
    have hmode : t.mode = s.mode := by rw [hframe]; rfl
    rw [State.orderLaw_iff, hbank, hheld', hmode, he, State.logicalOf_of_activeBank hbank]
    refine ⟨hdisjoint, hheld.sublist hlt.1, hentries.append ?_ fun y hy hgeneral heq => ?_,
      fun ht => absurd ht (hactive (State.active_of_known hd))⟩
    · rw [hlogical, hdest, hpoint]
      exact (State.logicalOf_of_known hd).symm
    · have hidle := List.any_eq_false.1 hadmits.idle y hy
      simp [hgeneral, heq, hlogical] at hidle
  | priority l o a hlt hd _ =>
    exact (State.orderLaw_iff _).2 ⟨hdisjoint, hheld.sublist hlt.1, hentries.append_priority rfl,
      fun ht => absurd ht (hactive (State.active_of_known hd))⟩
  | trip n a i w hw _ =>
    exact (State.orderLaw_iff _).2 ⟨hdisjoint, hheld, hentries.append_priority rfl,
      fun ht => absurd ht (hactive (State.active_of_windowOf hw))⟩
  | free e _ =>
    refine (State.orderLaw_iff _).2 ⟨hdisjoint, hheld, hentries.sublist List.filter_sublist, fun ht => ?_⟩
    obtain ⟨hnone, hempty⟩ := hclear ht
    refine ⟨hnone, ?_⟩
    show s.entries.filter _ = []
    rw [hempty]
    rfl
  | endEntry e c _ _ _ =>
    refine (State.orderLaw_iff _).2 ⟨hdisjoint, hheld, hentries.sublist List.filter_sublist, fun ht => ?_⟩
    obtain ⟨hnone, hempty⟩ := hclear ht
    refine ⟨hnone, ?_⟩
    show s.entries.filter _ = []
    rw [hempty]
    rfl
  | sent n t =>
    refine (State.orderLaw_iff _).2 ⟨hdisjoint, hheld, hentries.map _ fun e => ?_, fun ht => ?_⟩
    · split <;> exact ⟨rfl, rfl, rfl, rfl⟩
    · obtain ⟨hnone, hempty⟩ := hclear ht
      exact ⟨hnone, by rw [hempty]; rfl⟩
  | image p d hu _ _ =>
    unfold State.loadMoved
    split_ifs
    · exact hs.of_same rfl rfl rfl id
    · refine (State.orderLaw_iff _).2 ⟨hdisjoint, hheld, hentries.map _ fun e => ?_, fun ht => ?_⟩
      · split <;> exact ⟨rfl, rfl, rfl, rfl⟩
      · obtain ⟨hnone, hempty⟩ := hclear ht
        refine ⟨hnone, ?_⟩
        show releasePledge p s.entries = []
        rw [hempty]
        rfl
    · exact hs.of_same rfl rfl rfl id
  | zero => exact hs.of_same rfl rfl rfl id
  | leave _ _ hh he _ _ _ _ =>
    refine (State.orderLaw_iff _).2 ⟨fun i _ j _ p hi _ => ?_, ?_, ?_, fun _ => ⟨hh, he⟩⟩
    · cases hi
    · show RecordsPlaced _ s.held
      rw [hh]
      exact .nil _
    · show EntriesPlaced _ s.entries
      rw [he]
      exact .nil _
  | exchange h => exact absurd h hl
  | figures t h => exact absurd h hl
  | carry p d h => exact absurd h hl
  | orders h => exact absurd h hl
  | _ => exact hs.of_same rfl rfl rfl id

/-! ### The order law across a swap -/

/-- A bank that passes the swap check has disjoint windows (R169, item 2). -/
theorem State.disjoint_of_swapFailure {s : State} {b : Bank} (h : s.swapFailure b = none) : b.disjoint := by
  have hrelation := (State.swapFailure_eq_none h).2.1
  simp only [Bank.relationFailure, List.findSome?_eq_none_iff, id] at hrelation
  have hoverlap := failing_eq_none.1 (hrelation (failing .logicalOverlap .windows 32 b.overlapAt) (by simp))
  have hlt : ∀ i < 32, ∀ j < 32, i < j → ∀ p, (b.win i).holds p = true → (b.win j).holds p = true → False := by
    intro i hi j hj hij p hp hq
    have hne := hoverlap i hi
    simp only [Bank.overlapAt, List.any_eq_false, List.mem_range, Bool.and_eq_true, decide_eq_true_eq, not_and] at hne
    refine hne j hj hij ?_
    obtain ⟨hd, hf, hb, hl⟩ := (Window.holds_iff _ _).1 hp
    obtain ⟨hd', hf', hb', hl'⟩ := (Window.holds_iff _ _).1 hq
    simp only [Window.overlaps, Bool.and_eq_true, decide_eq_true_eq]
    exact ⟨⟨⟨⟨⟨hd, hd'⟩, hf⟩, hf'⟩, by omega⟩, by omega⟩
  intro i hi j hj p hp hq
  rcases Nat.lt_trichotomy i j with hij | hij | hij
  · exact (hlt i hi j hj hij p hp hq).elim
  · exact hij
  · exact (hlt j hj i hi hij p hq hp).elim

/-- Held records and general entries keep their places, each now at its logical point under the active bank (R131, R148). -/
theorem State.carryOrders_placed {s : State} {f : Byte → Word → Option Nat} (hh : RecordsPlaced f s.held)
    (he : EntriesPlaced f s.entries) :
    RecordsPlaced s.logicalOf s.carryOrders.held ∧ EntriesPlaced s.logicalOf s.carryOrders.entries := by
  refine ⟨⟨fun x hx => ?_, ?_⟩, ⟨fun x hx hpart => ?_, ?_⟩⟩
  · obtain ⟨y, _, rfl⟩ := List.mem_map.1 hx
    rfl
  · show ((s.held.map _).map HeldRec.place).Nodup
    rw [List.map_map]
    exact hh.places
  · obtain ⟨y, _, rfl⟩ := List.mem_map.1 hx
    split at hpart
    next hgeneral => rw [if_pos hgeneral]
    next hgeneral => exact absurd (by simpa using hpart) hgeneral
  · have hfilter : (s.carryOrders.entries.filter (fun e => e.part == .general)).map Entry.place =
        (s.entries.filter (fun e => e.part == .general)).map Entry.place := by
      show ((s.entries.map _).filter _).map Entry.place = _
      rw [List.filter_map, List.map_map]
      have hpart : ((fun e : Entry => e.part == .general) ∘ fun e : Entry =>
          if e.part == .general then { e with logical := s.logicalOf e.dest e.point } else e) = fun e => e.part == .general := by
        funext e
        simp only [Function.comp_apply]
        split <;> rfl
      have hplace : (Entry.place ∘ fun e : Entry =>
          if e.part == .general then { e with logical := s.logicalOf e.dest e.point } else e) = Entry.place := by
        funext e
        simp only [Function.comp_apply]
        split <;> rfl
      rw [hplace]
      exact congrArg (List.map Entry.place) (congrArg (fun p => List.filter p s.entries) hpart)
    rw [hfilter]
    exact he.places

theorem State.swapStart_held (s : State) (k : SwapCheck) : (s.swapStart k).held = s.held := by
  rw [State.swapStart_frame]
  rfl

theorem State.swapStart_entries (s : State) (k : SwapCheck) : (s.swapStart k).entries = s.entries := by
  rw [State.swapStart_frame]
  rfl

/-- The orders as a swap finds them, when it sets their points. -/
theorem State.swapCarried_orders (s : State) (k : SwapCheck) : ∃ u : State, s.swapCarried k = u.carryOrders ∧
    u.held = s.held ∧ u.entries = s.entries := by
  have himage : ∀ (u : State) (old : Bank), (u.carryImage old).held = u.held ∧ (u.carryImage old).entries = u.entries :=
    fun u old => ⟨foldl_keeps State.held (State.carryPoint old) (fun u p => by rw [State.carryPoint_frame]) _ u,
      foldl_keeps State.entries (State.carryPoint old) (fun u p => by rw [State.carryPoint_frame]) _ u⟩
  have hsections : ∀ (u : State) (old : Bank), (u.carrySections old).held = u.held ∧ (u.carrySections old).entries = u.entries :=
    fun u old => ⟨foldl_keeps State.held (State.carrySection old) (fun u p => by rw [State.carrySection_frame]) _ u,
      foldl_keeps State.entries (State.carrySection old) (fun u p => by rw [State.carrySection_frame]) _ u⟩
  have hbudget : ∀ (u : State) (r : BudgetRec), (u.countDraw.carryBudget r).held = u.held ∧
      (u.countDraw.carryBudget r).entries = u.entries := fun u r => by
    rw [State.carryBudget_frame]
    exact ⟨rfl, rfl⟩
  refine ⟨_, rfl, ?_, ?_⟩
  · rw [(hbudget _ _).1, (hsections _ _).1, (himage _ _).1, State.swapStart_held]
  · rw [(hbudget _ _).2, (hsections _ _).2, (himage _ _).2, State.swapStart_entries]

theorem State.orderLaw_makeSwap {s : State} (hm : s.ModeLaw) (h : s.swapFailure s.standbyBank = none) (hs : s.OrderLaw)
    (k : SwapCheck) : (s.makeSwap k).OrderLaw := by
  obtain ⟨_, hheld, hentries, hclear⟩ := s.orderLaw_iff.1 hs
  have hdisjoint := State.disjoint_of_swapFailure h
  have hends : ∀ (u : State) (l : List Task), u.OrderLaw → (u.swapEnds l).OrderLaw := fun u l hu => by
    rw [State.swapEnds_frame]
    exact hu.of_same rfl rfl rfl id
  by_cases hmode : s.mode = .transparent
  · rw [State.makeSwap_transparent hmode]
    refine hends _ _ ?_
    obtain ⟨hnone, hempty⟩ := hclear hmode
    have hstart : (s.swapStart k).OrderLaw := by
      rw [State.orderLaw_iff, State.swapStart_activeBank hm, State.swapStart_held, State.swapStart_entries, hnone, hempty]
      exact ⟨hdisjoint, .nil _, .nil _,
        fun _ => ⟨rfl, rfl⟩⟩
    exact hstart.of_same rfl rfl rfl id
  · rw [State.makeSwap_banked hmode]
    refine hends _ _ ?_
    have hbank := State.swapCarried_activeBank hm k
    have hscreening := State.swapCarried_mode s k
    obtain ⟨u, hu, hh, he⟩ := State.swapCarried_orders s k
    rw [hu] at hbank hscreening ⊢
    obtain ⟨hrecords, hgeneral⟩ := State.carryOrders_placed (s := u) (hh ▸ hheld) (he ▸ hentries)
    refine (State.orderLaw_iff _).2 ⟨by rw [hbank]; exact hdisjoint, hrecords, hgeneral, fun ht => ?_⟩
    rw [hscreening] at ht
    cases ht

theorem step_orderLaw {s t : State} (hm : s.ModeLaw) (hs : s.OrderLaw) (h : step s = .next t) : t.OrderLaw :=
  step_keeps_banked State.OrderLaw (fun _ _ _ hl hc hm hs => hc.orderLaw hl hm hs)
    (fun _ k hf hm hs => State.orderLaw_makeSwap hm hf hs k)
    (fun s t hi hs => by rw [hi.frame]; exact hs.of_same rfl rfl rfl id)
    (fun s t hr _ => by
      rw [hr.frame]
      refine (State.orderLaw_iff _).2 ⟨fun i _ j _ p hi _ => ?_, RecordsPlaced.nil _, EntriesPlaced.nil _, fun _ => ⟨rfl, rfl⟩⟩
      cases hi) hm hs h

/-- Settles O57: the section, point and held laws by the kinds of change, the order law with the places of the orders. -/
theorem everyStepKeepsTheSectionPointAndHeldLaws : Obligations.EveryStepKeepsTheSectionPointAndHeldLaws :=
  ⟨fun _ _ hs h => step_sectionLaw hs h, fun _ _ hs h => step_pointLaw hs h, fun _ _ hs h => step_heldLaw hs h,
    fun _ _ hm hs h => step_orderLaw hm hs h⟩

end Sys2Proof.Machine
end

section

/-! PROOF. The screening of a new order: steps 1 to 14 of the verdict sequence, what each verdict does to the state, and the
supersede of the order held for its point. -/

namespace Sys2Proof.Machine

/-! ### The step -/

/-- Settles O1: a step with a command at the front of the queue is the meaning of that command. -/
theorem stepTakesTheFrontCommand : Obligations.StepTakesTheFrontCommand := by
  intro c s rest h
  unfold step
  rw [h]

/-! ### The agenda is left alone by a verdict -/

@[simp] theorem State.refuse_agenda (s : State) (t : PointTel) (r : RefusalReason) : (s.refuse t r).agenda = s.agenda := by
  rw [State.refuse_eq, State.refusedWith_agenda]

@[simp] theorem State.emptyHeld_agenda (s : State) (r : RefusalReason) : (s.emptyHeld r).agenda = s.agenda := by
  unfold State.emptyHeld
  exact foldl_keeps State.agenda (fun s (h : HeldRec) => s.refuse h.tel r) (fun s h => s.refuse_agenda h.tel r) s.held (s.setHeld [])

@[simp] theorem State.activeFault_agenda (s : State) (e : EntryRef) : (s.activeFault e).agenda = s.agenda := by
  unfold State.activeFault
  split
  · rw [State.emptyHeld_agenda, State.offerNotice_agenda]
  · rfl

@[simp] theorem State.takeFault_agenda (s : State) (f : Option EntryRef) : (s.takeFault f).agenda = s.agenda := by
  cases f with
  | none => rfl
  | some e => exact s.activeFault_agenda e

@[simp] theorem State.refuseFault_agenda (s : State) (t : PointTel) (r : RefusalReason) (f : Option EntryRef) :
    (s.refuseFault t r f).agenda = s.agenda := by
  rw [State.refuseFault, State.takeFault_agenda, State.refuse_agenda]

@[simp] theorem State.holdNew_agenda (s : State) (t : PointTel) (p : Nat) (r : HoldReason) (limit : Nat) (c : Option BudgetClass) :
    (s.holdNew t p r limit c).agenda = s.agenda := by
  unfold State.holdNew
  split_ifs <;> simp

@[simp] theorem State.charge_agenda (s : State) (c : Option BudgetClass) (k : Nat) : (s.charge c k).agenda = s.agenda := by
  unfold State.charge
  split <;> rfl

@[simp] theorem State.admitOrder_agenda (s : State) (t : PointTel) (a : Addressed) (row : ScreenRow) (c : Option BudgetClass) :
    (s.admitOrder t a row c).agenda = s.agenda := by
  simp [State.admitOrder]

@[simp] theorem State.applyNew_agenda (s : State) (t : PointTel) (a : Addressed) (v : Verdict) :
    (s.applyNew t a v).agenda = s.agenda := by
  cases v with
  | refuse r f => exact s.refuseFault_agenda t r f
  | priority => rfl
  | hold r limit c => exact s.holdNew_agenda t a.logical r limit c
  | admission row c => exact s.admitOrder_agenda t a row c

theorem State.Screens.quiet {s : State} {o : PointTel} (h : s.Screens o) : s.agenda = [] := by
  obtain ⟨⟨_, hquiet⟩, _⟩ := h.ready
  exact hquiet

/-- An order that steps 1 and 2 hand on, with none held for its point, ends in the effect of its verdict. -/
theorem State.Screens.exec_applied {s : State} {o : PointTel} {w : Window} {st : PointStatic} {a : Action} {v : Verdict}
    (hs : s.Screens o) (hon : s.HandsOn o w st a) (hn : s.noneHeld (w.logicalOf o.point.toNat))
    (hv : s.judgeOrder o ⟨w.logicalOf o.point.toNat, w, st, a⟩ s.held = v) :
    exec (.order o) s = .next (s.applyNew o ⟨w.logicalOf o.point.toNat, w, st, a⟩ v) := by
  rw [hs.exec_verdict hon hn, hv, State.settled_of_quiet]
  rw [State.applyNew_agenda, hs.quiet]

/-! ### Intake (R159, R161) -/

theorem State.debt_eq_answerDebt (s : State) : s.debt = answerDebt s := by
  have hqueue : (fun u : UpItem => !u.isReport) = fun x => match x.content with | .report _ => false | _ => true := by
    funext u
    unfold UpItem.isReport
    cases u.content <;> rfl
  have hentries : Entry.isSupervisory = fun e : Entry => match e.origin with | .supervisory _ => true | .part _ => false := by
    funext e
    unfold Entry.isSupervisory
    cases e.origin <;> rfl
  exact congrArg₂ (fun (q : List UpItem) (l : List Entry) => q.length + s.held.length + l.length)
    (congrArg (fun f => s.upQueue.filter f) hqueue) (congrArg (fun f => s.entries.filter f) hentries)

theorem State.settled_pushUp {s : State} (h : s.agenda = []) (c : UpContent) : (s.pushUp c).settled = s.pushUp c :=
  State.settled_of_quiet _ h

theorem State.settled_setPort {s : State} (h : s.agenda = []) (p : PortId) (v : Port) :
    (s.setPort p v).settled = s.setPort p v :=
  State.settled_of_quiet _ h

/-- Settles O4: what arrives on UP is taken by its debt. -/
theorem intakeUnderTheAnswerDebtLimit : Obligations.IntakeUnderTheAnswerDebtLimit := by
  refine ⟨State.debt_eq_answerDebt, fun s o hready hbanked hdest hdebt => ?_, fun s r hready hdest => ⟨fun hdebt => ?_, fun hdebt => ?_⟩⟩
  · obtain ⟨⟨_, hquiet⟩, _⟩ := id hready
    have hroom : ¬ s.debt < Config.debtLimit := Nat.not_lt.2 hdebt
    simp only [exec, execOrder]
    rw [State.arriveUp_ready s _ hready, if_neg (show ¬ destOf (.point .order o) = s.station from hdest), if_neg hbanked]
    simp only [State.takeOrder]
    rw [if_neg hroom, State.latchReceiveRefused, State.settled_setPort hquiet]
  · obtain ⟨⟨_, hquiet⟩, _⟩ := id hready
    have hroom : s.debt < Config.debtLimit := hdebt
    simp only [exec, execMgmtRequestIntake]
    rw [State.arriveUp_ready s _ hready, if_pos (show destOf (.mgmt .request r) = s.station from hdest)]
    simp only [State.takeRequest]
    rw [if_pos hroom, State.settled_pushUp (by exact hquiet)]
    rfl
  · obtain ⟨⟨_, hquiet⟩, _⟩ := id hready
    have hroom : ¬ s.debt < Config.debtLimit := Nat.not_lt.2 hdebt
    simp only [exec, execMgmtRequestIntake]
    rw [State.arriveUp_ready s _ hready, if_pos (show destOf (.mgmt .request r) = s.station from hdest)]
    simp only [State.takeRequest]
    rw [if_neg hroom, State.latchReceiveRefused, State.settled_setPort hquiet]

/-! ### Step 3 (R86) -/

theorem State.judgeOrder_priority {s : State} {a : Addressed} (ha : a.action = .stop ∨ a.action = .closePoint) (o : PointTel)
    (ahead : List HeldRec) :
    s.judgeOrder o a ahead = if s.priorityFree a.window.port then .priority else .refuse .noSlot none := by
  unfold State.judgeOrder
  rw [if_pos ha]

theorem State.priorityFree_eq_false {s : State} {d : DnPort}
    (h : 16 ≤ s.partCount .priority ∨ 8 ≤ (s.lane d .priority).length) : s.priorityFree d = false := by
  refine Bool.eq_false_iff.2 fun hfree => ?_
  obtain ⟨hpart, hlane⟩ := (s.priorityFree_iff d).1 hfree
  omega

theorem State.generalFree_eq_false {s : State} {d : DnPort}
    (h : 48 ≤ s.partCount .general ∨ 16 ≤ (s.lane d .general).length) : s.generalFree d = false := by
  refine Bool.eq_false_iff.2 fun hfree => ?_
  obtain ⟨hpart, hlane⟩ := (s.generalFree_iff d).1 hfree
  omega

theorem State.refuseFault_none (s : State) (o : PointTel) (r : RefusalReason) : s.refuseFault o r none = s.refusedWith o r := by
  rw [State.refuseFault, State.takeFault, State.refuse_eq]

/-- Settles O5: the verdict of a STOP or CLOSE depends on the priority entries and the priority lane alone. -/
theorem stopAndCloseTakeThePriorityPath : Obligations.StopAndCloseTakeThePriorityPath := by
  intro s o w st a hs hon hn ha
  have hverdict := fun ahead => State.judgeOrder_priority (s := s) (a := ⟨w.logicalOf o.point.toNat, w, st, a⟩) ha o ahead
  refine ⟨fun hpart hlane => ?_, fun hfull => ?_⟩
  · rw [hs.exec_applied hon hn (hverdict s.held), if_pos ((s.priorityFree_iff w.port).2 ⟨hpart, hlane⟩)]
    rfl
  · rw [hs.exec_applied hon hn (hverdict s.held), State.priorityFree_eq_false hfull]
    exact congrArg _ (s.refuseFault_none o .noSlot)

/-! ### Steps 9 to 11, and the effect of an admitted START (R90, R91, R96, R109) -/

theorem Role.budgetClass_eq (r : SectionRec) : r.role.budgetClass = budgetClassOf r := by
  unfold budgetClassOf
  cases r.role <;> rfl

/-- The budget has room for a START of a section (R91). -/
def State.hasBudget (s : State) (r : SectionRec) (cost : Nat) : Prop :=
  if r.role = .utility then cost ≤ s.remaining else cost + s.unusedReserve ≤ s.remaining

theorem State.budgetPasses_iff (s : State) (r : SectionRec) (cost : Nat) :
    s.budgetPasses (budgetClassOf r) cost = true ↔ s.hasBudget r cost := by
  unfold State.hasBudget budgetClassOf
  split_ifs <;> simp [State.budgetPasses]

theorem laneWaits_iff (c : BudgetClass) (ahead : List HeldRec) :
    laneWaits c ahead = true ↔ ∃ h ∈ ahead, h.reason = .budget ∧ h.cls = some c := by
  simp [laneWaits]

theorem State.judgeStart_of_budget {s : State} {a : Addressed} {b : BudgetRec}
    (h : a.static.startLimit = 0 ∨ (s.point a.logical).tally < a.static.startLimit) (hb : s.readBudget = some b)
    (row : ScreenRow) (c : BudgetClass) (ahead : List HeldRec) :
    s.judgeStart a row c ahead =
      if s.load + s.pledgeSum + a.static.ratedLoad > b.capacity then .hold .load row.holdLimit (some c)
      else if !s.budgetPasses c a.static.startCost || laneWaits c ahead then .hold .budget row.holdLimit (some c)
      else s.judgeSlot a row (some c) := by
  unfold State.judgeStart
  rw [if_neg (by omega), hb]

theorem State.judgeStart_of_no_budget {s : State} {a : Addressed}
    (h : a.static.startLimit = 0 ∨ (s.point a.logical).tally < a.static.startLimit) (hb : s.readBudget = none)
    (row : ScreenRow) (c : BudgetClass) (ahead : List HeldRec) :
    s.judgeStart a row c ahead = .refuse .failHold (some ⟨.budget, 0⟩) := by
  unfold State.judgeStart
  rw [if_neg (by omega), hb]

/-- Steps 9 to 11 pass a START. -/
theorem State.judgeStart_passes {s : State} {a : Addressed} {b : BudgetRec} {r : SectionRec} {ahead : List HeldRec}
    (htally : a.static.startLimit = 0 ∨ (s.point a.logical).tally < a.static.startLimit) (hb : s.readBudget = some b)
    (hload : s.load + s.pledgeSum + a.static.ratedLoad ≤ b.capacity) (hbudget : s.hasBudget r a.static.startCost)
    (hlane : ∀ h ∈ ahead, ¬ (h.reason = .budget ∧ h.cls = some (budgetClassOf r))) (row : ScreenRow) :
    s.judgeStart a row (budgetClassOf r) ahead = s.judgeSlot a row (some (budgetClassOf r)) := by
  have hwaits : laneWaits (budgetClassOf r) ahead = false :=
    Bool.eq_false_iff.2 fun h => (laneWaits_iff _ _).1 h |>.elim fun x hx => hlane x hx.1 hx.2
  rw [State.judgeStart_of_budget htally hb, if_neg (Nat.not_lt.2 hload), (State.budgetPasses_iff s r _).2 hbudget, hwaits]
  rfl

theorem State.admitOrder_start (s : State) (o : PointTel) (w : Window) (st : PointStatic) (row : ScreenRow) (r : SectionRec) :
    s.admitOrder o ⟨w.logicalOf o.point.toNat, w, st, .start⟩ row (some (budgetClassOf r)) =
      { s.setPoint (w.logicalOf o.point.toNat)
          { s.point (w.logicalOf o.point.toNat) with
            tally := min 15 ((s.point (w.logicalOf o.point.toNat)).tally + 1) } with
        remaining := s.remaining - st.startCost
        unusedReserve := if r.role = .utility then s.unusedReserve - st.startCost else s.unusedReserve
        pledgeSum := s.pledgeSum + if (s.point (w.logicalOf o.point.toNat)).isOn then 0 else st.ratedLoad
        entries := s.entries ++ [s.entryFor .general o w .start 0
          (if (s.point (w.logicalOf o.point.toNat)).isOn then none else some st.ratedLoad) false]
        nextSeq := s.nextSeq + 1 } := by
  unfold budgetClassOf
  have hpledge : s.pledgeOf ⟨w.logicalOf o.point.toNat, w, st, .start⟩ =
      if (s.point (w.logicalOf o.point.toNat)).isOn then none else some st.ratedLoad := by
    cases hon : (s.point (w.logicalOf o.point.toNat)).isOn <;> simp [State.pledgeOf, hon]
  have hsum : (if (s.point (w.logicalOf o.point.toNat)).isOn then none else some st.ratedLoad).getD 0 =
      if (s.point (w.logicalOf o.point.toNat)).isOn then 0 else st.ratedLoad := by
    cases (s.point (w.logicalOf o.point.toNat)).isOn <;> rfl
  unfold State.admitOrder
  simp only [hpledge, hsum]
  split_ifs <;> rfl

/-- Settles O6: the verdict is an admission, which charges the class of the section. -/
theorem admittedStartChargesPledgesAndCounts : Obligations.AdmittedStartChargesPledgesAndCounts := by
  intro s o w st n r row b hs hon hn hrow htally hb hload hbudget hlane hpart hplace
  have hverdict : s.judgeOrder o ⟨w.logicalOf o.point.toNat, w, st, .start⟩ s.held = .admission row (some (budgetClassOf r)) := by
    rw [hrow.judged (by simp) (by simp), if_pos rfl, Role.budgetClass_eq]
    rw [State.judgeStart_passes (a := ⟨w.logicalOf o.point.toNat, w, st, .start⟩) htally hb hload hbudget hlane,
      State.judgeSlot_of_free ((s.generalFree_iff w.port).2 ⟨hpart, hplace⟩), if_neg (by simp)]
  rw [hs.exec_applied hon hn hverdict]
  exact congrArg _ (s.admitOrder_start o w st row r)

/-! ### OPEN and RESET_FAULT (R96, R97) -/

theorem State.admitOrder_plain (s : State) (o : PointTel) (w : Window) (st : PointStatic) {a : Action}
    (ha : a = .openPoint ∨ a = .resetFault) (row : ScreenRow) :
    s.admitOrder o ⟨w.logicalOf o.point.toNat, w, st, a⟩ row none =
      { s with
        entries := s.entries ++ [s.entryFor .general o w a 0 none false]
        nextSeq := s.nextSeq + 1 } := by
  rcases ha with rfl | rfl <;> rw [State.admitOrder_of_ne_start (by simp)] <;> rfl

/-- Settles O9: neither shaping nor the point's dynamic part has a part in OPEN and RESET_FAULT. -/
theorem admittedOpenAndResetFaultCarryZero : Obligations.AdmittedOpenAndResetFaultCarryZero := by
  intro s o w st a n r row ha hs hon hn hrow hpart hplace
  have hplain : a ≠ .stop ∧ a ≠ .closePoint ∧ a ≠ .start ∧ a ≠ .gates := by
    rcases ha with rfl | rfl <;> simp
  obtain ⟨hstop, hclose, hstart, hgates⟩ := hplain
  rw [hs.exec_slot hon hn hrow ⟨hstop, hclose, hstart⟩ ⟨hpart, hplace⟩, if_neg (fun h => hgates h.1),
    s.admitOrder_plain o w st ha]

/-! ### Holds and refusals (R82, R94, R102) -/

theorem State.holdNew_zero (s : State) (o : PointTel) (p : Nat) (r : HoldReason) (c : Option BudgetClass) :
    s.holdNew o p r 0 c = s.refusedWith o r.refusal := by
  rw [State.holdNew, if_pos rfl, State.refuse_eq]

theorem State.holdNew_full {s : State} {limit : Nat} (hlimit : limit ≠ 0) (h : 32 ≤ s.held.length) (o : PointTel) (p : Nat)
    (r : HoldReason) (c : Option BudgetClass) : s.holdNew o p r limit c = s.refusedWith o .queueFull := by
  rw [State.holdNew, if_neg hlimit]
  exact (if_neg (Nat.not_lt.2 h)).trans (s.refuse_eq o .queueFull)

theorem State.holdNew_joins {s : State} {limit : Nat} (hlimit : limit ≠ 0) (h : s.held.length < 32) (o : PointTel) (p : Nat)
    (r : HoldReason) (c : Option BudgetClass) :
    s.holdNew o p r limit c =
      { s with held := s.held ++ [⟨o, some p, s.clock, s.clock + BitVec.ofNat 32 (10 * limit), r, c⟩] } := by
  rw [State.holdNew, if_neg hlimit]
  exact if_pos h

/-- Settles O10: the three outcomes of a HOLD verdict. -/
theorem heldOrderJoinsTheTail : Obligations.HeldOrderJoinsTheTail := by
  intro s o w st a h limit c hs hon hn hverdict
  rw [hs.exec_applied hon hn hverdict]
  refine ⟨fun hlimit => ?_, fun hlimit hfull => ?_, fun hlimit hroom => ?_⟩
  · subst hlimit
    exact congrArg _ (s.holdNew_zero o _ h c)
  · exact congrArg _ (State.holdNew_full hlimit hfull o _ h c)
  · exact congrArg _ (State.holdNew_joins hlimit hroom o _ h c)

/-- Settles O11: a refusal without an integrity fault is the REFUSAL telegram with the capture, at steps 1 and 2 as later. -/
theorem refusedOrderIsAnsweredAndCaptured : Obligations.RefusedOrderIsAnsweredAndCaptured := by
  refine ⟨fun s o r hs hdest => ?_, fun s o w st a r hs hon hn hverdict => ?_⟩
  · rw [hs.exec_order, State.screenNew, hdest]
    simp only []
    rw [State.refuseFault_none, State.settled_of_quiet _ (by exact hs.quiet)]
  · rw [hs.exec_applied hon hn hverdict]
    exact congrArg _ (s.refuseFault_none o r)

/-! ### The supersede (R83) -/

/-- The one record held for a point is removed and refused SUPERSEDED. -/
theorem State.supersede_eq {s : State} {p : Nat} {l1 l2 : List HeldRec} {h : HeldRec} (hheld : s.held = l1 ++ h :: l2)
    (hp : h.point = some p) (hother : ∀ x ∈ l1 ++ l2, x.point ≠ some p) :
    s.supersede p = { s.refusedWith h.tel .superseded with held := l1 ++ l2 } := by
  have hne : ∀ x ∈ l1 ++ l2, (x.point == some p) = false := fun x hx => by simpa using hother x hx
  have hfind : s.held.find? (fun x => x.point == some p) = some h := by
    rw [hheld, List.find?_append, List.find?_eq_none.2 fun x hx => by simp [hne x (List.mem_append_left _ hx)], Option.none_or,
      List.find?_cons_of_pos (by simp [hp])]
  have hfilter : s.held.filter (fun x => x.point != some p) = l1 ++ l2 := by
    rw [hheld, List.filter_append, List.filter_cons_of_neg (by simp [hp]), ← List.filter_append]
    exact List.filter_eq_self.2 fun x hx => by simpa using hother x hx
  unfold State.supersede
  rw [hfind]
  simp only [hfilter]
  rw [State.refuse_setHeld, State.refuse_eq]
  rfl

theorem State.HandsOn.of_same {s t : State} {o : PointTel} {w : Window} {st : PointStatic} {a : Action}
    (h : s.HandsOn o w st a) (hb : t.activeBank = s.activeBank) (hp : t.ports = s.ports) : t.HandsOn o w st a := by
  refine ⟨h.single, ?_, ?_, h.unguarded, ?_, h.action, h.takes⟩
  · have hcovered := h.covered
    unfold State.covering at hcovered ⊢
    rwa [hb]
  · have hport := h.portUp
    unfold State.port at hport ⊢
    rwa [hp]
  · have hstatic := h.static
    unfold State.readPoint at hstatic ⊢
    rwa [hb]

/-- Settles O12: the supersede makes the state without the record, at which the order is judged with none held for its point. -/
theorem newOrderSupersedesTheHeldOrder : Obligations.NewOrderSupersedesTheHeldOrder := by
  intro s o w st a l1 l2 h u hs hon hheld hp hother hu
  have hsupersede : s.supersede (w.logicalOf o.point.toNat) = u := (State.supersede_eq hheld hp hother).trans hu.symm
  have hscreens : u.Screens o := by
    have hdebt := s.supersede_debt_le (w.logicalOf o.point.toNat)
    rw [hsupersede] at hdebt
    subst hu
    exact ⟨hs.ready, hs.banked, hs.elsewhere, hdebt.trans_lt hs.room⟩
  have hhands : u.HandsOn o w st a := by
    subst hu
    exact hon.of_same rfl rfl
  have hnone : u.noneHeld (w.logicalOf o.point.toNat) := by
    subst hu
    exact hother
  have hsame : exec (.order o) s = exec (.order o) u := by
    rw [hs.exec_order, hscreens.exec_verdict hhands hnone, State.screenNew, hon.judged]
    simp only []
    rw [hsupersede]
  have hleft : u.held = l1 ++ l2 := by rw [hu]
  have happlied := fun v (hv : u.judgeOrder o ⟨w.logicalOf o.point.toNat, w, st, a⟩ (l1 ++ l2) = v) =>
    hsame.trans (hscreens.exec_applied hhands hnone (hleft ▸ hv))
  refine ⟨⟨hsame, hscreens, hhands, hnone⟩, fun ha => ?_, fun r limit c hv => ?_, fun r hv => ?_, fun r f hv => ?_,
    fun row c hv => ?_⟩
  · obtain ⟨hfree, hfull⟩ := stopAndCloseTakeThePriorityPath u o w st a hscreens hhands hnone ha
    refine ⟨fun hpart hlane => ?_, fun hno => ?_⟩
    · rw [hsame, hfree (by rw [hu]; exact hpart) (by rw [hu]; exact hlane), hu]
      rfl
    · rw [hsame, hfull (by rw [hu]; exact hno)]
  · rw [happlied _ hv]
    refine ⟨fun hlimit => ?_, fun hlimit hroom => ?_⟩
    · subst hlimit
      exact congrArg _ (u.holdNew_zero o _ r c)
    · refine congrArg _ ((State.holdNew_joins hlimit (by rw [hleft]; exact hroom) o _ r c).trans ?_)
      rw [hleft, hu]
      rfl
  · rw [happlied _ hv]
    exact congrArg _ (u.refuseFault_none o r)
  · rw [happlied _ hv]
    exact congrArg (fun t => Host.Outcome.next (State.activeFault t f)) (u.refuse_eq o r)
  · exact happlied _ hv

end Sys2Proof.Machine
end

section

/-! PROOF. Which window covers a station point, what steps 1 and 2 refuse, and the verdict of the first failing step among 4 to
13. -/

namespace Sys2Proof.Machine

/-! ### The search of the windows (R3) -/

/-- A search that reads the windows from number `k`, `n` of them, comes to `f`. -/
structure SearchFrom (b : Bank) (pass : Window → Bool) (k n : Nat) (f : Found) : Prop where
  window : ∀ i w, f = .window i w ↔ (k ≤ i ∧ i < k + n) ∧ (b.window i).checked = some w ∧ pass w = true ∧
    ∀ j, k ≤ j → j < i → ∃ v, (b.window j).checked = some v ∧ pass v = false
  faulty : ∀ i, f = .faulty i ↔ (k ≤ i ∧ i < k + n) ∧ (b.window i).checked = none ∧
    ∀ j, k ≤ j → j < i → ∃ v, (b.window j).checked = some v ∧ pass v = false
  absent : f = .absent ↔ ∀ j, k ≤ j → j < k + n → ∃ v, (b.window j).checked = some v ∧ pass v = false

/-- The first window is damaged: the search ends there. -/
theorem SearchFrom.damaged {b : Bank} {pass : Window → Bool} {k n : Nat} (h : (b.window k).checked = none) :
    SearchFrom b pass k (n + 1) (.faulty k) := by
  have hfirst : ∀ i, k ≤ i → (∀ j, k ≤ j → j < i → ∃ v, (b.window j).checked = some v ∧ pass v = false) → i = k := by
    intro i hi hclean
    by_contra hne
    obtain ⟨v, hv, _⟩ := hclean k le_rfl (by omega)
    rw [h] at hv
    cases hv
  refine ⟨fun i w => ⟨fun hf => (by cases hf), fun ⟨hi, hread, _, hclean⟩ => ?_⟩,
    fun i => ⟨fun hf => ?_, fun ⟨hi, _, hclean⟩ => ?_⟩, ⟨fun hf => (by cases hf), fun hclean => ?_⟩⟩
  · rw [hfirst i hi.1 hclean, h] at hread
    cases hread
  · cases hf
    exact ⟨⟨le_rfl, by omega⟩, h, fun j hj hji => by omega⟩
  · rw [hfirst i hi.1 hclean]
  · obtain ⟨v, hv, _⟩ := hclean k le_rfl (by omega)
    rw [h] at hv
    cases hv

/-- The first window passes: it is found. -/
theorem SearchFrom.found {b : Bank} {pass : Window → Bool} {k n : Nat} {w : Window} (h : (b.window k).checked = some w)
    (hp : pass w = true) : SearchFrom b pass k (n + 1) (.window k w) := by
  have hfirst : ∀ i, k ≤ i → (∀ j, k ≤ j → j < i → ∃ v, (b.window j).checked = some v ∧ pass v = false) → i = k := by
    intro i hi hclean
    by_contra hne
    obtain ⟨v, hv, hpass⟩ := hclean k le_rfl (by omega)
    rw [h] at hv
    cases hv
    rw [hp] at hpass
    cases hpass
  refine ⟨fun i v => ⟨fun hf => ?_, fun ⟨hi, hread, _, hclean⟩ => ?_⟩,
    fun i => ⟨fun hf => (by cases hf), fun ⟨hi, hread, hclean⟩ => ?_⟩, ⟨fun hf => (by cases hf), fun hclean => ?_⟩⟩
  · cases hf
    exact ⟨⟨le_rfl, by omega⟩, h, hp, fun j hj hji => by omega⟩
  · obtain rfl := hfirst i hi.1 hclean
    rw [h] at hread
    cases hread
    rfl
  · rw [hfirst i hi.1 hclean, h] at hread
    cases hread
  · exact absurd (hfirst (k + 1) (by omega) fun j hj hjk => hclean j hj (by omega)) (by omega)

/-- The first window reads good and does not pass: the search goes on. -/
theorem SearchFrom.next {b : Bank} {pass : Window → Bool} {k n : Nat} {w : Window} {f : Found}
    (h : (b.window k).checked = some w) (hp : pass w = false) (hf : SearchFrom b pass (k + 1) n f) :
    SearchFrom b pass k (n + 1) f := by
  have hclean : ∀ m, (∀ j, k ≤ j → j < m → ∃ v, (b.window j).checked = some v ∧ pass v = false) ↔
      ∀ j, k + 1 ≤ j → j < m → ∃ v, (b.window j).checked = some v ∧ pass v = false := by
    intro m
    refine ⟨fun hall j hj hm => hall j (by omega) hm, fun hall j hj hm => ?_⟩
    rcases Nat.eq_or_lt_of_le hj with rfl | hlt
    · exact ⟨w, h, hp⟩
    · exact hall j hlt hm
  have hrange : ∀ i, k ≤ i → i ≠ k → i < k + (n + 1) → k + 1 ≤ i ∧ i < k + 1 + n := fun i _ _ _ => by omega
  refine ⟨fun i v => ?_, fun i => ?_, ?_⟩
  · rw [hf.window, hclean]
    refine ⟨fun ⟨hi, hrest⟩ => ⟨by omega, hrest⟩, fun ⟨hi, hread, hpass, hrest⟩ => ⟨hrange i hi.1 ?_ hi.2, hread, hpass, hrest⟩⟩
    rintro rfl
    rw [h] at hread
    cases hread
    rw [hp] at hpass
    cases hpass
  · rw [hf.faulty, hclean]
    refine ⟨fun ⟨hi, hrest⟩ => ⟨by omega, hrest⟩, fun ⟨hi, hread, hrest⟩ => ⟨hrange i hi.1 ?_ hi.2, hread, hrest⟩⟩
    rintro rfl
    rw [h] at hread
    cases hread
  · rw [hf.absent, hclean, show k + (n + 1) = k + 1 + n by omega]

theorem findWindow_from (b : Bank) (pass : Window → Bool) (k n : Nat) :
    SearchFrom b pass k n (findWindow b pass (List.range' k n)) := by
  induction n generalizing k with
  | zero =>
    refine ⟨fun i w => ⟨fun hf => (by cases hf), fun h => ?_⟩, fun i => ⟨fun hf => (by cases hf), fun h => ?_⟩,
      ⟨fun _ j _ _ => ?_, fun _ => rfl⟩⟩ <;> omega
  | succ n ih =>
    rw [List.range'_succ, findWindow]
    split
    next h => exact .damaged h
    next w h =>
      split
      next hp => exact .found h hp
      next hp => exact .next h (Bool.eq_false_iff.2 hp) (ih (k + 1))

/-- What a search of all 32 windows comes to. -/
theorem State.searchFinds_range (s : State) (pass : Window → Bool) :
    searchFinds s (fun w => pass w = true) (findWindow s.activeBank pass (List.range 32)) := by
  have hsearch := findWindow_from s.activeBank pass 0 32
  rw [← List.range_eq_range'] at hsearch
  refine ⟨fun i w => ?_, fun i => ?_, ?_⟩
  · rw [hsearch.window]
    simp [State.readWindow]
  · rw [hsearch.faulty]
    simp [State.readWindow]
  · rw [hsearch.absent]
    simp [State.readWindow]

theorem Window.covers_iff (w : Window) (station : Byte) (point : Word) :
    w.covers station.toNat point.toNat = true ↔ coversPoint w station point := by
  simp [Window.covers, coversPoint, and_assoc]

/-! ### Steps 1 and 2 (R84, R85) -/

theorem PointClass.takes_eq (c : PointClass) (a : Action) :
    c.takes a = decide ((c, a) ∈
      [(PointClass.drive, Action.start), (.drive, .stop), (.drive, .resetFault), (.valve, .openPoint),
       (.valve, .closePoint), (.valve, .resetFault), (.setpoint, .set), (.gateset, .gates), (.gateset, .resetFault)]) := by
  cases c <;> cases a <;> rfl

theorem Action.ofCode_eq_none {b : Byte} (h : 6 < b.toNat) : Action.ofCode b = none := by
  unfold Action.ofCode
  split
  iterate 7 · omega
  · rfl

theorem State.judgeDestination_window {s : State} {o : PointTel} {i : Nat} {w : Window} (hdest : o.dest ≠ 255)
    (h : s.covering o.dest o.point = .window i w) :
    s.judgeDestination o =
      if (s.port (.dn w.port)).state ≠ .up then .refused .noRoute none
      else if w.guarded then .refused .isProtected none
      else s.judgeClass o w := by
  rw [State.judgeDestination, if_neg hdest, h]

/-- Settles O13: the search by induction on the windows left to read, steps 1 and 2 by their tests in order. -/
theorem destinationAndClassAreJudgedFirst : Obligations.DestinationAndClassAreJudgedFirst := by
  refine ⟨fun s station point => ?_, fun s o => ⟨fun hdest => ?_, fun hdest hfound => ?_, fun i hdest hfound => ?_,
    fun i w hdest hfound => ⟨fun hport => ?_, fun hport hguarded => ?_, fun hport hguarded => ⟨fun st hstatic =>
      ⟨fun a ha => ⟨st.cls.takes_eq a, fun htakes => ?_, fun htakes => ?_⟩, fun hcode => ?_⟩, fun hstatic => ?_⟩⟩⟩⟩
  · have hcovers : (fun w => coversPoint w station point) = fun w => w.covers station.toNat point.toNat = true := by
      funext w
      exact propext (w.covers_iff station point).symm
    rw [hcovers]
    exact s.searchFinds_range _
  · rw [State.judgeDestination, if_pos hdest]
  · rw [State.judgeDestination, if_neg hdest, hfound]
  · rw [State.judgeDestination, if_neg hdest, hfound]
  · rw [State.judgeDestination_window hdest hfound, if_pos hport]
  · rw [State.judgeDestination_window hdest hfound, if_neg (not_not.2 hport), if_pos hguarded]
  · rw [State.judgeDestination_window hdest hfound, if_neg (not_not.2 hport), if_neg (by simp [hguarded])]
    simp [State.judgeClass, hstatic, ha, htakes]
  · rw [State.judgeDestination_window hdest hfound, if_neg (not_not.2 hport), if_neg (by simp [hguarded])]
    simp [State.judgeClass, hstatic, ha, htakes]
  · rw [State.judgeDestination_window hdest hfound, if_neg (not_not.2 hport), if_neg (by simp [hguarded])]
    simp [State.judgeClass, hstatic, Action.ofCode_eq_none hcode]
  · rw [State.judgeDestination_window hdest hfound, if_neg (not_not.2 hport), if_neg (by simp [hguarded])]
    simp [State.judgeClass, hstatic]

/-! ### Steps 4 to 8 (R87 to R89) -/

/-- An order neither STOP nor CLOSE, in SCREENING with a new tag, of a section: it goes on to step 6. -/
theorem State.judgeOrder_of_newTag {s : State} {o : PointTel} {a : Addressed} {n : Nat} (hstop : a.action ≠ .stop)
    (hclose : a.action ≠ .closePoint) (hmode : s.mode = .screening)
    (htag : ∀ e ∈ s.entries, ¬ (s.entrySource e = o.src ∧ e.dest = o.dest ∧ e.tag = o.tag ∧ e.point = o.point))
    (hsect : a.static.sect = some n) (ahead : List HeldRec) :
    s.judgeOrder o a ahead =
      match s.readSection n with
      | none => .refuse .failHold (some ⟨.sections, n⟩)
      | some r => s.judgeRow a n r ahead := by
  have hnew : s.entries.any (s.sameOrder o) = false := by
    simp only [List.any_eq_false]
    intro e he
    simpa [State.sameOrder] using htag e he
  unfold State.judgeOrder
  rw [if_neg (by simp [hstop, hclose]), if_neg (by simp [hmode]), hnew, hsect]
  rfl

theorem orderClass_eq (a : Action) (r : SectionRec) :
    orderClass a r.role = if a = .start then some (budgetClassOf r) else none := by
  rw [orderClass, Role.budgetClass_eq]

/-- The reads of a condition set stop at the first faulty entry. -/
theorem State.find_fault {s : State} {l l1 l2 : List EntryRef} {f : EntryRef} (h : l = l1 ++ f :: l2)
    (hgood : ∀ e ∈ l1, s.activeBank.entryGood e = true) (hbad : s.activeBank.entryGood f = false) :
    l.find? (fun e => !s.activeBank.entryGood e) = some f := by
  rw [h, List.find?_append, List.find?_eq_none.2 fun e he => by simp [hgood e he], Option.none_or,
    List.find?_cons_of_pos (by simp [hbad])]

theorem State.find_no_fault {s : State} {l : List EntryRef} (h : ∀ e ∈ l, s.activeBank.entryGood e = true) :
    l.find? (fun e => !s.activeBank.entryGood e) = none :=
  List.find?_eq_none.2 fun e he => by simp [h e he]

/-- Step 6 passes on an order whose row reads good and passes, with a condition set that reads good. -/
theorem State.judgeRow_of_good {s : State} {a : Addressed} {n : Nat} {r : SectionRec} {row : ScreenRow}
    (hrow : s.readRow (rowIndex r.profile (s.phaseOf n) a.action) = some row) (hpass : row.base = .pass)
    (hgood : ∀ e ∈ s.optSetReads row.condSet, s.activeBank.entryGood e = true) (ahead : List HeldRec) :
    s.judgeRow a n r ahead =
      if s.setHoldsOr true row.condSet then s.judgeBusy a row r.role ahead
      else .hold .condition row.holdLimit (orderClass a.action r.role) := by
  unfold State.judgeRow
  simp only [hrow, hpass, State.find_no_fault hgood]
  rfl

theorem State.isBusy_of_entry {s : State} {p : Nat} (h : ∃ e ∈ s.entries, e.part = .general ∧ e.logical = some p) :
    s.isBusy p = true := by
  simpa [State.isBusy] using h

/-! ### Steps 9 to 13 (R90 to R93) -/

theorem State.judgeSlot_of_full {s : State} {a : Addressed}
    (h : 48 ≤ s.partCount .general ∨ 16 ≤ (s.lane a.window.port .general).length) (row : ScreenRow) (c : Option BudgetClass) :
    s.judgeSlot a row c = .hold .noSlot row.holdLimit c := by
  simp [State.judgeSlot, State.generalFree_eq_false h]

theorem State.hasBudget_of_not {s : State} {r : SectionRec} {cost : Nat}
    (h : if r.role = .utility then s.remaining < cost else s.remaining < cost + s.unusedReserve) : ¬ s.hasBudget r cost := by
  unfold State.hasBudget
  split_ifs at h ⊢ <;> omega

/-- Settles O14: each step's verdict, with the steps before it passed. -/
theorem verdictIsThatOfTheFirstFailingStep : Obligations.VerdictIsThatOfTheFirstFailingStep := by
  intro s o w p st a ahead hstop hclose
  have hpath : ¬ ((⟨p, w, st, a⟩ : Addressed).action = .stop ∨ (⟨p, w, st, a⟩ : Addressed).action = .closePoint) := by
    simp [hstop, hclose]
  refine ⟨fun hmode => ?_, fun hmode hdup => ?_, fun n hmode htag hsect => ?_, fun n r row hrow ha => ?_,
    fun n r row hrow ha hfull => ?_, fun n r row hrow ha hpart hlane hstale hkept => ?_⟩
  · rw [State.judgeOrder, if_neg hpath, if_pos hmode]
  · have hany : s.entries.any (s.sameOrder o) = true := by
      simpa [State.sameOrder, and_assoc] using hdup
    rw [State.judgeOrder, if_neg hpath, if_neg (by simp [hmode]), if_pos hany]
  · rw [State.judgeOrder_of_newTag (a := ⟨p, w, st, a⟩) hstop hclose hmode htag hsect ahead]
    refine ⟨fun hnone => by rw [hnone], fun r hr hnone => ?_, fun r row hr hread => ⟨fun hbase => ?_,
      fun l1 f l2 hpass hl hgood hbad => ?_, fun hpass hgood hfalse => ?_, fun hpass hgood htrue hbusy => ?_⟩⟩
    · rw [hr]
      simp only [State.judgeRow, hnone]
    · rw [hr]
      simp only [State.judgeRow, hread, if_pos hbase]
    · rw [hr]
      simp only [State.judgeRow, hread, hpass, State.find_fault hl hgood hbad]
      rfl
    · rw [hr]
      simp only []
      rw [State.judgeRow_of_good (a := ⟨p, w, st, a⟩) hread hpass hgood, hfalse]
      exact congrArg (Verdict.hold .condition row.holdLimit) (orderClass_eq a r)
    · rw [hr]
      simp only []
      rw [State.judgeRow_of_good (a := ⟨p, w, st, a⟩) hread hpass hgood, htrue, if_pos rfl, State.judgeBusy,
        if_pos (State.isBusy_of_entry hbusy)]
      exact congrArg _ (orderClass_eq a r)
  · rw [hrow.judged hstop hclose, if_pos ha, Role.budgetClass_eq]
    refine ⟨fun hlimit htally => ?_, fun htally => ⟨fun hb => ?_, fun b hb => ⟨fun hload => ?_, fun hload hbudget => ?_,
      fun hload hbudget hlane hfull => ?_⟩⟩⟩
    · rw [State.judgeStart, if_pos ⟨hlimit, htally⟩]
    · rw [State.judgeStart_of_no_budget (a := ⟨p, w, st, a⟩) htally hb]
    · rw [State.judgeStart_of_budget (a := ⟨p, w, st, a⟩) htally hb, if_pos hload]
    · rw [State.judgeStart_of_budget (a := ⟨p, w, st, a⟩) htally hb, if_neg (Nat.not_lt.2 hload), if_pos]
      rw [Bool.or_eq_true, laneWaits_iff, Bool.not_eq_true', ← Bool.not_eq_true, State.budgetPasses_iff]
      exact hbudget.imp_left State.hasBudget_of_not
    · rw [State.judgeStart_passes (a := ⟨p, w, st, a⟩) htally hb hload hbudget hlane]
      exact State.judgeSlot_of_full (a := ⟨p, w, st, a⟩) hfull row _
  · rw [hrow.judged hstop hclose, if_neg ha]
    exact State.judgeSlot_of_full (a := ⟨p, w, st, a⟩) hfull row _
  · obtain ⟨i, hi, hgate⟩ := hkept
    have hall : row.gates ≠ 0xFFFF := fun h => by simp [(releasesAllGates_iff row.gates).1 h i hi] at hgate
    rw [hrow.judged hstop hclose, if_neg (by simp [ha]),
      State.judgeSlot_of_free (a := ⟨p, w, st, a⟩) ((s.generalFree_iff w.port).2 ⟨hpart, hlane⟩), if_pos ⟨ha, hstale, hall⟩]

end Sys2Proof.Machine
end

section

/-! PROOF. The UP transmit queue, reports that are only forwarded, replies, telegrams in TRANSPARENT, and what is discarded. -/

namespace Sys2Proof.Machine

/-! ### The UP transmit queue (R160, R161) -/

theorem UpItem.isReport_iff (u : UpItem) : u.isReport = true ↔ holdsReport u := by
  unfold UpItem.isReport holdsReport
  cases u.content <;> simp

theorem hasKey_iff (r : PointTel) (u : UpItem) : UpItem.hasKey r.src r.point u = true ↔ sameKey r u := by
  unfold UpItem.hasKey sameKey
  cases u.content <;> simp

theorem reportCount_eq_reportsIn (q : List UpItem) : reportCount q = reportsIn q := by
  have hreport : UpItem.isReport = fun x : UpItem => match x.content with | .report _ => true | _ => false := by
    funext u
    unfold UpItem.isReport
    cases u.content <;> rfl
  exact congrArg (fun f => (q.filter f).length) hreport

theorem reportCount_append_report (q : List UpItem) (r : PointTel) : reportCount (q ++ [⟨.report r, false⟩]) = reportCount q + 1 := by
  rw [reportCount, List.filter_append, List.length_append]
  rfl

/-- A queue with a report splits at its oldest report, which gives way. -/
theorem oldestGivesWay_discard {q : List UpItem} (h : ∃ y ∈ q, holdsReport y) : oldestGivesWay q (discardOldestReport q) := by
  obtain ⟨y, hy, hreport⟩ := h
  obtain ⟨x, l1, l2, hnone, hx, hq, herase⟩ := List.exists_of_eraseP hy ((UpItem.isReport_iff y).2 hreport)
  exact ⟨l1, x, l2, hq, (UpItem.isReport_iff x).1 hx, fun z hz hr => hnone z hz ((UpItem.isReport_iff z).2 hr), herase⟩

theorem map_replaceReport_of_no_key {r : PointTel} {l : List UpItem} (h : ∀ y ∈ l, ¬ sameKey r y) :
    l.map (replaceReport r) = l := by
  conv_rhs => rw [← List.map_id l]
  exact List.map_congr_left fun y hy => if_neg fun hkey => h y hy ((hasKey_iff r y).1 hkey)

theorem upReport_replaces {q l1 l2 : List UpItem} {x : UpItem} {r : PointTel} (hq : q = l1 ++ x :: l2) (hx : sameKey r x)
    (hother : ∀ y ∈ l1 ++ l2, ¬ sameKey r y) : upReport q r = l1 ++ { x with content := .report r } :: l2 := by
  have hkey := (hasKey_iff r x).2 hx
  have hany : q.any (UpItem.hasKey r.src r.point) = true := List.any_eq_true.2 ⟨x, by rw [hq]; simp, hkey⟩
  rw [upReport_eq, if_pos hany, hq, List.map_append, List.map_cons,
    map_replaceReport_of_no_key fun y hy => hother y (List.mem_append_left _ hy),
    map_replaceReport_of_no_key fun y hy => hother y (List.mem_append_right _ hy), replaceReport, if_pos hkey]

theorem upReport_joins {q : List UpItem} {r : PointTel} (h : ∀ y ∈ q, ¬ sameKey r y) :
    upReport q r =
      if reportCount q + 1 > 48 ∨ q.length + 1 > 128 then discardOldestReport (q ++ [⟨.report r, false⟩])
      else q ++ [⟨.report r, false⟩] := by
  have hany : ¬ q.any (UpItem.hasKey r.src r.point) = true := fun hany => by
    obtain ⟨y, hy, hkey⟩ := List.any_eq_true.1 hany
    exact h y hy ((hasKey_iff r y).1 hkey)
  rw [upReport_eq, if_neg hany, reportCount_append_report, List.length_append, List.length_singleton]

theorem upJoin_eq (q : List UpItem) (c : UpContent) :
    upJoin q c = if q.length + 1 > 128 then discardOldestReport (q ++ [⟨c, false⟩]) else q ++ [⟨c, false⟩] := by
  unfold upJoin
  simp only [List.length_append, List.length_singleton]
  rfl

theorem fillPlace_oldest {q l1 l2 : List UpItem} {x : UpItem} (m : MgmtTel) (hq : q = l1 ++ x :: l2) (hx : x.content = .place)
    (hother : ∀ y ∈ l1, y.content ≠ .place) : fillPlace q m = l1 ++ { x with content := .response m } :: l2 := by
  subst hq
  induction l1 with
  | nil => simp [fillPlace, UpItem.isPlace, hx]
  | cons y l ih =>
    have hy := hother y List.mem_cons_self
    rw [List.cons_append, fillPlace, if_neg (by simpa [UpItem.isPlace] using hy),
      ih fun z hz => hother z (List.mem_cons_of_mem _ hz)]
    rfl

/-! ### Reports that are only forwarded (R11, R14) -/

/-- Nothing is imaged for a report of a code that is no state of the point's class. -/
theorem State.reportPoint_of_class {s : State} {p : Nat} {t : PointTel} {st : PointStatic} (h : s.readPoint p = some st)
    (hcls : ∀ rs, ReportState.ofCode t.code = some rs → rs.cls ≠ st.cls) : s.reportPoint p t = s := by
  unfold State.readPoint Stored.checked at h
  split_ifs at h with hgood
  obtain rfl := Option.some.inj h
  have hchecked : s.checkReads [⟨.points, p⟩] = s := State.checkReads_of_good s _ fun e he => by
    obtain rfl := List.mem_singleton.1 he
    exact hgood
  unfold State.reportPoint
  simp only [hgood, if_true]
  cases hcode : ReportState.ofCode t.code with
  | none => exact hchecked
  | some rs =>
    have hne : (true && rs.cls == (s.activeBank.pointStatic p).content.cls) = false := by simpa using hcls rs hcode
    simp only [hne, Bool.false_eq_true, if_false]
    exact hchecked

theorem State.settled_pushReport {s : State} (h : s.agenda = []) (r : PointTel) : (s.pushReport r).settled = s.pushReport r :=
  State.settled_of_quiet _ h

/-- Settles O16: nothing is imaged, and the queue takes each kind of content as its rule says. -/
theorem uncoveredReportIsOnlyForwarded : Obligations.UncoveredReportIsOnlyForwarded := by
  refine ⟨fun s d r hready hbanked hreport => ?_, fun q l1 l2 x r hq hx hother => upReport_replaces hq hx hother,
    fun q r hnone => ⟨fun hreports hlen => ?_, fun hfull => ?_⟩, fun q c hc => ⟨fun hlen => ?_, fun hlen hreport => ?_⟩,
    fun q l1 l2 x m hq hx hother => fillPlace_oldest m hq hx hother⟩
  · obtain ⟨⟨_, hquiet⟩, _⟩ := id hready
    have htaken : s.takeReport d r = s.pushReport r := by
      unfold State.takeReport
      rcases hreport with habsent | ⟨i, w, hfound, hport⟩ | ⟨i, w, st, hfound, hstatic, hcls⟩
      · rw [habsent]
      · rw [hfound]
        simp only []
        rw [if_neg hport]
      · rw [hfound]
        simp only []
        rw [State.reportPoint_of_class hstatic hcls, ite_self]
    simp only [exec, execReport]
    rw [State.arriveDn_ready s d _ hready, if_neg hbanked]
    simp only []
    rw [htaken, State.settled_pushReport hquiet]
    rfl
  · rw [upReport_joins hnone, if_neg (by rw [reportCount_eq_reportsIn]; omega)]
  · rw [upReport_joins hnone, if_pos (by rw [reportCount_eq_reportsIn]; omega)]
    exact oldestGivesWay_discard ⟨⟨.report r, false⟩, by simp, r, rfl⟩
  · rw [upJoin_eq, if_neg (by omega)]
  · rw [upJoin_eq, if_pos (by omega)]
    obtain ⟨y, hy, hr⟩ := hreport
    exact oldestGivesWay_discard ⟨y, List.mem_append_left _ hy, hr⟩

/-! ### Replies (R141 to R144) -/

theorem Entry.isQueued_eq_false_iff (e : Entry) : e.isQueued = false ↔ ∃ k, e.lane = .sent k := by
  unfold Entry.isQueued
  cases e.lane <;> simp

theorem State.replyMatches_iff (s : State) (t : PointTel) (e : Entry) :
    s.replyMatches t e = true ↔
      (∃ k, e.lane = .sent k) ∧ t.dest = s.entrySource e ∧ t.src = e.dest ∧ t.point = e.point ∧ t.tag = e.tag := by
  unfold State.replyMatches
  rw [← Entry.isQueued_eq_false_iff]
  simp only [Bool.and_eq_true, Bool.not_eq_true', beq_iff_eq]
  tauto

/-- Under the law of the creation order an entry is freed alone. -/
theorem State.freeEntry_eq {s : State} {l1 l2 : List Entry} {e : Entry} (hlaw : s.PledgeLaw) (h : s.entries = l1 ++ e :: l2) :
    s.freeEntry e = { s with entries := l1 ++ l2, pledgeSum := s.pledgeSum - e.pledged } := by
  have horder := hlaw.order
  rw [h] at horder
  obtain ⟨_, hright, hleft⟩ := List.pairwise_append.1 horder
  have hfilter : s.entries.filter (fun x => x.seq != e.seq) = l1 ++ l2 := by
    rw [h, List.filter_append, List.filter_cons_of_neg (by simp), ← List.filter_append]
    refine List.filter_eq_self.2 fun x hx => ?_
    rcases List.mem_append.1 hx with hx | hx
    · have hlt := hleft x hx e List.mem_cons_self
      simpa using hlt.ne
    · have hlt := (List.pairwise_cons.1 hright).1 x hx
      simpa using hlt.ne'
  unfold State.freeEntry
  rw [hfilter]

theorem Entry.scans_of_sent {e : Entry} (h : e.isQueued = false) : e.scans = removalScansOf e := by
  unfold Entry.scans removalScansOf
  rw [h, if_neg Bool.false_ne_true]
  split_ifs <;> rfl

theorem State.offerNotice_addTasks (s : State) (l : List Task) (k : NoticeKind) (n p : Option Nat) (c : Cause) :
    (s.addTasks l).offerNotice k n p c = (s.offerNotice k n p c).addTasks l := by
  unfold State.offerNotice
  have hsame : (s.addTasks l).noticeMask = s.noticeMask ∧ (s.addTasks l).upQueue = s.upQueue ∧ (s.addTasks l).debt = s.debt :=
    ⟨rfl, rfl, rfl⟩
  obtain ⟨hmask, hqueue, hdebt⟩ := hsame
  rw [hmask, hqueue, hdebt]
  split_ifs <;> rfl

theorem State.tripReplied_addTasks (s : State) (l : List Task) (n : Nat) (p : Option Nat) (o : ReplyOutcome) :
    (s.addTasks l).tripReplied n p o = (s.tripReplied n p o).addTasks l := by
  unfold State.tripReplied
  cases o
  · rfl
  · exact s.offerNotice_addTasks l _ _ _ _
  · exact s.offerNotice_addTasks l _ _ _ _

theorem forwardedReply_clear (t : PointTel) (shaped : Bool) :
    forwardedReply t shaped false = { t with flags := if shaped then 1 else 0 } := by
  cases shaped <;> rfl

theorem forwardedReply_late (t : PointTel) (shaped : Bool) :
    forwardedReply t shaped true = { t with flags := if shaped then 3 else 2 } := by
  cases shaped <;> rfl

/-- What a matched reply makes of the state without the entry. -/
def State.repliedTo (b : State) (t : PointTel) (o : ReplyOutcome) (e : Entry) : State :=
  match e.origin with
  | .supervisory _ => b.pushUp (.answer (.point .reply (forwardedReply t e.shaped false)))
  | .part n => b.tripReplied n e.logical o

theorem State.matchedReply_eq (s : State) (t : PointTel) (o : ReplyOutcome) (e : Entry) :
    s.matchedReply t o e = ((s.freeEntry e).repliedTo t o e).addTasks e.scans := by
  unfold State.matchedReply State.repliedTo
  rw [State.removeEntry_eq]
  cases e.origin with
  | supervisory src => rfl
  | part n => exact State.tripReplied_addTasks _ _ _ _ _

@[simp] theorem State.repliedTo_agenda (b : State) (t : PointTel) (o : ReplyOutcome) (e : Entry) :
    (b.repliedTo t o e).agenda = b.agenda := by
  unfold State.repliedTo State.tripReplied
  split
  · rfl
  · split
    · rfl
    · exact State.offerNotice_agenda _ _ _ _ _

@[simp] theorem State.repliedTo_held (b : State) (t : PointTel) (o : ReplyOutcome) (e : Entry) :
    (b.repliedTo t o e).held = b.held := by
  unfold State.repliedTo State.tripReplied
  split
  · rfl
  · split
    · rfl
    · rw [State.offerNotice_frame]

theorem State.find_reply {s : State} {t : PointTel} {l1 l2 : List Entry} {e : Entry} (h : s.entries = l1 ++ e :: l2)
    (hmatch : s.replyMatches t e = true) (hfirst : ∀ x ∈ l1, s.replyMatches t x = false) :
    s.entries.find? (s.replyMatches t) = some e :=
  List.find?_eq_some_iff_append.2 ⟨hmatch, l1, l2, h, fun x hx => by rw [hfirst x hx]; rfl⟩

theorem removalScansOf_scans {e : Entry} {t : Task} (h : t ∈ removalScansOf e) : t = .scan := by
  unfold removalScansOf at h
  split_ifs at h <;> simpa using h

/-- Settles O17: the oldest entry that matches goes alone, and the scans that its removal starts are all the event has left. -/
theorem matchedReplyRemovesTheOldestEntry : Obligations.MatchedReplyRemovesTheOldestEntry := by
  refine ⟨fun s t e => ?_, fun s d t o l1 l2 e hready hbanked hlaw hcode hentries hmatch hfirst => ?_⟩
  · exact s.replyMatches_iff t e
  · obtain ⟨⟨_, hquiet⟩, _⟩ := id hready
    have hsent := (Entry.isQueued_eq_false_iff e).2 ((s.replyMatches_iff t e).1 hmatch).1
    have hfree := State.freeEntry_eq hlaw hentries
    generalize hu : (s.freeEntry e).repliedTo t o e = u
    have hagenda : u.agenda = [] := by
      rw [← hu, State.repliedTo_agenda, hfree]
      exact hquiet
    have hheld : u.held = s.held := by rw [← hu, State.repliedTo_held, hfree]
    have htaken : s.takeReply d t = { u with agenda := removalScansOf e } := by
      unfold State.takeReply
      rw [hcode]
      simp only []
      rw [State.find_reply hentries hmatch hfirst]
      simp only []
      rw [State.matchedReply_eq, hu, Entry.scans_of_sent hsent, State.addTasks, hagenda]
      rfl
    have hexec : exec (.reply d t) s = .next ({ u with agenda := removalScansOf e } : State).settled := by
      simp only [exec, execReply]
      rw [State.arriveDn_ready s d _ hready, if_neg hbanked]
      simp only []
      rw [htaken]
    refine ⟨u, fun src horigin => ?_, fun n horigin hdone => ?_, fun n horigin hdone => ?_, hexec, fun hnone => ?_⟩
    · rw [← hu, State.repliedTo, horigin, hfree]
      simp only []
      rw [forwardedReply_clear]
      rfl
    · rw [← hu, State.repliedTo, horigin, hfree, hdone]
      rfl
    · rw [← hu, State.repliedTo, horigin, hfree]
      cases o
      · exact absurd rfl hdone
      · rfl
      · rfl
    · rw [hexec, State.settled_of_inert]
      · refine congrArg _ ?_
        show u.setAgenda [] = u
        rw [← hagenda]
        rfl
      · intro x hx
        rw [removalScansOf_scans hx]
        show u.held.isEmpty = true
        rw [hheld, hnone]
        rfl

/-- Settles O18: a reply that no entry is found for is a late one. -/
theorem unmatchedReplyIsForwardedLate : Obligations.UnmatchedReplyIsForwardedLate := by
  intro s d t hready hbanked hnone
  obtain ⟨⟨_, hquiet⟩, _⟩ := id hready
  have hlate : s.takeReply d t = s.lateReply d t := by
    unfold State.takeReply
    rcases hnone with hcode | hmatch
    · rw [hcode]
    · have hfind : s.entries.find? (s.replyMatches t) = none := List.find?_eq_none.2 fun e he => by simp [hmatch e he]
      rw [hfind]
      cases ReplyOutcome.ofCode t.code <;> rfl
  have hexec : exec (.reply d t) s = .next (s.lateReply d t).settled := by
    simp only [exec, execReply]
    rw [State.arriveDn_ready s d _ hready, if_neg hbanked]
    simp only []
    rw [hlate]
  refine ⟨fun hdebt => ?_, fun hdebt => ?_⟩
  · rw [hexec, State.lateReply, if_pos (show s.debt < Config.debtLimit from hdebt), State.settled_pushUp hquiet,
      forwardedReply_late]
    rfl
  · rw [hexec, State.lateReply, if_neg (show ¬ s.debt < Config.debtLimit from Nat.not_lt.2 hdebt), State.latchReceiveRefused,
      State.settled_setPort hquiet]

/-! ### Telegrams in TRANSPARENT (R158) -/

theorem State.repeatOn_frame (t : Telegram) (s : State) (d : DnPort) :
    State.repeatOn t s d = { s with ports := (State.repeatOn t s d).ports } := by
  unfold State.repeatOn
  simp only []
  split_ifs <;> rfl

/-- A port after a telegram is offered to its repeat lane. -/
def Port.repeated (t : Telegram) (v : Port) : Port :=
  if v.state = .up ∧ v.repeatLane.length < 16 then { v with repeatLane := v.repeatLane ++ [t] } else v

theorem State.repeatOn_port (t : Telegram) (s : State) (d : DnPort) (q : PortId) :
    (State.repeatOn t s d).port q = if q = .dn d then (s.port q).repeated t else s.port q := by
  unfold State.repeatOn Port.repeated
  simp only []
  split_ifs with hroom hq hup hq hup
  · subst hq
    rw [State.port_setPort, if_pos rfl]
  · subst hq
    exact absurd hroom hup
  · rw [State.port_setPort, if_neg hq]
  · subst hq
    exact absurd hup hroom
  · rfl
  · rfl

theorem State.repeatDown_frame (s : State) (t : Telegram) : s.repeatDown t = { s with ports := (s.repeatDown t).ports } := by
  have hfold : ∀ (l : List DnPort) (s : State),
      l.foldl (State.repeatOn t) s = { s with ports := (l.foldl (State.repeatOn t) s).ports } := by
    intro l
    induction l with
    | nil => exact fun s => rfl
    | cons d l ih =>
      intro s
      rw [List.foldl_cons, ih, State.repeatOn_frame t s d]
  exact hfold allDnPorts s

theorem State.repeatDown_port (s : State) (t : Telegram) (q : PortId) :
    (s.repeatDown t).port q = match q with
      | .up => s.port .up
      | .dn d => (s.port (.dn d)).repeated t := by
  unfold State.repeatDown allDnPorts
  simp only [List.foldl_cons, List.foldl_nil, State.repeatOn_port]
  cases q with
  | up => simp
  | dn d => cases d <;> simp

/-- Settles O19: the four repeat lanes are offered the telegram in turn, and a DN telegram is forwarded by its kind. -/
theorem transparentTelegramsAreRepeatedAndForwarded : Obligations.TransparentTelegramsAreRepeatedAndForwarded := by
  refine ⟨fun s t hready hmode hdest => ?_, fun s d hready hmode => ⟨fun r => ?_, fun t ht => ?_⟩⟩
  · obtain ⟨⟨_, hquiet⟩, _⟩ := id hready
    refine ⟨s.repeatDown t, ?_, s.repeatDown_frame t, s.repeatDown_port t .up, fun d => s.repeatDown_port t (.dn d)⟩
    simp only [exec, execTransparentRepeat]
    rw [State.arriveUp_ready s _ hready, if_neg hdest, if_pos hmode, State.settled_of_quiet]
    rw [State.repeatDown_frame]
    exact hquiet
  · obtain ⟨⟨_, hquiet⟩, _⟩ := id hready
    simp only [exec, execTransparentForward]
    rw [State.arriveDn_ready s d _ hready, if_pos hmode]
    simp only [State.forwardUp]
    rw [State.settled_pushReport hquiet]
    rfl
  · obtain ⟨⟨_, hquiet⟩, _⟩ := id hready
    have hforward : s.forwardUp d t =
        if s.debt < Config.debtLimit then s.pushUp (.answer t) else s.latchReceiveRefused (.dn d) := by
      unfold State.forwardUp
      split
      next r => exact absurd rfl (ht r)
      next => rfl
    have hexec : exec (.transparentForward d t) s = .next (s.forwardUp d t).settled := by
      simp only [exec, execTransparentForward]
      rw [State.arriveDn_ready s d _ hready, if_pos hmode]
    refine ⟨fun hdebt => ?_, fun hdebt => ?_⟩
    · rw [hexec, hforward, if_pos (show s.debt < Config.debtLimit from hdebt), State.settled_pushUp hquiet]
      rfl
    · rw [hexec, hforward, if_neg (show ¬ s.debt < Config.debtLimit from Nat.not_lt.2 hdebt), State.latchReceiveRefused,
        State.settled_setPort hquiet]

/-! ### What is discarded (R150, R153, R158, R159) -/

theorem State.arrive_of_not_up {s : State} {p : PortId} (h : (s.port p).state ≠ .up) (t : Telegram) : s.arrive p t = s := by
  cases p with
  | up => simp only [State.arrive, State.arriveUp, if_pos h, ite_self]
  | dn d => simp only [State.arrive, State.arriveDn, if_pos h, ite_self]

/-- A telegram addressed to the part that is no request is not taken. -/
theorem State.arriveUp_own {s : State} {t : Telegram} (ht : ∀ m, t ≠ .mgmt .request m) (hdest : destOf t = s.station) :
    s.arriveUp t = s := by
  unfold State.arriveUp
  rw [if_pos hdest]
  split_ifs
  · rfl
  · rfl
  · split
    next m => exact absurd rfl (ht m)
    next => rfl

/-- A telegram addressed elsewhere that is no order is not taken while a bank is active. -/
theorem State.arriveUp_other {s : State} {t : Telegram} (hbanked : s.banked) (ht : ∀ o, t ≠ .point .order o)
    (hdest : destOf t ≠ s.station) : s.arriveUp t = s := by
  unfold State.arriveUp
  rw [if_neg hdest, if_neg hbanked]
  split_ifs
  · rfl
  · rfl
  · split
    next o => exact absurd rfl (ht o)
    next => rfl

theorem State.arriveDn_untaken {s : State} {d : DnPort} {t : Telegram} (hbanked : s.banked) (hreport : ∀ r, t ≠ .point .report r)
    (hreply : ∀ r, t ≠ .point .reply r) : s.arriveDn d t = s := by
  unfold State.arriveDn
  split_ifs with hreset hport hmode
  · rfl
  · rfl
  · exact absurd hmode hbanked
  · split
    next r => exact absurd rfl (hreport r)
    next r => exact absurd rfl (hreply r)
    next => rfl

theorem State.receive_bad {s : State} {p : PortId} {rx : Reception} (h : s.portReady p) (hrx : Reception.telegram rx = none) :
    s.receive p rx = s.latchCheckError p := by
  obtain ⟨⟨hreset, _⟩, hup⟩ := h
  unfold State.receive
  rw [if_neg (by simp [hreset]), if_neg (by simp [hup]), hrx]

theorem State.receive_good {s : State} {p : PortId} {rx : Reception} {t : Telegram} (h : s.portReady p)
    (hrx : Reception.telegram rx = some t) : s.receive p rx = s.arrive p t := by
  obtain ⟨⟨hreset, _⟩, hup⟩ := h
  unfold State.receive
  rw [if_neg (by simp [hreset]), if_neg (by simp [hup]), hrx]

theorem State.station_toNat (s : State) : s.station.toNat = 240 + s.straps.toNat := by
  have hstraps := s.straps.isLt
  unfold State.station
  rw [BitVec.toNat_add, BitVec.toNat_setWidth]
  show (240 + s.straps.toNat % 256) % 256 = _
  omega

/-- Settles O20: a discarded telegram leaves the state, and a bad reception latches its flag. -/
theorem untakenTelegramsAndBadReceptionsAreDiscarded : Obligations.UntakenTelegramsAndBadReceptionsAreDiscarded := by
  have hdiscarded : ∀ {s : State} {p : PortId} {t : Telegram}, s.atRest → s.arrive p t = s →
      exec (.telegramDiscarded p t) s = .next s := fun {s p t} hrest harrive => by
    obtain ⟨_, hquiet⟩ := hrest
    simp only [exec, execTelegramDiscarded]
    rw [harrive, State.settled_of_quiet s hquiet]
  refine ⟨State.station_toNat, fun s t hrest => ⟨fun p hp => hdiscarded hrest (State.arrive_of_not_up hp t),
    fun ht hdest => hdiscarded hrest (State.arriveUp_own ht hdest),
    fun hbanked ht hdest => hdiscarded hrest (State.arriveUp_other hbanked ht hdest),
    fun d hbanked hreport hreply => hdiscarded hrest (State.arriveDn_untaken hbanked hreport hreply)⟩,
    fun s p rx hready => ⟨fun hbad => ?_, fun t hend hdecode => ?_⟩⟩
  · obtain ⟨⟨_, hquiet⟩, _⟩ := id hready
    have hnone : Reception.telegram rx = none := by
      unfold Reception.telegram
      split
      next hend => exact hbad.resolve_left (not_not.2 hend)
      next => rfl
    simp only [exec, execCheckError]
    rw [State.receive_bad hready hnone, State.latchCheckError, State.settled_setPort hquiet]
  · have hsome : Reception.telegram rx = some t := by
      unfold Reception.telegram
      rw [hend]
      exact hdecode
    simp only [exec, execCheckError, execTelegramDiscarded]
    rw [State.receive_good hready hsome]

end Sys2Proof.Machine
end

section

/-! PROOF. The reset: how it holds the part and releases it, and the laws that the part then satisfies. The states of the ports. -/

namespace Sys2Proof.Machine

/-! ### The laws at reset -/

/-- Settles O55: at reset every table, queue and store is empty, and no bank is active. -/
theorem resetSatisfiesTheLaws : Obligations.ResetSatisfiesTheLaws := by
  refine ⟨⟨by simp [State.reset], fun i hi => (by cases hi), fun _ => by simp [State.reset], fun h => (by cases h)⟩,
    ⟨le_rfl, le_rfl, le_rfl⟩, ⟨fun n => ?_, fun _ _ => rfl⟩, ⟨fun _ => Nat.zero_le _, fun _ h => (by cases h)⟩,
    ⟨Nat.zero_le _, fun _ h => (by cases h)⟩, ⟨rfl, fun _ => rfl⟩, ⟨rfl, .nil, fun _ h => (by cases h)⟩,
    ⟨Nat.zero_le _, Nat.zero_le _, .nil, Nat.zero_le _⟩, ⟨rfl, rfl, rfl, rfl, rfl, rfl, rfl⟩,
    ⟨fun _ _ => rfl, fun _ _ h => (by cases h), fun _ _ _ => rfl, fun _ _ _ h => (by cases h)⟩,
    ⟨Nat.zero_le _, Nat.zero_le _, fun _ => Nat.zero_le _, fun _ => Nat.zero_le _, fun _ => Nat.zero_le _⟩, ?_,
    ⟨fun i _ _ => (by cases i <;> rfl), fun _ _ => rfl, fun _ _ _ h => (by cases h), fun _ k _ => ?_⟩⟩
  · exact ⟨fun h => (by cases h), fun h => (by cases h)⟩
  · exact (State.orderLaw_iff _).2 ⟨fun _ _ _ _ _ h _ => (by cases h), RecordsPlaced.nil _, EntriesPlaced.nil _, fun _ => ⟨rfl, rfl⟩⟩
  · exact ⟨fun h => (by cases h), fun h => absurd rfl h.1⟩

/-! ### The reset (R178) -/

theorem State.setCause_eq (s : State) (c : ResetCause) :
    s.setCause c = { s with supplyBad := s.supplyBad || c == .supply, resetLine := s.resetLine || c == .line } := by
  cases c <;> simp [State.setCause]

theorem State.endCause_eq (s : State) (c : ResetCause) :
    s.endCause c = { s with supplyBad := s.supplyBad && c != .supply, resetLine := s.resetLine && c != .line } := by
  cases c <;> simp [State.endCause]

theorem State.lineTaken_of_not_actsInReset (s : State) {c : Instr} (h : actsInReset c = false) : s.lineTaken c = s := by
  unfold State.lineTaken
  split
  iterate 7 · cases h
  · rfl

theorem State.beginOperation_straps (s : State) (x : BitVec 3) : (s.beginOperation x).straps = x := by
  unfold State.beginOperation
  simp only []
  exact foldl_keeps State.straps State.startPort (fun s p => by unfold State.startPort; split <;> rfl) allPorts _

theorem Port.started_held (v : Port) : v.held.started =
    if v.signal then { Port.clear with signal := true, state := .proving, proving := some 0 } else Port.clear := by
  unfold Port.held Port.started
  cases v.signal <;> rfl

/-- Settles O39: the held reset by its frame, the commands in reset by what they do to their line, the release by its frame. -/
theorem resetHoldsAndReleasesThePart : Obligations.ResetHoldsAndReleasesThePart := by
  refine ⟨fun s c => ?_, fun s c hr hquiet hc => ?_, fun s hr hquiet => ⟨fun k level => ?_, exec_inReset hr hquiet id,
    exec_inReset hr hquiet id, fun p c hc => ?_, fun p c hc => ?_⟩, fun s c x hquiet => ⟨fun hr => ?_, fun hsupply hline => ?_,
    fun hlast => ?_⟩⟩
  · refine ⟨(s.setCause c).holdReset, ?_, ?_, fun p => ?_, fun k hk => ?_, ?_⟩
    · rw [← State.assertReset_eq]
      exact congrArg _ (s.assertReset_settled c)
    · rw [State.holdReset_inReset, State.setCause_inReset]
    · rw [State.holdReset_ports, State.setCause_eq]
      rfl
    · have hlevel := (s.setCause c).permitOutLevel_dropPermitOut hk
      unfold State.permitOutLevel at hlevel ⊢
      rw [State.holdReset_permitOut, hlevel]
    · have hframe := (s.setCause c).holdReset_frame
      have hports := (s.setCause c).holdReset_portStore
      have hpermit := (s.setCause c).holdReset_permitOut
      rw [← hports, ← hpermit] at hframe
      generalize (s.setCause c).holdReset = t at hframe ⊢
      rw [State.setCause_eq] at hframe
      exact hframe
  · have hreset : ¬ isResetCommand c := fun h => by cases c <;> simp_all [isResetCommand, actsInReset]
    rw [exec_inReset hr hquiet hreset, s.lineTaken_of_not_actsInReset hc]
  · refine ⟨s.lineTaken (.permitInChange k level), exec_inReset hr hquiet id, ?_, fun j => ?_⟩
    · unfold State.lineTaken
      simp only []
      split_ifs <;> rfl
    · unfold State.lineTaken
      simp only []
      split_ifs with hkept hj hj
      · obtain ⟨rfl, hk⟩ := hj
        exact hkept.resolve_left (by omega)
      · rfl
      · obtain ⟨rfl, hk⟩ := hj
        show Store.read _ _ _ = _
        rw [Store.read_write, if_pos rfl]
      · show Store.read _ _ _ = _
        rw [Store.read_write, if_neg fun h => hj ⟨h, by omega⟩]
        rfl
  · simp only [List.mem_cons, List.not_mem_nil, or_false] at hc
    rcases hc with rfl | rfl <;> exact exec_inReset hr hquiet id
  · simp only [List.mem_cons, List.not_mem_nil, or_false] at hc
    rcases hc with rfl | rfl <;> exact exec_inReset hr hquiet id
  · simp only [exec, execResetReleased]
    rw [State.releaseReset, if_neg (by simp [hr]), State.settled_of_quiet s hquiet]
  · have hr : s.inReset = true := by simp [State.inReset, hsupply]
    have hstill : (s.endCause c).inReset = true := by
      rw [State.endCause_eq]
      cases c <;> simp [State.inReset, hsupply, hline]
    simp only [exec, execResetReleased]
    rw [State.releaseReset, if_pos hr, if_pos hstill, State.settled_of_quiet, State.endCause_eq, hsupply, hline]
    · rfl
    · rw [State.endCause_eq]
      exact hquiet
  · have hr : s.inReset = true ∧ (s.endCause c).inReset = false := by
      rw [State.endCause_eq]
      rcases hlast with ⟨rfl, hsupply, hline⟩ | ⟨rfl, hsupply, hline⟩ <;> simp [State.inReset, hsupply, hline]
    obtain ⟨hr, hends⟩ := hr
    have hrestart := (s.endCause c).restarts_beginOperation x
    have hstraps := (s.endCause c).beginOperation_straps x
    have hrelease : s.releaseReset c x = (s.endCause c).beginOperation x := by
      rw [State.releaseReset, if_pos hr, if_neg (by simp [hends])]
    refine ⟨s.releaseReset c x, ?_, fun p => ?_, ?_⟩
    · simp only [exec, execResetReleased]
      rw [State.settled_of_quiet]
      rw [hrelease, hrestart.frame]
      rfl
    · rw [hrelease, hrestart.ports, Port.started_held, State.endCause_eq]
      rfl
    · have hframe := hrestart.frame
      rw [hstraps, ← hrelease] at hframe
      generalize s.releaseReset c x = t at hframe ⊢
      rw [State.endCause_eq] at hframe
      exact hframe

/-! ### Port states (R150, R151) -/

theorem State.settled_scan {s : State} (h : s.agenda = [.scan]) (hheld : s.held = []) : s.settled = s.setAgenda [] :=
  State.settled_of_inert s fun t ht => by
    rw [h, List.mem_singleton] at ht
    subst ht
    show s.held.isEmpty = true
    rw [hheld]
    rfl

/-- A command that makes a change of port and then starts the scan of a change of state. -/
theorem changesPort_of {c : Instr} {p : PortId} {s u : State} (hexec : exec c s = .next (u.portScan p).settled)
    (hquiet : u.agenda = []) (hheld : u.held = s.held) (hmode : u.mode = s.mode) : changesPort c p s u := by
  refine ⟨fun h => ?_, fun hp hbanked => ?_⟩
  · rw [hexec]
    unfold State.portScan
    cases p with
    | up =>
      simp only []
      rw [State.settled_of_quiet u hquiet]
    | dn d =>
      simp only []
      split_ifs with htransparent
      · rw [State.settled_of_quiet u hquiet]
      · have hnone : u.startScan.held = [] := hheld.trans ((h.resolve_left (by simp)).resolve_left (hmode ▸ htransparent))
        have hscan : u.startScan.agenda = [.scan] := by
          rw [State.startScan_agenda, hquiet]
          rfl
        rw [State.settled_scan hscan hnone]
        refine congrArg _ ?_
        show u.setAgenda [] = u
        rw [← hquiet]
        rfl
  · rw [hexec]
    cases p with
    | up => exact absurd rfl hp
    | dn d =>
      unfold State.portScan
      simp only []
      rw [if_neg (hmode ▸ hbanked), State.startScan, State.addTask, hquiet]
      rfl

theorem State.exec_signalOn (s : State) (p : PortId) {c : Instr} (hc : c ∈ [Instr.lineSignalAppears p, .lineSignalReturns p]) :
    exec c s = .next (s.signalOn p).settled := by
  simp only [List.mem_cons, List.not_mem_nil, or_false] at hc
  rcases hc with rfl | rfl <;> rfl

theorem State.exec_signalOff (s : State) (p : PortId) {c : Instr} (hc : c ∈ [Instr.provingSignalAbsent p, .lineSignalLost p]) :
    exec c s = .next (s.signalOff p).settled := by
  simp only [List.mem_cons, List.not_mem_nil, or_false] at hc
  rcases hc with rfl | rfl <;> rfl

theorem Port.provingDue_iff (v : Port) :
    v.provingDue = true ↔ v.state = .proving ∧ v.signal = true ∧ ∃ e, v.proving = some e ∧ 500 ≤ e := by
  unfold Port.provingDue
  cases h : v.proving with
  | none => simp
  | some e =>
    simp only [Bool.and_eq_true, beq_iff_eq, decide_eq_true_eq, Option.some.injEq, exists_eq_left', and_assoc]
    rfl

/-- Settles O40: each signal command by the state the port is in. -/
theorem lineSignalsMoveThePortState : Obligations.LineSignalsMoveThePortState := by
  intro s p hrest
  obtain ⟨hreset, hquiet⟩ := hrest
  refine ⟨fun c hc => ⟨fun hstate => ?_, fun hstate => ?_, fun hstate => ?_⟩,
    fun c hc => ⟨fun hstate => ?_, fun hstate => ?_, fun hstate hsignal => ?_, fun hstate hsignal => ?_⟩,
    fun e hstate hsignal hproving hdue => ?_, fun hnot => ?_⟩
  · refine changesPort_of ?_ hquiet rfl rfl
    rw [s.exec_signalOn p hc]
    simp [State.signalOn, hreset, hstate]
  · rw [s.exec_signalOn p hc, ← State.settled_setPort hquiet]
    simp [State.signalOn, hreset, hstate]
  · rw [s.exec_signalOn p hc, ← State.settled_setPort hquiet]
    simp [State.signalOn, hreset, hstate]
  · rw [s.exec_signalOff p hc, ← State.settled_setPort hquiet]
    simp [State.signalOff, hreset, hstate]
  · refine changesPort_of ?_ hquiet rfl rfl
    rw [s.exec_signalOff p hc]
    simp [State.signalOff, hreset, hstate]
  · rw [s.exec_signalOff p hc, ← State.settled_setPort hquiet]
    simp [State.signalOff, hreset, hstate, hsignal]
  · rw [s.exec_signalOff p hc, ← State.settled_setPort hquiet]
    simp [State.signalOff, hreset, hstate, hsignal]
  · have hexpires : s.provingExpires p = s.portUp p := by
      rw [State.provingExpires, if_pos]
      rw [hreset, (Port.provingDue_iff _).2 ⟨hstate, hsignal, e, hproving, hdue⟩]
      rfl
    refine changesPort_of ?_ ?_ ?_ ?_
    · simp only [exec, execProvingTimerExpiry]
      rw [hexpires]
      rfl
    · rw [State.offerNotice_agenda]
      exact hquiet
    · rw [State.offerNotice_frame]
      rfl
    · rw [State.offerNotice_frame]
      rfl
  · have hexpires : s.provingExpires p = s := by
      rw [State.provingExpires, if_neg]
      rw [hreset, Bool.not_false, Bool.true_and, Port.provingDue_iff]
      rintro ⟨hstate, hsignal, e, hproving, hdue⟩
      rcases hnot with h | h | h | ⟨e', he', h⟩
      · exact h hstate
      · simp [hsignal] at h
      · simp [hproving] at h
      · simp only [hproving, Option.some.injEq] at h
        omega
    simp only [exec, execProvingTimerExpiry]
    rw [hexpires, State.settled_of_quiet s hquiet]

end Sys2Proof.Machine
end

section

/-! PROOF. The timers of budget, tallies and orders, and the transmitters of the DN ports and of UP. -/

namespace Sys2Proof.Machine

/-! ### Timers (R101, R107, R108) -/

theorem State.outOfReset_atRest {s : State} (h : s.atRest) (f : State → State) : s.outOfReset f = f s := by
  rw [State.outOfReset, if_neg (by simp [h.1])]

theorem State.timerDue_iff (s : State) (k : Nat) (t : Timer) :
    s.timerDue k t = true ↔ k * t.length ≤ (s.clock - t.start).toNat := by
  unfold State.timerDue State.elapsed
  exact decide_eq_true_iff

/-- An event that only starts a scan, with nothing held, changes nothing more. -/
theorem State.settled_startScan {s : State} (hquiet : s.agenda = []) (hheld : s.held = []) : s.startScan.settled = s := by
  have hscan : s.startScan.agenda = [.scan] := by
    rw [State.startScan_agenda, hquiet]
    rfl
  rw [State.settled_scan hscan hheld]
  show s.setAgenda [] = s
  rw [← hquiet]
  rfl

theorem State.startScan_eq {s : State} (hquiet : s.agenda = []) : s.startScan = { s with agenda := [.scan] } := by
  rw [State.startScan, State.addTask, hquiet]
  rfl

/-- A point with its tally one lower. -/
def PointDyn.lowered (d : PointDyn) : PointDyn := { d with tally := d.tally - 1 }

/-- The points whose tally a decay lowers, one after another. -/
theorem State.point_lowerTallies (l : List Nat) (hl : l.Nodup) (s : State) (p : Nat) :
    (l.foldl State.lowerTally s).point p = if p ∈ l then (s.point p).lowered else s.point p := by
  induction l generalizing s with
  | nil => rfl
  | cons q l ih =>
    obtain ⟨hq, hl⟩ := List.nodup_cons.1 hl
    have hpoint : (s.lowerTally q).point p = if p = q then (s.point p).lowered else s.point p := by
      unfold State.lowerTally PointDyn.lowered
      rw [State.point_setPoint]
      split_ifs with h
      · rw [h]
      · rfl
    rw [List.foldl_cons, ih hl, hpoint]
    by_cases hpq : p = q
    · subst hpq
      rw [if_neg hq, if_pos rfl, if_pos List.mem_cons_self]
    · simp only [List.mem_cons, hpq, false_or, if_false]

theorem Store.find_eq_none {α : Type} {m : Store α} {k : Nat} (h : k ∉ m.map Prod.fst) : Store.find m k = none := by
  induction m with
  | nil => rfl
  | cons e m ih =>
    simp only [List.map_cons, List.mem_cons, not_or] at h
    rw [Store.find, if_neg fun he => h.1 he.symm, ih h.2]

theorem Store.keys_nodup {α : Type} [DecidableEq α] {d : α} {m : Store α} (h : Store.wf d m = true) : (m.map Prod.fst).Nodup := by
  unfold Store.wf at h
  simp only [Bool.and_eq_true, decide_eq_true_eq] at h
  exact List.pairwise_map.2 (h.1.imp fun hlt => Nat.ne_of_lt hlt)

/-- A decay lowers every tally above 0 by one (R101). -/
theorem State.decay_point {s : State} (h : Store.wf PointDyn.clear s.image = true) (p : Nat) :
    s.decay.point p = { s.point p with tally := (s.point p).tally - 1 } := by
  unfold State.decay
  rw [State.point_lowerTallies _ (Store.keys_nodup h)]
  split_ifs with hp
  · rfl
  · have hclear : s.point p = PointDyn.clear := by
      rw [State.point, Store.read, Store.find_eq_none hp]
      rfl
    rw [hclear]
    rfl

theorem State.exec_periodBoundary {s : State} (h : s.atRest) : exec .periodBoundary s = .next s.periodExpires.settled := by
  simp only [exec, execPeriodBoundary]
  rw [State.outOfReset_atRest h]

theorem State.exec_tallyDecay {s : State} (h : s.atRest) : exec .tallyDecay s = .next s.tallyExpires.settled := by
  simp only [exec, execTallyDecay]
  rw [State.outOfReset_atRest h]

/-- Settles O44: each timer that is due by what the budget record reads as. -/
theorem budgetTimersReloadAndDecay : Obligations.BudgetTimersReloadAndDecay := by
  intro s hrest
  obtain ⟨_, hquiet⟩ := id hrest
  refine ⟨fun t b ht hdue hb => ⟨_, rfl, ?_, fun hheld => ?_⟩, fun t ht hdue hb => ?_, fun hnot => ?_,
    fun t b ht hdue hb hwf => ⟨{ s.decay with tallyTimer := some ⟨s.clock, b.tallyInterval⟩ }, ?_, fun p => ?_, ?_⟩,
    fun t ht hdue hb => ?_, fun hnot => ?_⟩
  · have hdue : s.timerDue 1 t = true := (s.timerDue_iff 1 t).2 (by omega)
    rw [State.exec_periodBoundary hrest, State.periodExpires, ht]
    simp only [hdue, hb, if_true]
    rw [State.boundary, State.startScan_eq (by exact hquiet)]
  · have hdue : s.timerDue 1 t = true := (s.timerDue_iff 1 t).2 (by omega)
    rw [State.exec_periodBoundary hrest, State.periodExpires, ht]
    simp only [hdue, hb, if_true]
    rw [State.boundary, State.settled_startScan (by exact hquiet) (by exact hheld)]
  · have hdue : s.timerDue 1 t = true := (s.timerDue_iff 1 t).2 (by omega)
    rw [State.exec_periodBoundary hrest, State.periodExpires, ht]
    simp only [hdue, hb, if_true]
    rw [State.boundaryFault, State.startScan_eq (by exact hquiet)]
  · have hexpires : s.periodExpires = s := by
      unfold State.periodExpires
      split
      next t ht => exact if_neg fun hdue => absurd ((s.timerDue_iff 1 t).1 hdue) (by have := hnot t ht; omega)
      next => rfl
    rw [State.exec_periodBoundary hrest, hexpires, State.settled_of_quiet s hquiet]
  · have hdue : s.timerDue 600 t = true := (s.timerDue_iff 600 t).2 hdue
    rw [State.exec_tallyDecay hrest, State.tallyExpires, ht]
    simp only [hdue, hb, if_true]
    refine congrArg _ (State.settled_of_quiet _ ?_)
    rw [State.decay_frame]
    exact hquiet
  · exact State.decay_point hwf p
  · rw [State.decay_frame]
  · have hdue : s.timerDue 600 t = true := (s.timerDue_iff 600 t).2 hdue
    rw [State.exec_tallyDecay hrest, State.tallyExpires, ht]
    simp only [hdue, hb, if_true]
    refine congrArg _ (State.settled_of_quiet _ ?_)
    rw [State.activeFault_agenda]
    exact hquiet
  · have hexpires : s.tallyExpires = s := by
      unfold State.tallyExpires
      split
      next t ht => exact if_neg fun hdue => absurd ((s.timerDue_iff 600 t).1 hdue) (Nat.not_le.2 (hnot t ht))
      next => rfl
    rw [State.exec_tallyDecay hrest, hexpires, State.settled_of_quiet s hquiet]

/-! ### Expiry of held orders and of reply timers (R129, R145) -/

theorem HeldRec.isFor_iff (dest : Byte) (point : Word) (h : HeldRec) :
    h.isFor dest point = true ↔ h.tel.dest = dest ∧ h.tel.point = point := by
  simp [HeldRec.isFor]

/-- What ends an entry that no reply ended, and the scans its removal starts. -/
theorem State.failEntry_eq (s : State) (e : Entry) (r : RefusalReason) :
    s.failEntry e r = (endedEntry s e r).addTasks e.scans := by
  unfold State.failEntry endedEntry
  rw [State.removeEntry_eq]
  cases e.origin with
  | supervisory src =>
    simp only []
    rw [State.refuse_addTasks, State.refuse_eq]
    rfl
  | part n => exact State.offerNotice_addTasks _ _ _ _ _ _

@[simp] theorem endedEntry_agenda (s : State) (e : Entry) (r : RefusalReason) : (endedEntry s e r).agenda = s.agenda := by
  unfold endedEntry
  cases e.origin with
  | supervisory src => rfl
  | part n => exact State.offerNotice_agenda _ _ _ _ _

@[simp] theorem endedEntry_held (s : State) (e : Entry) (r : RefusalReason) : (endedEntry s e r).held = s.held := by
  unfold endedEntry
  cases e.origin with
  | supervisory src => rfl
  | part n =>
    simp only []
    rw [State.offerNotice_frame]

/-- Under the law of the creation order an entry is the only one of its number. -/
theorem State.find_entry {s : State} (hlaw : s.PledgeLaw) {e : Entry} (he : e ∈ s.entries) :
    s.entries.find? (fun x => x.seq == e.seq) = some e := by
  obtain ⟨l1, l2, hsplit⟩ := List.append_of_mem he
  have horder := hlaw.order
  rw [hsplit] at horder
  refine List.find?_eq_some_iff_append.2 ⟨by simp, l1, l2, hsplit, fun x hx => ?_⟩
  have hlt := (List.pairwise_append.1 horder).2.2 x hx e List.mem_cons_self
  simpa using hlt.ne

theorem State.exec_replyTimeout {s : State} (h : s.atRest) (n : Nat) :
    exec (.replyTimeout n) s = .next (s.replyExpires n).settled := by
  simp only [exec, execReplyTimeout]
  rw [State.outOfReset_atRest h]

/-- Settles O45: the record or entry that is due is found by its place or number. -/
theorem orderTimersExpire : Obligations.OrderTimersExpire := by
  refine ⟨fun s l1 l2 h hrest hheld hother => ?_, fun s e t hrest hlaw he hlane => ?_, fun s n hrest hnone => ?_⟩
  · obtain ⟨_, hquiet⟩ := id hrest
    have hself : h.isFor h.tel.dest h.tel.point = true := (HeldRec.isFor_iff _ _ h).2 ⟨rfl, rfl⟩
    have hnot : ∀ x ∈ l1 ++ l2, x.isFor h.tel.dest h.tel.point = false := fun x hx =>
      Bool.eq_false_iff.2 fun hx' => hother x hx ((HeldRec.isFor_iff _ _ x).1 hx')
    have hfind : s.held.find? (HeldRec.isFor h.tel.dest h.tel.point) = some h :=
      List.find?_eq_some_iff_append.2 ⟨hself, l1, l2, hheld, fun x hx => by rw [hnot x (List.mem_append_left _ hx)]; rfl⟩
    have hfilter : s.held.filter (fun x => !HeldRec.isFor h.tel.dest h.tel.point x) = l1 ++ l2 := by
      rw [hheld, List.filter_append, List.filter_cons_of_neg (by simp [hself]), ← List.filter_append]
      exact List.filter_eq_self.2 fun x hx => by simp [hnot x hx]
    have hexec : exec (.holdExpired h.tel.dest h.tel.point) s = .next (s.holdExpires h.tel.dest h.tel.point).settled := by
      simp only [exec, execHoldExpired]
      rw [State.outOfReset_atRest hrest]
    refine ⟨fun hdue => ?_, fun hnotdue => ?_⟩
    · have hexpires : s.holdExpires h.tel.dest h.tel.point = { s.refusedWith h.tel .holdExpired with held := l1 ++ l2 } := by
        unfold State.holdExpires
        rw [hfind, hfilter]
        simp only []
        rw [if_pos (show s.holdDue h = true from decide_eq_true hdue), State.refuse_setHeld, State.refuse_eq]
        rfl
      rw [hexec, hexpires, State.settled_of_quiet _ (by exact hquiet)]
    · have hexpires : s.holdExpires h.tel.dest h.tel.point = s := by
        unfold State.holdExpires
        rw [hfind]
        exact if_neg fun hdue => absurd (of_decide_eq_true hdue) (Nat.not_le.2 hnotdue)
      rw [hexec, hexpires, State.settled_of_quiet s hquiet]
  · obtain ⟨_, hquiet⟩ := id hrest
    refine ⟨fun hdue => ?_, fun hnotdue => ?_⟩
    · have hexpires : s.replyExpires e.seq = { endedEntry s e .timeout with agenda := removalScansOf e } := by
        have hreply : s.replyDue e = true := by
          unfold State.replyDue
          rw [hlane]
          exact decide_eq_true hdue
        unfold State.replyExpires
        rw [State.find_entry hlaw he]
        simp only []
        rw [if_pos hreply, State.failEntry_eq, Entry.scans_of_sent ((Entry.isQueued_eq_false_iff e).2 ⟨t, hlane⟩), State.addTasks,
          endedEntry_agenda, hquiet]
        rfl
      rw [State.exec_replyTimeout hrest, hexpires]
      refine ⟨rfl, fun hheld => congrArg _ ?_⟩
      rw [State.settled_of_inert]
      · show (endedEntry s e .timeout).setAgenda [] = _
        rw [← hquiet, ← endedEntry_agenda s e .timeout]
        rfl
      · intro x hx
        rw [removalScansOf_scans hx]
        show (endedEntry s e .timeout).held.isEmpty = true
        rw [endedEntry_held, hheld]
        rfl
    · have hexpires : s.replyExpires e.seq = s := by
        have hreply : ¬ s.replyDue e = true := by
          unfold State.replyDue
          rw [hlane]
          exact fun hdue => absurd (of_decide_eq_true hdue) (Nat.not_le.2 hnotdue)
        unfold State.replyExpires
        rw [State.find_entry hlaw he]
        exact if_neg hreply
      rw [State.exec_replyTimeout hrest, hexpires, State.settled_of_quiet s hquiet]
  · obtain ⟨_, hquiet⟩ := id hrest
    have hexpires : s.replyExpires n = s := by
      unfold State.replyExpires
      split
      next e he =>
        have hseq : e.seq = n := by simpa using List.find?_some he
        refine if_neg ?_
        unfold State.replyDue
        rw [hnone e (List.mem_of_find?_eq_some he) hseq]
        exact Bool.false_ne_true
      next => rfl
    rw [State.exec_replyTimeout hrest, hexpires, State.settled_of_quiet s hquiet]

/-! ### The DN transmitters (R139, R140, R163) -/

theorem State.lineFree_of_ready {s : State} {d : DnPort} (h : s.portReady (.dn d)) (hline : (s.port (.dn d)).line = none) :
    s.lineFree d = true := by
  obtain ⟨⟨hreset, _⟩, hup⟩ := h
  simp [State.lineFree, hreset, hup, hline]

theorem State.lineFree_of_busy {s : State} {d : DnPort} (hline : (s.port (.dn d)).line ≠ none) : s.lineFree d = false := by
  have hsome := Option.isSome_iff_ne_none.2 hline
  simp [State.lineFree, hsome]

/-- The head of a lane: the oldest queued entry of the part and port. -/
theorem State.lane_cons {s : State} {d : DnPort} {k : EntryPart} {e : Entry} {l1 l2 : List Entry} (h : s.entries = l1 ++ e :: l2)
    (hpart : e.part = k) (hport : e.port = d) (hlane : e.lane = .queued)
    (hfirst : ∀ x ∈ l1, ¬ (x.part = k ∧ x.port = d ∧ x.lane = .queued)) : ∃ l, s.lane d k = e :: l := by
  have hnone : l1.filter (fun x => x.part == k && x.port == d && x.isQueued) = [] :=
    List.filter_eq_nil_iff.2 fun x hx hin => by
      simp only [Bool.and_eq_true, beq_iff_eq, Entry.isQueued] at hin
      exact hfirst x hx ⟨hin.1.1, hin.1.2, hin.2⟩
  refine ⟨l2.filter (fun x => x.part == k && x.port == d && x.isQueued), ?_⟩
  unfold State.lane
  rw [h, List.filter_append, hnone, List.filter_cons_of_pos (by simp [hpart, hport, hlane, Entry.isQueued])]
  rfl

/-- The entry transmitted is SENT, and no other changes. -/
theorem State.transmit_eq {s : State} {d : DnPort} {e : Entry} {l1 l2 : List Entry} (hlaw : s.PledgeLaw)
    (h : s.entries = l1 ++ e :: l2) :
    s.transmit d e = ({ s.setPort (.dn d) { s.port (.dn d) with line := some (.point .order (s.entryTel e)) } with
      entries := l1 ++ { e with lane := .sent s.clock } :: l2 } : State).startScan := by
  have horder := hlaw.order
  rw [h] at horder
  obtain ⟨_, hright, hleft⟩ := List.pairwise_append.1 horder
  have hsent : s.entries.map (fun x : Entry => if x.seq == e.seq then { x with lane := .sent s.clock } else x) =
      l1 ++ { e with lane := .sent s.clock } :: l2 := by
    have hkept : ∀ l : List Entry, (∀ x ∈ l, x.seq ≠ e.seq) →
        l.map (fun x : Entry => if x.seq == e.seq then { x with lane := .sent s.clock } else x) = l := fun l hl => by
      conv_rhs => rw [← List.map_id l]
      exact List.map_congr_left fun x hx => if_neg (by simpa using hl x hx)
    rw [h, List.map_append, List.map_cons, hkept l1 fun x hx => (hleft x hx e List.mem_cons_self).ne,
      hkept l2 fun x hx => ((List.pairwise_cons.1 hright).1 x hx).ne', if_pos (by simp)]
  unfold State.transmit
  rw [hsent]
  rfl

theorem State.nextOrder_priority {s : State} {d : DnPort} {e : Entry} {l : List Entry} (h : s.lane d .priority = e :: l) :
    s.nextOrder d = some e := by
  rw [State.nextOrder, h]

theorem State.nextOrder_general {s : State} {d : DnPort} (h : s.lane d .priority = []) :
    s.nextOrder d = if (s.port (.dn d)).repeatLane.isEmpty then (s.lane d .general).head? else none := by
  rw [State.nextOrder, h]

/-- Settles O46: the first lane that has a telegram decides what the transmitter takes. -/
theorem dnTransmitterTakesTheFirstLane : Obligations.DnTransmitterTakesTheFirstLane := by
  rintro s d v hready hlaw rfl
  obtain ⟨⟨_, hquiet⟩, _⟩ := id hready
  have hnothing : (.next s.settled : Host.Outcome State Fault Refusal) = .next s := by rw [State.settled_of_quiet s hquiet]
  refine ⟨fun hbusy => ⟨?_, ?_⟩, fun e l1 l2 hline hentries hport hlane hfirst => ?_, fun hpriority hno => ?_,
    fun t l hline hpriority hrepeat => ?_, fun hno => ?_⟩
  · simp only [exec, execTransmission]
    rw [State.transmitNext_busy s d (State.lineFree_of_busy hbusy), hnothing]
  · simp only [exec, execRepeatLaneSend]
    rw [State.repeatNext_busy s d (State.lineFree_of_busy hbusy), hnothing]
  · have hnext : s.nextOrder d = some e := by
      rcases hfirst with ⟨hpart, hnone⟩ | ⟨hpart, hrepeat, hpriority, hnone⟩
      · obtain ⟨l, hl⟩ := State.lane_cons hentries hpart hport hlane hnone
        exact State.nextOrder_priority hl
      · obtain ⟨l, hl⟩ := State.lane_cons hentries hpart hport hlane hnone
        rw [State.nextOrder_general hpriority, hrepeat, hl]
        rfl
    have htransmit : s.transmitNext d = s.transmit d e := by
      rw [State.transmitNext, State.lineFree_of_ready hready hline, hnext]
      rfl
    refine ⟨_, rfl, ?_, fun hheld => ?_⟩
    · simp only [exec, execTransmission]
      rw [htransmit, State.transmit_eq hlaw hentries, State.startScan_eq (by exact hquiet)]
      rfl
    · simp only [exec, execTransmission]
      rw [htransmit, State.transmit_eq hlaw hentries, State.settled_startScan (by exact hquiet) (by exact hheld)]
      rfl
  · have hnext : s.nextOrder d = none := by
      rw [State.nextOrder_general hpriority]
      rcases hno with hrepeat | hgeneral
      · exact if_neg (by simpa using hrepeat)
      · rw [hgeneral]
        exact ite_self none
    have htransmit : s.transmitNext d = s := by
      unfold State.transmitNext
      rw [hnext]
      exact ite_self s
    simp only [exec, execTransmission]
    rw [htransmit, hnothing]
  · simp only [exec, execRepeatLaneSend]
    rw [State.repeatNext, State.lineFree_of_ready hready hline, hpriority, hrepeat]
    simp only [Bool.not_true, Bool.false_eq_true, if_false]
    rw [State.settled_setPort hquiet]
  · have hrepeat : s.repeatNext d = s := by
      unfold State.repeatNext
      split_ifs
      · rfl
      · split
        next t l hlane hcopies =>
          rcases hno with h | h
          · exact absurd hlane h
          · rw [h] at hcopies
            cases hcopies
        next => rfl
    simp only [exec, execRepeatLaneSend]
    rw [hrepeat, hnothing]

end Sys2Proof.Machine
end

section

/-! PROOF. The bytes of numbers and of bodies, and the UP transmitter. -/

namespace Sys2Proof.Machine

/-! ### Bytes (R173) -/

theorem natBytes_eq (n : Nat) : natBytes n = [BitVec.ofNat 8 (n / 256), BitVec.ofNat 8 n] := by
  have hhigh : (BitVec.ofNat 16 n).extractLsb' 8 8 = BitVec.ofNat 8 (n / 256) := by
    refine BitVec.eq_of_toNat_eq ?_
    simp only [BitVec.extractLsb'_toNat, BitVec.toNat_ofNat, Nat.shiftRight_eq_div_pow]
    omega
  have hlow : (BitVec.ofNat 16 n).extractLsb' 0 8 = BitVec.ofNat 8 n := by
    refine BitVec.eq_of_toNat_eq ?_
    simp only [BitVec.extractLsb'_toNat, BitVec.toNat_ofNat, Nat.shiftRight_zero]
    omega
  rw [natBytes, wordBytes, hhigh, hlow]

theorem carries_fillBody (k : Nat) (bs : List (Option Byte)) : carries (fillBody k bs) bs := by
  refine ⟨List.length_mapIdx, fun i v h => ?_⟩
  rw [fillBody, List.getElem?_mapIdx, h]
  rfl

theorem fillBody_known (k : Nat) (bs : List Byte) : fillBody k (known bs) = bs := by
  refine List.ext_getElem? fun i => ?_
  rw [fillBody, known, List.getElem?_mapIdx, List.getElem?_map]
  cases bs[i]? <;> rfl

theorem Notice.body_eq (n : Notice) : n.body = noticeItems n := by
  obtain ⟨kind, sect, point, cause, stamp⟩ := n
  unfold Notice.body noticeItems
  cases sect <;> cases point <;> simp [optField, known, natBytes_eq, natByte, clockBytes]

/-! ### The UP transmitter (R162) -/

/-- The arbiter's rank and the class of a content are one number, but for what is not sent. -/
theorem UpContent.rank_iff (dest : Option Byte) (c : UpContent) {k : Nat} (hk : k < 4) :
    (c.rank dest == some k) = true ↔ upClass dest c = k := by
  have hsome : ∀ j : Nat, (some j == some k) = true ↔ j = k := fun j => by simp
  have hnone : ((none : Option Nat) == some k) = true ↔ 4 = k := ⟨fun h => (by cases h), fun h => by omega⟩
  cases c with
  | place => exact hnone
  | response m => exact hsome 0
  | answer t => exact hsome 1
  | report r => exact hsome 3
  | notice n =>
    cases dest with
    | none => exact hnone
    | some d => exact hsome 2

theorem State.oldestOf_none {s : State} {k : Nat} (hk : k < 4) (h : ∀ y ∈ s.upQueue, upClass s.noticeDest y.content ≠ k) :
    s.oldestOf k = none :=
  List.findIdx?_eq_none_iff.2 fun y hy => Bool.eq_false_iff.2 fun hrank => h y hy ((UpContent.rank_iff _ _ hk).1 hrank)

theorem State.oldestOf_some {s : State} {x : UpItem} {l1 l2 : List UpItem} (h : s.upQueue = l1 ++ x :: l2)
    (hx : upClass s.noticeDest x.content < 4)
    (hbefore : ∀ y ∈ l1, upClass s.noticeDest x.content < upClass s.noticeDest y.content) :
    s.oldestOf (upClass s.noticeDest x.content) = some l1.length := by
  unfold State.oldestOf
  have hnone : l1.findIdx? (fun u => u.content.rank s.noticeDest == some (upClass s.noticeDest x.content)) = none :=
    List.findIdx?_eq_none_iff.2 fun y hy => Bool.eq_false_iff.2 fun hrank =>
      (hbefore y hy).ne' ((UpContent.rank_iff _ _ hx).1 hrank)
  rw [h, List.findIdx?_append, hnone, List.findIdx?_cons, if_pos ((UpContent.rank_iff _ _ hx).2 rfl)]
  simp

/-- The arbiter takes the oldest telegram of the first class that has one. -/
theorem State.upNext_eq {s : State} {x : UpItem} {l1 l2 : List UpItem} (h : s.upQueue = l1 ++ x :: l2)
    (hx : upClass s.noticeDest x.content < 4)
    (hbefore : ∀ y ∈ l1, upClass s.noticeDest x.content < upClass s.noticeDest y.content)
    (hafter : ∀ y ∈ l2, upClass s.noticeDest x.content ≤ upClass s.noticeDest y.content) : s.upNext = some l1.length := by
  have hsome := State.oldestOf_some h hx hbefore
  have hleast : ∀ y ∈ s.upQueue, upClass s.noticeDest x.content ≤ upClass s.noticeDest y.content := fun y hy => by
    rw [h] at hy
    rcases List.mem_append.1 hy with hy | hy
    · exact (hbefore y hy).le
    · rcases List.mem_cons.1 hy with rfl | hy
      · exact le_rfl
      · exact hafter y hy
  have hnone : ∀ j < upClass s.noticeDest x.content, s.oldestOf j = none := fun j hj =>
    State.oldestOf_none (by omega) fun y hy heq => absurd (hleast y hy) (by omega)
  unfold State.upNext
  generalize upClass s.noticeDest x.content = k at hsome hnone hx
  interval_cases k
  · rw [hsome]
    rfl
  · rw [hnone 0 (by omega), hsome]
    rfl
  · rw [hnone 0 (by omega), hnone 1 (by omega), hsome]
    rfl
  · rw [hnone 0 (by omega), hnone 1 (by omega), hnone 2 (by omega), hsome]
    rfl

theorem State.upNext_none {s : State} (h : ∀ y ∈ s.upQueue, upClass s.noticeDest y.content = 4) : s.upNext = none := by
  have hnone : ∀ k < 4, s.oldestOf k = none := fun k hk => State.oldestOf_none hk fun y hy => by rw [h y hy]; omega
  unfold State.upNext
  rw [hnone 0 (by omega), hnone 1 (by omega), hnone 2 (by omega), hnone 3 (by omega)]
  rfl

theorem upBegin_report {l1 l2 : List UpItem} {x : UpItem} (h : x.isReport = true) :
    upBegin (l1 ++ x :: l2) l1.length x = l1 ++ l2 := by
  rw [upBegin, if_pos h, List.eraseIdx_append_of_length_le le_rfl]
  simp

theorem upBegin_other {l1 l2 : List UpItem} {x : UpItem} (h : x.isReport = false) :
    upBegin (l1 ++ x :: l2) l1.length x = l1 ++ { x with sending := true } :: l2 := by
  rw [upBegin, if_neg (by simp [h])]
  simp

/-- The transmission of the place that the arbiter takes begins. -/
theorem State.upStart_eq {s : State} {x : UpItem} {l1 l2 : List UpItem} (hready : s.portReady .up) (hline : (s.port .up).line = none)
    (h : s.upQueue = l1 ++ x :: l2) (hnext : s.upNext = some l1.length) :
    s.upStart = { s.setPort .up { s.port .up with line := s.upTelegram x.content } with
      upQueue := upBegin (l1 ++ x :: l2) l1.length x
      draws := if x.isNotice then s.draws + 1 else s.draws } := by
  obtain ⟨⟨hreset, _⟩, hup⟩ := hready
  have hitem : s.upQueue[l1.length]? = some x := by
    rw [h, List.getElem?_append_right le_rfl, Nat.sub_self]
    rfl
  unfold State.upStart
  rw [if_neg (by simp [hreset, hup, hline]), hnext]
  simp only [hitem]
  rw [h]
  rfl

/-- Settles O47: the place taken is the oldest of the least class, and its content decides what the line carries. -/
theorem upTransmitterServesTheClasses : Obligations.UpTransmitterServesTheClasses := by
  refine ⟨?_, fun s hrest => ⟨fun hno => ?_, fun hline => ?_, fun hline => ?_⟩⟩
  · rintro s v x l1 l2 hready rfl hline hqueue hclass hbefore hafter
    obtain ⟨⟨_, hquiet⟩, _⟩ := id hready
    have hstart := State.upStart_eq hready hline hqueue (State.upNext_eq hqueue hclass hbefore hafter)
    have hexec : exec .upTransmitStart s = .next s.upStart := by
      simp only [exec, execUpTransmitStart]
      rw [State.settled_of_quiet]
      rw [hstart]
      exact hquiet
    rw [hexec, hstart]
    obtain ⟨content, sending⟩ := x
    refine ⟨fun r hr => ?_, fun m hm => ?_, fun t ht => ?_, fun n d hn hd => ⟨s.noticeTel n d, rfl, rfl, rfl, ?_, ?_⟩⟩
    · subst hr
      rw [upBegin_report rfl]
      rfl
    · subst hm
      rw [upBegin_other rfl]
      rfl
    · subst ht
      rw [upBegin_other rfl]
      rfl
    · rw [← Notice.body_eq]
      exact carries_fillBody _ _
    · subst hn
      rw [upBegin_other rfl, State.upTelegram, hd]
      rfl
  · obtain ⟨_, hquiet⟩ := id hrest
    have hstart : s.upStart = s := by
      unfold State.upStart
      split_ifs with hbusy
      · rfl
      · simp only [Bool.or_eq_true, bne_iff_ne, ne_eq, not_or, not_not, Bool.not_eq_true, Option.isSome_eq_false_iff,
          Option.isNone_iff_eq_none] at hbusy
        have hnone := (hno.resolve_left (not_not.2 hbusy.1.2)).resolve_left (not_not.2 hbusy.2)
        rw [State.upNext_none hnone]
    simp only [exec, execUpTransmitStart]
    rw [hstart, State.settled_of_quiet s hquiet]
  · obtain ⟨hreset, hquiet⟩ := hrest
    have hfilter : (fun y : UpItem => !y.sending) = fun y => y.sending == false := by
      funext y
      cases y.sending <;> rfl
    simp only [exec, execUpTransmitEnd]
    rw [State.upEnd, if_neg (by simp [hreset, hline]), State.settled_setPort (by exact hquiet), hfilter]
    rfl
  · obtain ⟨_, hquiet⟩ := id hrest
    simp only [exec, execUpTransmitEnd]
    rw [State.upEnd, if_pos (by simp [hline]), State.settled_of_quiet s hquiet]

end Sys2Proof.Machine
end

section

/-! PROOF. Conditions and condition sets, trip actions and entries to HALTED, and the release scan. -/

namespace Sys2Proof.Machine

/-! ### Conditions (R24 to R26) -/

theorem StateTest.passes_iff (t : StateTest) (r : ReportState) :
    t.passes r = true ↔ match t with | .any => True | .oneOf l => r ∈ l := by
  cases t <;> simp [StateTest.passes]

theorem BitVec.and_eq_right_iff (v m : Word) : v &&& m = m ↔ ∀ g < 16, m.getLsbD g = true → v.getLsbD g = true := by
  constructor
  · intro h g _ hm
    rw [← h, BitVec.getLsbD_and, Bool.and_eq_true] at hm
    exact hm.1
  · intro h
    refine BitVec.eq_of_getLsbD_eq fun g hg => ?_
    rw [BitVec.getLsbD_and]
    cases hm : m.getLsbD g with
    | false => exact Bool.and_false _
    | true => rw [h g hg hm]; rfl

theorem BitVec.and_eq_zero_iff_bits (v m : Word) : v &&& m = 0 ↔ ∀ g < 16, m.getLsbD g = true → v.getLsbD g = false := by
  constructor
  · intro h g _ hm
    have hbit := congrArg (fun x : Word => x.getLsbD g) h
    simp only [BitVec.getLsbD_and, hm, Bool.and_true] at hbit
    rw [hbit]
    exact BitVec.getLsbD_zero
  · intro h
    refine BitVec.eq_of_getLsbD_eq fun g hg => ?_
    rw [BitVec.getLsbD_and]
    cases hm : m.getLsbD g with
    | false => rw [Bool.and_false]; exact BitVec.getLsbD_zero.symm
    | true => rw [h g hg hm]; exact BitVec.getLsbD_zero.symm

theorem ValueTest.passes_iff (t : ValueTest) (ref1 ref2 : Word) (cls : PointClass) (v : Word) :
    t.passes ref1 ref2 cls v = true ↔ match t with
      | .noTest => True
      | .atLeast => cls ≠ .gateset ∧ ref1.toInt ≤ v.toInt
      | .atMost => cls ≠ .gateset ∧ v.toInt ≤ ref1.toInt
      | .between => cls ≠ .gateset ∧ ref1.toInt ≤ v.toInt ∧ v.toInt ≤ ref2.toInt
      | .outside => cls ≠ .gateset ∧ (v.toInt < ref1.toInt ∨ ref2.toInt < v.toInt)
      | .allOpen => cls = .gateset ∧ ∀ g < 16, ref1.getLsbD g = true → v.getLsbD g = true
      | .allClosed => cls = .gateset ∧ ∀ g < 16, ref1.getLsbD g = true → v.getLsbD g = false := by
  cases t with
  | allOpen => simp only [ValueTest.passes, Bool.and_eq_true, beq_iff_eq, BitVec.and_eq_right_iff]
  | allClosed => simp only [ValueTest.passes, Bool.and_eq_true, beq_iff_eq, BitVec.and_eq_zero_iff_bits]
  | between => simp [ValueTest.passes, and_assoc]
  | _ => simp [ValueTest.passes]

theorem State.valuePasses_eq {s : State} {c : Condition} {st : PointStatic} (h : s.readPoint c.point = some st) (v : Word) :
    s.valuePasses c v = c.test.passes c.ref1 c.ref2 st.cls v := by
  unfold State.valuePasses
  rw [h]
  cases c.test <;> rfl

theorem State.condHolds_iff {s : State} {c : Condition} {st : PointStatic} (h : s.readPoint c.point = some st) :
    s.condHolds c = true ↔ ∃ rep, (s.point c.point).report = some rep ∧ (s.point c.point).fresh = true ∧
      c.states.passes rep.state = true ∧ c.test.passes c.ref1 c.ref2 st.cls rep.value = true := by
  unfold State.condHolds
  cases hrep : (s.point c.point).report with
  | none => simp
  | some rep => simp [State.valuePasses_eq h, and_assoc]

theorem State.setHolds_iff (s : State) (k : Nat) : s.setHolds k = true ↔
    ∃ cs, s.readSet k = some cs ∧ cs.defined = true ∧ s.conditionsHold cs = true := by
  unfold State.setHolds
  cases hread : s.readSet k with
  | none => simp
  | some cs => simp

theorem State.setHasStale_iff (s : State) (o : Option Nat) : s.setHasStale o = true ↔
    ∃ k cs, o = some k ∧ s.readSet k = some cs ∧ ∃ x ∈ cs.conditions, (s.point x.point).fresh = false := by
  cases o with
  | none => simp [State.setHasStale]
  | some k => cases hread : s.readSet k <;> simp [State.setHasStale, State.setPoints, hread]

/-- Settles O48: each test, the combinations, and the two forms of stale-blocking. -/
theorem conditionHoldsByItsThreeTests : Obligations.ConditionHoldsByItsThreeTests := by
  refine ⟨fun s c st hst => ?_, fun s k => ?_, fun s b k => ⟨rfl, rfl⟩, State.setHasStale_iff,
    fun s c => ⟨rfl, fun d o hd => ?_⟩⟩
  · rw [State.condHolds_iff hst]
    refine exists_congr fun rep => and_congr_right' (and_congr_right' (and_congr ?_ ?_))
    · exact StateTest.passes_iff _ _
    · exact ValueTest.passes_iff _ _ _ _ _
  · rw [State.setHolds_iff]
    refine exists_congr fun cs => and_congr_right' (and_congr_right' ?_)
    unfold State.conditionsHold
    cases cs.combination
    · exact List.all_eq_true
    · exact List.any_eq_true
  · have hblocked : ∀ o : Option Nat, (!s.setHoldsOr true o && s.setHasStale o) = true ↔
        s.setHoldsOr true o = false ∧ s.setHasStale o = true := fun o => by simp
    simp only [List.mem_cons, Prod.mk.injEq, List.not_mem_nil, or_false] at hd
    rcases hd with ⟨rfl, rfl⟩ | ⟨rfl, rfl⟩ | ⟨rfl, rfl⟩
    · exact hblocked c.warmSet
    · exact hblocked c.runSet
    · exact hblocked c.flushSet

/-! ### Trip actions (R73, R74) -/

theorem State.issueTrip_window {s : State} {a : TripAction} {i : Nat} {w : Window} (h : s.windowOf a.point = .window i w)
    (n : Nat) : State.issueTrip n s a =
      if (s.port (.dn w.port)).state ≠ .up then s.tripFailed n a .noRoute
      else if s.priorityFree w.port then { s.addEntry (s.tripEntry n a w) with tagCounter := s.tagCounter + 1 }
      else s.tripFailed n a .noSlot := by
  unfold State.issueTrip
  rw [h]

/-! ### Entries to HALTED (R63, R68, R69) -/

theorem haltReaches_iff (h : HaltCause) (p : Phase) : haltReaches h p = true ↔ (h, p) ∈ haltTable := by
  cases h <;> cases p <;> decide

theorem concerns_of_definedRec {s u : State} (h : ∀ n, u.definedRec n = s.definedRec n) (n : Nat) (c : SectionRec) (m : Nat) :
    concerns u n c m ↔ concerns s n c m := by
  unfold concerns
  rw [h]

theorem State.mem_needers {s u : State} (h : ∀ n, u.definedRec n = s.definedRec n) (n m : Nat) :
    m ∈ u.dependents n ↔ m < 16 ∧ ∃ f, s.definedRec m = some f ∧ n ∈ f.needs := by
  rw [State.mem_dependents, h]

/-- Section `n` HALTED by a cause, with the notice offered, before PERMIT-OUT follows. -/
def State.haltEntered (s : State) (n : Nat) (h : HaltCause) : State :=
  (s.setSect n ⟨.halted, s.clock, some h, .notCounting, false, true⟩).offerNotice .phaseChanged (some n) none (.halt h)

theorem State.inPhase_halted (s : State) (n : Nat) (c : Option HaltCause) :
    s.inPhase n .halted c = ⟨.halted, s.clock, c, .notCounting, false, true⟩ := by
  rw [State.inPhase, State.runEmptyOnEntry, if_neg (by simp)]

theorem State.entryReads_halted (s : State) (n : Nat) : s.entryReads n .halted = [] := by
  unfold State.entryReads
  split <;> rfl

theorem State.entryHalt_halted (s : State) (n : Nat) : s.entryHalt n .halted = none := by
  unfold State.entryHalt
  split <;> rfl

theorem State.haltEntered_activeBank (s : State) (n : Nat) (h : HaltCause) : (s.haltEntered n h).activeBank = s.activeBank :=
  State.activeBank_of_steady (by simp [State.haltEntered])

theorem State.haltEntered_phaseOf (s : State) (n : Nat) (h : HaltCause) : (s.haltEntered n h).phaseOf n = .halted := by
  simp [State.haltEntered, State.phaseOf]

theorem State.permitOutOf_halted {s : State} {n k : Nat} {c : SectionRec} (hc : s.definedRec n = some c)
    (hout : c.permitOut = some k) (hphase : s.phaseOf n = .halted) : s.permitOutOf n = s.setPermitOut k false := by
  have hlevel : (s.mode != .transparent && s.phaseOf n == .running) = false := by
    rw [hphase]
    exact Bool.and_false _
  simp only [State.permitOutOf, hc, hout, hlevel]

/-- With every entry of the active bank good, an entry to HALTED by its parts. -/
theorem State.enterHalted_of_good {s : State} (hgood : ∀ e, s.activeBank.entryGood e = true) (n : Nat) (h : HaltCause) :
    s.enterHalted n h = (((s.haltEntered n h).permitOutOf n).addTasks (((s.haltEntered n h).permitOutOf n).changeTasks n .halted)).addTasks
      (.tripActions n :: (((s.haltEntered n h).permitOutOf n).addTasks
        (((s.haltEntered n h).permitOutOf n).changeTasks n .halted)).haltTasks n) := by
  have hbank : ((s.haltEntered n h).permitOutOf n).activeBank = s.activeBank :=
    (State.activeBank_of_steady (by simp)).trans (s.haltEntered_activeBank n h)
  have hreads (l : List EntryRef) : ((s.haltEntered n h).permitOutOf n).checkReads l = (s.haltEntered n h).permitOutOf n :=
    State.checkReads_of_good _ l fun e _ => hbank ▸ hgood e
  have hchange : s.changePhase n .halted (some h) =
      ((s.haltEntered n h).permitOutOf n).addTasks (((s.haltEntered n h).permitOutOf n).changeTasks n .halted) := by
    have hentered : (s.setSect n (s.inPhase n .halted (some h))).offerNotice .phaseChanged (some n) none
        (changeCause .halted (some h)) = s.haltEntered n h := by
      rw [State.inPhase_halted]
      rfl
    unfold State.changePhase
    simp only [hentered, hreads]
  unfold State.enterHalted
  simp only [hchange]

/-- Settles O50: the issue of a trip action by its window, and an entry to HALTED by what it starts. -/
theorem tripActionsAreIssuedOrNoticed : Obligations.TripActionsAreIssuedOrNoticed := by
  refine ⟨fun s n a i w hw => ⟨fun hport hpart hlane => ?_, fun hport => ?_, fun hport hfull => ?_⟩,
    fun s n a => ⟨fun habsent => ?_, fun i hfaulty => ?_⟩, fun s p => s.searchFinds_range _,
    fun s n => ⟨fun c hc => ⟨fun hnil => ?_, fun a l hcons => ?_⟩, fun hnone => ?_⟩, fun s n h hno => ?_,
    fun s n h c hgood hc hreach => ?_⟩
  · show State.issueTrip n s a = _
    rw [State.issueTrip_window hw, if_neg (not_not.2 hport), if_pos ((s.priorityFree_iff w.port).2 ⟨hpart, hlane⟩)]
    rfl
  · exact (State.issueTrip_window hw n).trans (if_pos hport)
  · refine (State.issueTrip_window hw n).trans ?_
    rw [if_neg (not_not.2 hport), State.priorityFree_eq_false hfull]
    rfl
  · show State.issueTrip n s a = _
    rw [State.issueTrip, habsent]
    rfl
  · show State.issueTrip n s a = _
    rw [State.issueTrip, hfaulty]
    rfl
  · rw [State.issueTrips, hc]
    simp only [hnil, List.foldl_nil]
  · rw [State.issueTrips, hc]
    simp only [hcons, List.foldl_cons]
  · rw [State.issueTrips, hnone]
  · exact if_neg fun hreach => hno ((haltReaches_iff h _).1 hreach)
  · have hentered : ∀ m, (s.haltEntered n h).definedRec m = s.definedRec m :=
      State.definedRec_of_activeBank (s.haltEntered_activeBank n h)
    have hpermit : ∀ m, ((s.haltEntered n h).permitOutOf n).definedRec m = s.definedRec m :=
      State.definedRec_of_activeBank ((State.activeBank_of_steady (by simp)).trans (s.haltEntered_activeBank n h))
    have htake : s.takeHalt n h = s.enterHalted n h := if_pos ((haltReaches_iff h _).2 hreach)
    have hagenda : ((s.haltEntered n h).permitOutOf n).agenda = s.agenda := by
      rw [State.permitOutOf_agenda, State.haltEntered, State.offerNotice_agenda]
      rfl
    have hnone : c.permitOut = none → (s.haltEntered n h).permitOutOf n = s.haltEntered n h := fun hout =>
      State.permitOutOf_none ((hentered n).trans hc) hout
    have hsome : ∀ k, c.permitOut = some k → (s.haltEntered n h).permitOutOf n = (s.haltEntered n h).setPermitOut k false :=
      fun k hout => State.permitOutOf_halted ((hentered n).trans hc) hout (s.haltEntered_phaseOf n h)
    have hparts := State.enterHalted_of_good hgood n h
    generalize (s.haltEntered n h).permitOutOf n = u at hpermit hagenda hnone hsome hparts
    refine ⟨s.haltEntered n h, u, sectionNumbers.filter (u.related n),
      if c.role = .utility then u.dependents n else [],
      (u.feeders n).filter (fun m => match u.definedRec m with | some r => r.role != .store | none => false), rfl, hnone, hsome,
      fun m => ?_, fun m => ?_, fun m => ?_, ?_⟩
    · rw [State.related_iff_concerns ((hpermit n).trans hc), concerns_of_definedRec hpermit]
    · split_ifs with hrole
      · rw [State.mem_needers hpermit]
        simp [hrole]
      · simp [hrole]
    · rw [List.mem_filter, State.mem_feeders, hpermit]
      cases hf : s.definedRec m <;> simp [and_assoc]
    · have hhalts : (u.addTasks (u.changeTasks n .halted)).haltTasks n =
          (if c.role = .utility then u.dependents n else []).map (fun m => Task.halt m .needLost) ++
          ((u.feeders n).filter (fun m => match u.definedRec m with | some r => r.role != .store | none => false)).map
            (fun m => Task.halt m .feedStop) := by
        have hrec : (u.addTasks (u.changeTasks n .halted)).definedRec n = some c := (hpermit n).trans hc
        unfold State.haltTasks
        rw [hrec]
        simp only []
        split_ifs <;> rfl
      have hchange : u.changeTasks n .halted =
          (sectionNumbers.filter (u.related n)).map Task.reexamine ++ [.completion, .scan] := by
        rw [State.changeTasks, State.entryHalt_halted]
        rfl
      rw [htake, hparts, hhalts, hchange]
      unfold State.addTasks
      rw [hagenda]
      simp only [List.append_assoc, List.cons_append, List.nil_append]

/-! ### The release scan (R125, R126) -/

/-- What of a held record stands through a scan. -/
def HeldRec.kept (h : HeldRec) : PointTel × Clock × Clock := (h.tel, h.arrival, h.deadline)

theorem scanRest_kept (l ahead : List HeldRec) (s : State) :
    ((scanRest s ahead l).held.map HeldRec.kept).Sublist ((ahead ++ l).map HeldRec.kept) := by
  induction l generalizing ahead s with
  | nil =>
    rw [List.append_nil]
    exact List.Sublist.refl _
  | cons h rest ih =>
    have hskip : ((ahead ++ rest).map HeldRec.kept).Sublist ((ahead ++ h :: rest).map HeldRec.kept) :=
      ((List.sublist_cons_self h rest).append_left ahead).map _
    unfold scanRest
    split
    next s1 _ => exact (ih ahead s1).trans hskip
    next s1 h1 heq =>
      have hkept : h1.kept = h.kept := by
        unfold State.rescreen State.refuseHeld at heq
        split at heq
        · split at heq <;> cases heq
        · split at heq
          · split at heq <;> cases heq
          · cases heq
          · split at heq
            · cases heq
            · cases heq
              rfl
          · cases heq
      refine (ih _ s1).trans ?_
      rw [List.append_assoc, List.map_append, List.map_append, List.map_append, List.map_singleton, hkept, List.map_cons]
      exact List.Sublist.refl _
    next s1 f _ =>
      refine List.Sublist.trans (List.Sublist.map _ ?_) hskip
      unfold State.activeFault
      split
      · rw [State.emptyHeld_held]
        exact List.nil_sublist _
      · exact List.Sublist.refl _

theorem scanRest_gone {s s1 : State} {h : HeldRec} {ahead rest : List HeldRec} (hre : s.rescreen h ahead = .gone s1) :
    scanRest s ahead (h :: rest) = scanRest s1 ahead rest := by
  rw [scanRest, hre]

/-- The effect of a verdict on a held record (R126). -/
def State.reapply (s : State) (h : HeldRec) (a : Addressed) : Verdict → Rescreened
  | .refuse r f => s.refuseHeld h r f
  | .priority => .gone (s.passPriority h.tel a)
  | .hold r limit c => if limit = 0 then .gone (s.refuse h.tel r.refusal) else .again s (h.again a.logical r c)
  | .admission row c => .gone (s.admitOrder h.tel a row c)

theorem State.rescreen_known {s : State} {h : HeldRec} {a : Addressed} (hd : s.judgeDestination h.tel = .known a)
    (ahead : List HeldRec) : s.rescreen h ahead = s.reapply h a (s.judgeOrder h.tel a ahead) := by
  rw [State.rescreen, hd]
  simp only []
  cases s.judgeOrder h.tel a ahead <;> rfl

theorem scanRest_faulted {s : State} {h : HeldRec} {ahead rest : List HeldRec} {r : RefusalReason} {f : EntryRef}
    (hre : s.rescreen h ahead = s.refuseHeld h r (some f)) :
    scanRest s ahead (h :: rest) = ({ s.refusedWith h.tel r with held := ahead ++ rest } : State).activeFault f := by
  rw [scanRest, hre, State.refuseHeld, State.refuse_eq]
  rfl

/-! ### Scans and the agenda -/

theorem State.charge_setAgenda (s : State) (l : List Task) (c : Option BudgetClass) (k : Nat) :
    (s.setAgenda l).charge c k = (s.charge c k).setAgenda l := by
  unfold State.charge
  split <;> rfl

theorem State.admitPoint_setAgenda (s : State) (l : List Task) (a : Addressed) (v : Word) :
    (s.setAgenda l).admitPoint a v = (s.admitPoint a v).setAgenda l := by
  unfold State.admitPoint
  split <;> rfl

theorem State.admitOrder_setAgenda (s : State) (l : List Task) (t : PointTel) (a : Addressed) (row : ScreenRow)
    (c : Option BudgetClass) : (s.setAgenda l).admitOrder t a row c = (s.admitOrder t a row c).setAgenda l := by
  unfold State.admitOrder
  have hshape : (s.setAgenda l).shape a row t.value = s.shape a row t.value := rfl
  have hpledge : (s.setAgenda l).pledgeOf a = s.pledgeOf a := rfl
  simp only [hshape, hpledge, State.charge_setAgenda, State.admitPoint_setAgenda]
  rfl

theorem State.refuse_setAgenda (s : State) (l : List Task) (t : PointTel) (r : RefusalReason) :
    (s.setAgenda l).refuse t r = (s.refuse t r).setAgenda l := by
  rw [State.refuse_eq, State.refuse_eq]
  rfl

theorem State.offerNotice_setAgenda (s : State) (l : List Task) (k : NoticeKind) (n p : Option Nat) (c : Cause) :
    (s.setAgenda l).offerNotice k n p c = (s.offerNotice k n p c).setAgenda l := by
  unfold State.offerNotice
  have hsame : (s.setAgenda l).noticeMask = s.noticeMask ∧ (s.setAgenda l).upQueue = s.upQueue ∧
      (s.setAgenda l).debt = s.debt := ⟨rfl, rfl, rfl⟩
  obtain ⟨hmask, hqueue, hdebt⟩ := hsame
  rw [hmask, hqueue, hdebt]
  split_ifs <;> rfl

theorem State.activeFault_setAgenda (s : State) (l : List Task) (e : EntryRef) :
    (s.setAgenda l).activeFault e = (s.activeFault e).setAgenda l := by
  have hfold : ∀ (q : List HeldRec) (r : RefusalReason) (u : State),
      q.foldl (fun s h => s.refuse h.tel r) (u.setAgenda l) = (q.foldl (fun s h => s.refuse h.tel r) u).setAgenda l := by
    intro q r
    induction q with
    | nil => exact fun u => rfl
    | cons h q ih =>
      intro u
      rw [List.foldl_cons, List.foldl_cons, State.refuse_setAgenda, ih]
  have hempty : ∀ (r : RefusalReason) (u : State), (u.setAgenda l).emptyHeld r = (u.emptyHeld r).setAgenda l := fun r u =>
    hfold u.held r (u.setHeld [])
  unfold State.activeFault
  have hmode : (s.setAgenda l).mode = s.mode := rfl
  rw [hmode]
  split_ifs
  · have hfail : ({ s.setAgenda l with mode := .failHold, fault := true } : State) =
        ({ s with mode := .failHold, fault := true } : State).setAgenda l := rfl
    rw [hfail, State.offerNotice_setAgenda, hempty]
  · rfl

/-- What a re-screening makes of a state with another agenda. -/
def Rescreened.withAgenda (l : List Task) : Rescreened → Rescreened
  | .gone s => .gone (s.setAgenda l)
  | .again s h => .again (s.setAgenda l) h
  | .faulted s f => .faulted (s.setAgenda l) f

theorem State.refuseHeld_setAgenda (s : State) (l : List Task) (h : HeldRec) (r : RefusalReason) (f : Option EntryRef) :
    (s.setAgenda l).refuseHeld h r f = (s.refuseHeld h r f).withAgenda l := by
  unfold State.refuseHeld
  cases f <;> simp only [State.refuse_setAgenda, Rescreened.withAgenda]

theorem State.reapply_setAgenda (s : State) (l : List Task) (h : HeldRec) (a : Addressed) (v : Verdict) :
    (s.setAgenda l).reapply h a v = (s.reapply h a v).withAgenda l := by
  cases v with
  | refuse r f => exact s.refuseHeld_setAgenda l h r f
  | priority => rfl
  | hold r limit c =>
    simp only [State.reapply, State.refuse_setAgenda]
    split_ifs <;> rfl
  | admission row c =>
    simp only [State.reapply, State.admitOrder_setAgenda]
    rfl

theorem State.rescreen_setAgenda (s : State) (l : List Task) (h : HeldRec) (ahead : List HeldRec) :
    (s.setAgenda l).rescreen h ahead = (s.rescreen h ahead).withAgenda l := by
  have hdest : (s.setAgenda l).judgeDestination h.tel = s.judgeDestination h.tel := rfl
  have horder : ∀ a, (s.setAgenda l).judgeOrder h.tel a ahead = s.judgeOrder h.tel a ahead := fun a => rfl
  cases hd : s.judgeDestination h.tel with
  | refused r f =>
    rw [State.rescreen, State.rescreen, hdest, hd]
    exact s.refuseHeld_setAgenda l h r f
  | known a =>
    rw [State.rescreen_known (hdest.trans hd) ahead, State.rescreen_known hd ahead, horder a]
    exact s.reapply_setAgenda l h a _

theorem scanRest_setAgenda (l : List Task) (q ahead : List HeldRec) (s : State) :
    scanRest (s.setAgenda l) ahead q = (scanRest s ahead q).setAgenda l := by
  induction q generalizing ahead s with
  | nil => rfl
  | cons h rest ih =>
    rw [scanRest, scanRest, State.rescreen_setAgenda]
    cases s.rescreen h ahead with
    | gone s1 => exact ih ahead s1
    | again s1 h1 => exact ih _ s1
    | faulted s1 f => exact (s1.setHeld (ahead ++ rest)).activeFault_setAgenda l f

theorem State.scan_setAgenda (s : State) (l : List Task) : (s.setAgenda l).scan = s.scan.setAgenda l :=
  scanRest_setAgenda l s.held [] s

theorem candidates_scans (k : Nat) : candidates (List.replicate k .scan) = List.replicate k .scan := by
  unfold candidates
  simp [Task.isExternal, Task.isUrgent, Task.isHalt]

theorem eraseDups_scans (k : Nat) : (List.replicate (k + 1) Task.scan).eraseDups = [.scan] := by
  rw [List.replicate_succ, List.eraseDups_cons]
  simp

theorem foldl_scan_of_empty (l : List Nat) {s : State} (h : s.held = []) : l.foldl (fun u _ => u.scan) s = s := by
  induction l with
  | nil => rfl
  | cons k l ih => rw [List.foldl_cons, State.scan_of_empty s h, ih]

/-- Scans alone are taken one by one. -/
theorem settle_scans (k : Nat) : ∀ (n : Nat) (s : State), k < n → s.agenda = [] →
    settle n (s.setAgenda (List.replicate k .scan)) = (List.range k).foldl (fun u _ => u.scan) s := by
  induction k with
  | zero =>
    intro n s hn hs
    rw [settle_of_no_live n _ rfl (by omega)]
    show s.setAgenda [] = s
    rw [← hs]
    rfl
  | succ k ih =>
    intro n s hn hs
    by_cases hheld : s.held = []
    · have hlive : (s.setAgenda (List.replicate (k + 1) .scan)).liveTasks = [] := by
        refine List.filter_eq_nil_iff.2 fun t ht => ?_
        obtain rfl := List.eq_of_mem_replicate ht
        simp [State.isInert, hheld]
      rw [settle_of_no_live n _ hlive (by omega), foldl_scan_of_empty _ hheld]
      show s.setAgenda [] = s
      rw [← hs]
      rfl
    · obtain ⟨n, rfl⟩ := Nat.exists_eq_add_of_lt hn
      have hlive : (s.setAgenda (List.replicate (k + 1) .scan)).liveTasks = List.replicate (k + 1) .scan := by
        refine List.filter_eq_self.2 fun t ht => ?_
        obtain rfl := List.eq_of_mem_replicate ht
        simp [State.isInert, hheld]
      have hoptions : (s.setAgenda (List.replicate (k + 1) .scan)).options = [.scan] := by
        rw [State.options, hlive, candidates_scans, eraseDups_scans]
      have hstep : settle (k + 1 + n + 1) (s.setAgenda (List.replicate (k + 1) .scan)) =
          settle (k + 1 + n) (s.scan.setAgenda (List.replicate k .scan)) := by
        rw [settle, hoptions]
        refine congrArg (settle (k + 1 + n)) ?_
        rw [hlive, List.replicate_succ, List.erase_cons_head, ← State.scan_setAgenda]
        rfl
      have hquiet : s.scan.agenda = [] := by
        have hself : s.setAgenda [] = s := by
          rw [← hs]
          rfl
        rw [← hself, State.scan_setAgenda]
        rfl
      rw [hstep, ih _ _ (by omega) hquiet, List.range_succ_eq_map, List.foldl_cons, List.foldl_map]

/-- Settles O51: the scan by recursion on the records left, and scans alone by the settling of an event. -/
theorem releaseScanRescreensOldestFirst : Obligations.ReleaseScanRescreensOldestFirst := by
  refine ⟨fun s => ⟨rfl, scanRest_kept s.held [] s⟩, fun s ahead => rfl,
    fun s ahead rest h a hd => ⟨fun row c hv => ?_, fun r hv => ?_, fun r limit c hlimit hv => ?_, fun r c hv => ?_⟩,
    fun s ahead rest h r hd => ?_, fun s ahead rest h r f hf => ?_, fun s k hk hquiet => ?_⟩
  · exact scanRest_gone ((State.rescreen_known hd ahead).trans (congrArg (s.reapply h a) hv))
  · rw [scanRest_gone ((State.rescreen_known hd ahead).trans (congrArg (s.reapply h a) hv)), State.refuse_eq]
  · rw [scanRest, State.rescreen_known hd ahead, hv, State.reapply, if_neg hlimit]
    rfl
  · rw [scanRest_gone ((State.rescreen_known hd ahead).trans (congrArg (s.reapply h a) hv)), State.refuse_eq]
  · have hre : s.rescreen h ahead = .gone (s.refuse h.tel r) := by rw [State.rescreen, hd]; rfl
    rw [scanRest_gone hre, State.refuse_eq]
  · refine scanRest_faulted ?_
    rcases hf with hd | ⟨a, hd, hv⟩
    · rw [State.rescreen, hd]
    · exact (State.rescreen_known hd ahead).trans (congrArg (s.reapply h a) hv)
  · exact settle_scans k Config.settleBound s (by unfold Config.settleBound; omega) hquiet

end Sys2Proof.Machine
end

section

/-! PROOF. The management handler, and the requests about the notices and the image. -/

namespace Sys2Proof.Machine

/-! ### The handler and its answers (R174) -/

theorem State.handle_turn {s : State} {r : MgmtTel} {rest : List MgmtTel} (h : s.turnOf r rest) {takes : MgmtTel → Bool}
    (judge : State → MgmtTel → State) (ht : takes r = true) : s.handle takes judge = judge (s.setRequests rest) r := by
  obtain ⟨⟨hreset, _⟩, hcheck, hrequests⟩ := h
  rw [State.handle, State.nextRequest, hreset, hcheck, hrequests]
  exact if_pos ht

theorem State.withBody_some {α : Type} {s : State} {r : MgmtTel} {read : List Byte → Option α}
    (judge : State → MgmtTel → α → State) {x : α} (h : read r.body = some x) : s.withBody r read judge = judge s r x := by
  rw [State.withBody, h]

theorem State.withBody_none {α : Type} {s : State} {r : MgmtTel} {read : List Byte → Option α}
    (judge : State → MgmtTel → α → State) (h : read r.body = none) :
    s.withBody r read judge = s.reject r .badBody none := by
  rw [State.withBody, h]

theorem State.withEmptyBody_nil {s : State} {r : MgmtTel} (judge : State → MgmtTel → State) (h : r.body = []) :
    s.withEmptyBody r judge = judge s r :=
  if_pos h

theorem State.withEmptyBody_bytes {s : State} {r : MgmtTel} (judge : State → MgmtTel → State) (h : r.body ≠ []) :
    s.withEmptyBody r judge = s.reject r .badBody none :=
  if_neg h

theorem State.respond_known (s : State) (src tag code : Byte) (bs : List Byte) :
    s.respond src tag code (known bs) = { s with upQueue := fillPlace s.upQueue ⟨src, s.station, tag, code, bs⟩ } := by
  have hall : (known bs).all Option.isSome = true := by simp [known]
  rw [State.respond, hall, fillBody_known]
  rfl

theorem State.accept_nil (s : State) (r : MgmtTel) (rest : List MgmtTel) :
    (s.setRequests rest).accept r [] = s.answered r rest 0 [] :=
  State.respond_known (s.setRequests rest) r.src r.tag 0 []

theorem State.reject_none (s : State) (r : MgmtTel) (rest : List MgmtTel) (c : Rejection) :
    (s.setRequests rest).reject r c none = s.rejectedWith r rest c :=
  State.respond_known (s.setRequests rest) r.src r.tag 1 [Rejection.code c, 0, 0, 0]

theorem rejectBody_some (c : Rejection) (e : EntryRef) : rejectBody c (some e) = known (rejectedEntry c e) := by
  rw [rejectBody, natBytes_eq]
  rfl

theorem State.reject_some (s : State) (r : MgmtTel) (rest : List MgmtTel) (c : Rejection) (e : EntryRef) :
    (s.setRequests rest).reject r c (some e) = s.answered r rest 1 (rejectedEntry c e) := by
  rw [State.reject, rejectBody_some, State.respond_known]
  rfl

/-- An answer with no open byte draws nothing, and one with open bytes a single value. -/
theorem State.acceptedWith_accept (s : State) (r : MgmtTel) (rest : List MgmtTel) (content : List (Option Byte)) :
    acceptedWith s ((s.setRequests rest).accept r content) r rest content := by
  refine ⟨fillBody s.draws content, carries_fillBody _ _, ?_⟩
  rw [State.accept, State.respond]
  split <;> rfl

theorem State.turnOf_quiet {s : State} {r : MgmtTel} {rest : List MgmtTel} (h : s.turnOf r rest) : s.agenda = [] := h.1.2

theorem State.rejectedWith_settled {s : State} {r : MgmtTel} {rest : List MgmtTel} (h : s.turnOf r rest) (c : Rejection) :
    (s.rejectedWith r rest c).settled = s.rejectedWith r rest c :=
  have hquiet := State.turnOf_quiet h
  State.settled_of_quiet _ hquiet

theorem hasCode_of {r : MgmtTel} {n : Nat} (h : r.code.toNat = n) : hasCode n r = true := by simp [hasCode, h]

/-! ### SET_NOTICES (R177) -/

theorem State.exec_setNotices {s : State} {r : MgmtTel} {rest : List MgmtTel} (h : s.turnOf r rest) (hcode : r.code.toNat = 11)
    {b : List NoticeKind × Option Byte} (hread : readNoticesBody r.body = some b) :
    exec .setNotices s = .next ((s.setRequests rest).judgeNotices r b).settled := by
  change Host.Outcome.next (State.settled _) = _
  rw [State.handle_turn h _ (hasCode_of hcode), State.withBody_some _ hread]

theorem getFlag_flag (b : Bool) (rest : List Byte) : getFlag ((if b then (1 : Byte) else 0) :: rest) = some (b, rest) := by
  cases b <;> rfl

theorem getMany_flags (f : List Bool) (rest : List Byte) :
    getMany getFlag f.length (f.map (fun b => if b then (1 : Byte) else 0) ++ rest) = some (f, rest) := by
  induction f with
  | nil => rfl
  | cons b f ih =>
    rw [List.length_cons, List.map_cons, List.cons_append, getMany, getFlag_flag]
    simp only [ih, Option.map_some]

/-- Settles O35. -/
theorem setNoticesReplacesMaskAndDestination : Obligations.SetNoticesReplacesMaskAndDestination := by
  unfold Obligations.SetNoticesReplacesMaskAndDestination
  refine ⟨fun s r rest m d hturn hcode hread => ⟨fun hfield => ?_, fun hzero hown => ?_⟩, fun f d hf => ?_⟩
  · rw [State.exec_setNotices hturn hcode hread, State.judgeNotices, if_pos (by exact hfield), State.reject_none,
      State.rejectedWith_settled hturn]
  · rw [State.exec_setNotices hturn hcode hread, State.judgeNotices,
      if_neg (not_or.2 ⟨hzero, by exact hown⟩)]
    have hquiet := State.turnOf_quiet hturn
    have hanswer := State.accept_nil { s with noticeMask := m, noticeDest := d } r rest
    exact congrArg _ ((congrArg State.settled hanswer).trans (State.settled_of_quiet _ hquiet))
  · have hflags := getMany_flags f
    rw [hf] at hflags
    exact ⟨by simp only [readNoticesBody, hflags]; rfl, by simp only [readNoticesBody, hflags]; rfl⟩

/-! ### READ_IMAGE and CLEAR_MARKS (R18, R103, R176) -/

theorem State.clearPointMarks_succ (s : State) (first count : Nat) :
    s.clearPointMarks first (count + 1) =
      (s.clearPointMarks first count).setPoint (first + count)
        { (s.clearPointMarks first count).point (first + count) with mark := false } := by
  simp only [State.clearPointMarks, List.range_succ, List.foldl_append, List.foldl_cons, List.foldl_nil]

theorem State.clearPointMarks_frame (s : State) (first count : Nat) :
    s.clearPointMarks first count = { s with image := (s.clearPointMarks first count).image } := by
  induction count with
  | zero => rfl
  | succ count ih =>
    rw [State.clearPointMarks_succ]
    generalize s.clearPointMarks first count = u at ih
    rw [ih]
    rfl

theorem State.clearPointMarks_point (s : State) (first count p : Nat) :
    (s.clearPointMarks first count).point p =
      if first ≤ p ∧ p < first + count then { s.point p with mark := false } else s.point p := by
  induction count with
  | zero => rw [if_neg (by omega)]; rfl
  | succ count ih =>
    rw [State.clearPointMarks_succ, State.point_setPoint]
    by_cases hp : p = first + count
    · subst hp
      rw [if_pos rfl, if_pos (by omega), ih, if_neg (by omega)]
    · rw [if_neg hp, ih]
      by_cases hin : first ≤ p ∧ p < first + count
      · rw [if_pos hin, if_pos (by omega)]
      · rw [if_neg hin, if_neg (by omega)]

theorem putPoint_eq (d : PointDyn) : putPoint d = imageItems d := by
  obtain ⟨report, fresh, mark, tally, setPoint⟩ := d
  cases report <;> cases setPoint <;> rfl

theorem State.imageBody_eq (s : State) (first count : Nat) :
    s.imageBody first count = (List.range count).flatMap (fun i => imageItems (s.point (first + i))) := by
  simp only [State.imageBody, putPoint_eq]

theorem pointRun_iff {most first count : Nat} :
    pointRun most first count = true ↔ 1 ≤ count ∧ count ≤ most ∧ first + count ≤ 2048 := by
  simp [pointRun, and_assoc]

theorem State.exec_readImage {s : State} {r : MgmtTel} {rest : List MgmtTel} (h : s.turnOf r rest) (hcode : r.code.toNat = 9)
    {b : ImageBody} (hread : readImageBody r.body = some b) :
    exec .readImage s = .next ((s.setRequests rest).judgeImage r b).settled := by
  change Host.Outcome.next (State.settled _) = _
  rw [State.handle_turn h _ (hasCode_of hcode), State.withBody_some _ hread]

theorem State.exec_clearMarks {s : State} {r : MgmtTel} {rest : List MgmtTel} (h : s.turnOf r rest)
    (hcode : r.code.toNat = 10) {b : MarksBody} (hread : readMarksBody r.body = some b) :
    exec .clearMarks s = .next ((s.setRequests rest).judgeMarks r b).settled := by
  change Host.Outcome.next (State.settled _) = _
  rw [State.handle_turn h _ (hasCode_of hcode), State.withBody_some _ hread]

theorem acceptedWith_quiet {s t : State} {r : MgmtTel} {rest : List MgmtTel} {content : List (Option Byte)}
    (h : acceptedWith s t r rest content) (hquiet : s.agenda = []) : t.agenda = [] := by
  obtain ⟨body, _, ht⟩ := h
  rw [ht]
  exact hquiet

/-- The image after the marks of a run of points are cleared where that is asked for. -/
theorem State.clearedIf_point (s : State) (clear : Prop) [Decidable clear] (first count p : Nat) :
    (if clear then s.clearPointMarks first count else s).point p =
      if clear ∧ first ≤ p ∧ p < first + count then { s.point p with mark := false } else s.point p := by
  by_cases hc : clear
  · rw [if_pos hc, State.clearPointMarks_point]
    simp only [hc, true_and]
  · rw [if_neg hc, if_neg (by simp [hc])]

theorem State.clearedIf_frame (s : State) (clear : Prop) [Decidable clear] (first count : Nat) :
    (if clear then s.clearPointMarks first count else s) =
      { s with image := (if clear then s.clearPointMarks first count else s).image } := by
  split
  · exact State.clearPointMarks_frame s first count
  · rfl

theorem State.setRequests_withImage (s : State) (rest : List MgmtTel) (image : Store PointDyn) :
    ({ s.setRequests rest with image := image } : State) = State.setRequests { s with image := image } rest := rfl

theorem readImage_reads {s : State} {r : MgmtTel} {rest : List MgmtTel} {b : ImageBody} (hturn : s.turnOf r rest)
    (hcode : r.code.toNat = 9) (hread : readImageBody r.body = some b) (hrun : pointRun 26 b.first b.count = true) :
    ∃ t, exec .readImage s = .next t ∧
      (∀ p, t.point p =
        if b.clear = true ∧ b.first ≤ p ∧ p < b.first + b.count then { s.point p with mark := false } else s.point p) ∧
      (b.clear = false → t.image = s.image) ∧
      acceptedWith { s with image := t.image } t r rest
        ((List.range b.count).flatMap (fun i => imageItems (s.point (b.first + i)))) := by
  have hframe := State.clearedIf_frame (s.setRequests rest) (b.clear = true) b.first b.count
  have hpoint := State.clearedIf_point (s.setRequests rest) (b.clear = true) b.first b.count
  have hkept : b.clear = false →
      (if b.clear = true then (s.setRequests rest).clearPointMarks b.first b.count else s.setRequests rest).image = s.image :=
    fun hclear => by rw [hclear]; rfl
  rw [State.exec_readImage hturn hcode hread, State.judgeImage, if_pos hrun]
  generalize (if b.clear = true then (s.setRequests rest).clearPointMarks b.first b.count else s.setRequests rest) = u
    at hframe hpoint hkept ⊢
  rw [State.setRequests_withImage] at hframe
  have haccept := State.acceptedWith_accept { s with image := u.image } r rest
    ((s.setRequests rest).imageBody b.first b.count)
  rw [← hframe, State.imageBody_eq] at haccept
  rw [State.imageBody_eq, State.settled_of_quiet _ (acceptedWith_quiet haccept (State.turnOf_quiet hturn))]
  have himage : (u.accept r ((List.range b.count).flatMap
      fun i => imageItems ((s.setRequests rest).point (b.first + i)))).image = u.image := by
    obtain ⟨body, _, ht⟩ := haccept
    rw [ht]
    rfl
  refine ⟨_, rfl, fun p => ?_, fun hclear => himage.trans (hkept hclear), ?_⟩
  · rw [State.point, himage]
    exact hpoint p
  · rw [himage]
    exact haccept

theorem clearMarks_clears {s : State} {r : MgmtTel} {rest : List MgmtTel} {b : MarksBody} (hturn : s.turnOf r rest)
    (hcode : r.code.toNat = 10) (hread : readMarksBody r.body = some b)
    (hask : (b.range = true ∧ pointRun 2048 b.first b.count = true) ∨ (b.range = false ∧ b.capture = true)) :
    ∃ t, exec .clearMarks s = .next t ∧
      (∀ p, t.point p =
        if b.range = true ∧ b.first ≤ p ∧ p < b.first + b.count then { s.point p with mark := false } else s.point p) ∧
      (b.range = false → t.image = s.image) ∧
      t = { s.answered r rest 0 [] with
        image := t.image
        capture := if b.capture then none else s.capture
        moreRefusals := if b.capture then false else s.moreRefusals } := by
  have hframe := State.clearedIf_frame (s.setRequests rest) (b.range = true) b.first b.count
  have hpoint := State.clearedIf_point (s.setRequests rest) (b.range = true) b.first b.count
  have hkept : b.range = false →
      (if b.range = true then (s.setRequests rest).clearPointMarks b.first b.count else s.setRequests rest).image = s.image :=
    fun hclear => by rw [hclear]; rfl
  have hgood : (!b.range && !b.capture) = false ∧ (b.range && !pointRun 2048 b.first b.count) = false := by
    rcases hask with ⟨hrange, hrun⟩ | ⟨hrange, hcap⟩
    · simp [hrange, hrun]
    · simp [hrange, hcap]
  have hquiet := State.turnOf_quiet hturn
  rw [State.exec_clearMarks hturn hcode hread, State.judgeMarks, if_neg (by simp [hgood.1]), if_neg (by simp [hgood.2])]
  simp only
  generalize (if b.range = true then (s.setRequests rest).clearPointMarks b.first b.count else s.setRequests rest) = u
    at hframe hpoint hkept ⊢
  rw [State.setRequests_withImage] at hframe
  have hanswer : (if b.capture = true then u.emptyCapture else u).accept r [] =
      { s.answered r rest 0 [] with
        image := u.image
        capture := if b.capture then none else s.capture
        moreRefusals := if b.capture then false else s.moreRefusals } := by
    generalize u.image = image at hframe ⊢
    subst hframe
    cases b.capture <;> exact State.respond_known _ r.src r.tag 0 []
  rw [hanswer]
  exact ⟨_, congrArg _ (State.settled_of_quiet _ hquiet), hpoint, hkept, rfl⟩

/-- Settles O34. -/
theorem imageRequestsReadAndClear : Obligations.ImageRequestsReadAndClear := by
  unfold Obligations.ImageRequestsReadAndClear
  refine fun s r rest hturn => ⟨fun b hcode hread => ⟨fun hrange => ?_, fun hlow hhigh hlast => ?_⟩,
    fun b hcode hread => ⟨fun hrange hcap => ?_, fun hrange hout => ?_, fun hask => ?_⟩⟩
  · have hrun : ¬ pointRun 26 b.first b.count = true := fun h => by
      obtain ⟨h1, h2, h3⟩ := pointRun_iff.1 h
      omega
    rw [State.exec_readImage hturn hcode hread, State.judgeImage, if_neg hrun, State.reject_none,
      State.rejectedWith_settled hturn]
  · exact readImage_reads hturn hcode hread (pointRun_iff.2 ⟨hlow, hhigh, hlast⟩)
  · rw [State.exec_clearMarks hturn hcode hread, State.judgeMarks, if_pos (by simp [hrange, hcap]), State.reject_none,
      State.rejectedWith_settled hturn]
  · have hrun : pointRun 2048 b.first b.count = false := Bool.eq_false_iff.2 fun h => by
      obtain ⟨h1, h2, h3⟩ := pointRun_iff.1 h
      omega
    rw [State.exec_clearMarks hturn hcode hread, State.judgeMarks, if_neg (by simp [hrange]),
      if_pos (by simp [hrange, hrun]), State.reject_none, State.rejectedWith_settled hturn]
  · refine clearMarks_clears hturn hcode hread (hask.imp_left fun ⟨hrange, hlow, hlast⟩ => ⟨hrange, ?_⟩)
    exact pointRun_iff.2 ⟨hlow, by omega, hlast⟩

end Sys2Proof.Machine
end

section

/-! PROOF. The first faulty entry of a bank, and the requests that read and copy a bank. -/

namespace Sys2Proof.Machine

/-! ### The faulty entries of a store -/

theorem Store.mem_of_find {α : Type} {m : Store α} {k : Nat} {v : α} (h : Store.find m k = some v) : (k, v) ∈ m := by
  induction m with
  | nil => cases h
  | cons e m ih =>
    obtain ⟨j, w⟩ := e
    rw [Store.find] at h
    split at h
    · rename_i hj
      cases h
      exact hj ▸ List.mem_cons_self
    · exact List.mem_cons_of_mem _ (ih h)

theorem Store.find_of_mem {α : Type} {m : Store α} (hm : m.Pairwise (fun x y => x.1 < y.1)) {k : Nat} {v : α}
    (h : (k, v) ∈ m) : Store.find m k = some v := by
  induction m with
  | nil => cases h
  | cons e m ih =>
    obtain ⟨j, w⟩ := e
    obtain ⟨hj, hrest⟩ := List.pairwise_cons.1 hm
    rcases List.mem_cons.1 h with heq | hin
    · cases heq
      exact if_pos rfl
    · rw [Store.find, if_neg (hj _ hin).ne]
      exact ih hrest hin

theorem Store.rising {α : Type} [DecidableEq α] {d : α} {m : Store α} (h : Store.wf d m = true) :
    m.Pairwise (fun x y => x.1 < y.1) := by
  rw [Store.wf, Bool.and_eq_true, decide_eq_true_eq] at h
  exact h.1

theorem firstFaulty_eq_none {α : Type} {d : α} {t : TableId} {m : Store (Stored α)}
    (hm : m.Pairwise (fun x y => x.1 < y.1)) :
    firstFaulty t m = none ↔ ∀ i, (Store.read ⟨d, true⟩ m i).good = true := by
  rw [firstFaulty, Option.map_eq_none_iff, List.find?_eq_none]
  refine ⟨fun h i => ?_, fun h e he => ?_⟩
  · rw [Store.read]
    cases hfind : Store.find m i with
    | none => rfl
    | some v => simpa using h _ (Store.mem_of_find hfind)
  · have hgood := h e.1
    rw [Store.read, Store.find_of_mem hm he] at hgood
    simpa using hgood

theorem firstFaulty_eq_some {α : Type} {d : α} {t : TableId} {m : Store (Stored α)}
    (hm : m.Pairwise (fun x y => x.1 < y.1)) {e : EntryRef} (h : firstFaulty t m = some e) :
    e.table = t ∧ (Store.read ⟨d, true⟩ m e.index).good = false ∧
      ∀ j < e.index, (Store.read ⟨d, true⟩ m j).good = true := by
  obtain ⟨x, hfind, rfl⟩ := Option.map_eq_some_iff.1 h
  obtain ⟨hbad, l1, l2, hsplit, hbefore⟩ := List.find?_eq_some_iff_append.1 hfind
  refine ⟨rfl, ?_, fun j hj => ?_⟩
  · have hx : Store.find m x.1 = some x.2 := Store.find_of_mem hm (by rw [hsplit]; simp)
    rw [Store.read, hx]
    simpa using hbad
  · rw [Store.read]
    cases hv : Store.find m j with
    | none => rfl
    | some v =>
      have hmem := Store.mem_of_find hv
      rw [hsplit] at hm hmem
      rcases List.mem_append.1 hmem with hin | hin
      · simpa using hbefore _ hin
      · rcases List.mem_cons.1 hin with heq | hin
        · exact absurd (congrArg Prod.fst heq) (Nat.ne_of_lt hj)
        · exact absurd ((List.pairwise_cons.1 (List.pairwise_append.1 hm).2.1).1 _ hin) (Nat.lt_asymm hj)

/-! ### The first faulty entry of a bank (R164, R168) -/

/-- The first faulty entry of one table. -/
def Bank.tableFault (b : Bank) : TableId → Option EntryRef
  | .windows => firstFaulty .windows b.windows
  | .points => firstFaulty .points b.points
  | .sections => firstFaulty .sections b.sections
  | .sets => firstFaulty .sets b.sets
  | .rows => firstFaulty .rows b.rows
  | .budget => if b.budget.good then none else some ⟨.budget, 0⟩

/-- The tables in the order of R164. -/
def tablesInOrder : List TableId := [.windows, .points, .sections, .sets, .rows, .budget]

theorem mem_tablesInOrder (t : TableId) : t ∈ tablesInOrder := by cases t <;> decide

theorem tablesInOrder_rising : tablesInOrder.Pairwise (fun t u => (TableId.code t).toNat < (TableId.code u).toNat) := by decide

theorem Bank.firstFault_eq (b : Bank) : b.firstFault = tablesInOrder.findSome? b.tableFault := rfl

theorem Bank.tableFault_eq_none {b : Bank} (h : b.wf = true) (t : TableId) :
    b.tableFault t = none ↔ ∀ i, b.entryGood ⟨t, i⟩ = true := by
  simp only [Bank.wf, Bool.and_eq_true] at h
  obtain ⟨⟨⟨⟨hwin, hpts⟩, hsec⟩, hsets⟩, hrows⟩ := h
  cases t with
  | windows => exact firstFaulty_eq_none (Store.rising hwin)
  | points => exact firstFaulty_eq_none (Store.rising hpts)
  | sections => exact firstFaulty_eq_none (Store.rising hsec)
  | sets => exact firstFaulty_eq_none (Store.rising hsets)
  | rows => exact firstFaulty_eq_none (Store.rising hrows)
  | budget => simp [Bank.tableFault, Bank.entryGood]

theorem Bank.tableFault_eq_some {b : Bank} (h : b.wf = true) {t : TableId} {e : EntryRef} (he : b.tableFault t = some e) :
    e.table = t ∧ b.entryGood e = false ∧ ∀ j < e.index, b.entryGood ⟨t, j⟩ = true := by
  simp only [Bank.wf, Bool.and_eq_true] at h
  obtain ⟨⟨⟨⟨hwin, hpts⟩, hsec⟩, hsets⟩, hrows⟩ := h
  obtain ⟨u, i⟩ := e
  cases t with
  | windows => obtain ⟨rfl, h⟩ := firstFaulty_eq_some (Store.rising hwin) he; exact ⟨rfl, h⟩
  | points => obtain ⟨rfl, h⟩ := firstFaulty_eq_some (Store.rising hpts) he; exact ⟨rfl, h⟩
  | sections => obtain ⟨rfl, h⟩ := firstFaulty_eq_some (Store.rising hsec) he; exact ⟨rfl, h⟩
  | sets => obtain ⟨rfl, h⟩ := firstFaulty_eq_some (Store.rising hsets) he; exact ⟨rfl, h⟩
  | rows => obtain ⟨rfl, h⟩ := firstFaulty_eq_some (Store.rising hrows) he; exact ⟨rfl, h⟩
  | budget =>
    rw [Bank.tableFault] at he
    split at he
    · cases he
    · rename_i hbad
      cases he
      exact ⟨rfl, Bool.eq_false_iff.2 hbad, fun j hj => absurd hj (Nat.not_lt_zero j)⟩

theorem Bank.firstFault_eq_none {b : Bank} (h : b.wf = true) : b.firstFault = none ↔ ∀ e, b.entryGood e = true := by
  rw [Bank.firstFault_eq, List.findSome?_eq_none_iff]
  exact ⟨fun hnone e => (b.tableFault_eq_none h e.table).1 (hnone _ (mem_tablesInOrder _)) e.index,
    fun hgood t _ => (b.tableFault_eq_none h t).2 fun i => hgood _⟩

theorem Bank.firstFault_eq_some {b : Bank} (h : b.wf = true) {e : EntryRef} (he : b.firstFault = some e) :
    b.entryGood e = false ∧ ∀ f, entryBefore f e → b.entryGood f = true := by
  rw [Bank.firstFault_eq] at he
  obtain ⟨l1, t, l2, hsplit, hfault, hbefore⟩ := List.findSome?_eq_some_iff.1 he
  obtain ⟨rfl, hbad, hlower⟩ := b.tableFault_eq_some h hfault
  refine ⟨hbad, fun f hf => ?_⟩
  rcases hf with hcode | ⟨htable, hindex⟩
  · refine (b.tableFault_eq_none h f.table).1 (hbefore _ ?_) f.index
    have hrising := tablesInOrder_rising
    have hmem := mem_tablesInOrder f.table
    rw [hsplit] at hrising hmem
    rcases List.mem_append.1 hmem with hin | hin
    · exact hin
    · rcases List.mem_cons.1 hin with heq | hin
      · rw [heq] at hcode
        exact absurd hcode (Nat.lt_irrefl _)
      · exact absurd ((List.pairwise_cons.1 (List.pairwise_append.1 hrising).2.1).1 _ hin) (Nat.lt_asymm hcode)
  · have hgood := hlower _ hindex
    rwa [← htable] at hgood

/-! ### COPY_TO_STANDBY (R167) -/

theorem State.exec_copyToStandby {s : State} {r : MgmtTel} {rest : List MgmtTel} (h : s.turnOf r rest)
    (hcode : r.code.toNat = 3) (hbody : r.body = []) :
    exec .copyToStandby s = .next ((s.setRequests rest).judgeCopy r).settled := by
  change Host.Outcome.next (State.settled _) = _
  rw [State.handle_turn h _ (hasCode_of hcode), State.withEmptyBody_nil _ hbody]

/-- Settles O24. -/
theorem copyToStandbyCopiesTheActiveBank : Obligations.CopyToStandbyCopiesTheActiveBank := by
  unfold Obligations.CopyToStandbyCopiesTheActiveBank
  refine ⟨fun s r rest hturn hcode hbody => ?_, fun b hb => ⟨b.firstFault_eq_none hb, fun e => b.firstFault_eq_some hb⟩⟩
  have hquiet := State.turnOf_quiet hturn
  refine ⟨fun hmode => ?_, fun hmode hgood => ?_, fun e hmode hbad => ?_⟩
  · rw [State.exec_copyToStandby hturn hcode hbody, State.judgeCopy, if_pos (by exact hmode), State.reject_none,
      State.rejectedWith_settled hturn]
  · have hnone : (s.setRequests rest).activeBank.firstFault = none := hgood
    rw [State.exec_copyToStandby hturn hcode hbody, State.judgeCopy, if_neg (by exact hmode), hnone]
    have hanswer := State.accept_nil ((s.setBank s.standby s.activeBank).setStandbyWritten true) r rest
    have hagenda : ((s.setBank s.standby s.activeBank).setStandbyWritten true).agenda = [] := by
      cases hstandby : s.standby <;> exact hquiet
    have hcomm : (s.setRequests rest).setBank s.standby s.activeBank = (s.setBank s.standby s.activeBank).setRequests rest := by
      cases s.standby <;> rfl
    refine congrArg _ (Eq.trans (congrArg State.settled ?_) (State.settled_of_quiet _ (by exact hagenda)))
    rw [show (s.setRequests rest).standby = s.standby from rfl, show (s.setRequests rest).activeBank = s.activeBank from rfl, hcomm]
    exact hanswer
  · have hsome : (s.setRequests rest).activeBank.firstFault = some e := hbad
    rw [State.exec_copyToStandby hturn hcode hbody, State.judgeCopy, if_neg (by exact hmode), hsome]
    simp only [State.reject_some]
    rw [State.settled_of_quiet]
    rw [State.activeFault_agenda]
    exact hquiet

/-! ### READ_TABLE (R167) -/

theorem runInTable_iff {t : TableId} {first count : Nat} :
    runInTable t first count = true ↔ 1 ≤ count ∧ count ≤ 16 ∧ first + count ≤ tableSize t := by
  simp only [runInTable, Bool.and_eq_true, decide_eq_true_eq, and_assoc]
  omega

theorem runInTable_outside {t : TableId} {first count : Nat} (h : count = 0 ∨ 16 < count ∨ tableSize t < first + count) :
    runInTable t first count ≠ true := fun hin => by
  have := runInTable_iff.1 hin
  omega

theorem putOpt1_eq (o : Option Nat) : putOpt1 o = optByte o := by cases o <;> rfl

theorem known_natBytes (n : Nat) : known (natBytes n) = twoItems n := by
  rw [natBytes_eq]
  rfl

theorem known_append (l m : List Byte) : known (l ++ m) = known l ++ known m := List.map_append

theorem known_cons (x : Byte) (l : List Byte) : known (x :: l) = some x :: known l := rfl

theorem known_wordBytes (v : Word) : known (wordBytes v) = wordItems v := rfl

theorem putList_eq {α : Type} (most width : Nat) (put : α → List (Option Byte)) (l : List α) :
    putList most width put l = listItems most width (l.map put) := by
  rw [putList, listItems, List.length_map, List.flatMap_def]
  rfl

theorem putWindow_eq (w : Window) : putWindow w = windowItems w := by
  simp only [putWindow, known_append, known_natBytes, windowItems]
  rfl

theorem putPointStatic_eq (p : PointStatic) : putPointStatic p = staticItems p := by
  simp only [putPointStatic, putOpt1_eq, known_append, known_natBytes, staticItems, List.append_assoc]
  rfl

theorem putFlowPoint_eq (f : FlowPoint) :
    known (natBytes f.point ++ wordBytes f.threshold) = twoItems f.point ++ wordItems f.threshold := by
  rw [known_append, known_natBytes, known_wordBytes]

theorem putLevelPoint_eq (l : LevelPoint) :
    known (natBytes l.point ++ wordBytes l.low ++ wordBytes l.high) =
      twoItems l.point ++ wordItems l.low ++ wordItems l.high := by
  rw [known_append, known_append, known_natBytes, known_wordBytes, known_wordBytes]

theorem putTripAction_eq (a : TripAction) :
    known (natBytes a.point ++ [Action.code a.action] ++ wordBytes a.value) =
      twoItems a.point ++ some (Action.code a.action) :: wordItems a.value := by
  rw [known_append, known_append, known_natBytes, known_wordBytes, List.append_assoc]
  rfl

theorem optField_map {α : Type} {width : Nat} {put items : α → List (Option Byte)} (h : ∀ x, put x = items x)
    (o : Option α) : optField width (o.map put) = optItems width (o.map items) := by
  cases o with
  | none => rfl
  | some x => exact congrArg _ (h x)

theorem putSectionRec_eq (r : SectionRec) : putSectionRec r = sectionItems r := by
  simp only [putSectionRec, putList_eq, putOpt1_eq, putFlowPoint_eq, putTripAction_eq, optField_map putLevelPoint_eq,
    sectionItems]
  rfl

theorem putStateTest_eq (t : StateTest) :
    putStateTest t = match t with
      | .any => some 0 :: List.replicate 9 none
      | .oneOf l => some 1 :: listItems 8 1 (l.map (fun x => [some (ReportState.code x)])) := by
  cases t with
  | any => rfl
  | oneOf l => exact congrArg _ (putList_eq _ _ _ _)

theorem putCondition_eq (c : Condition) : putCondition c = conditionItems c := by
  obtain ⟨point, states, test, ref1, ref2⟩ := c
  simp only [putCondition, known_natBytes, known_cons, known_append, known_wordBytes, conditionItems]
  cases states with
  | any => rfl
  | oneOf l => simp [putStateTest, putList_eq, known]

theorem putConditionSet_eq (c : ConditionSet) : putConditionSet c = setItems c := by
  simp only [putConditionSet, putList_eq, setItems, funext putCondition_eq]
  rfl

theorem putScreenRow_eq (r : ScreenRow) : putScreenRow r = rowItems r := by
  simp only [putScreenRow, known_append, known_natBytes, known_wordBytes, putOpt1_eq, known_cons, rowItems, List.append_assoc]
  rfl

theorem putBudgetRec_eq (b : BudgetRec) : putBudgetRec b = budgetItems b := by
  simp only [putBudgetRec, known_append, known_natBytes, known_cons, budgetItems]
  rfl

/-- An entry is laid out as the statements lay it out (R173). -/
theorem Bank.putEntry_eq (b : Bank) (e : EntryRef) : b.putEntry e = entryItems b e := by
  obtain ⟨t, i⟩ := e
  cases t with
  | windows => exact putWindow_eq _
  | points => exact putPointStatic_eq _
  | sections => exact putSectionRec_eq _
  | sets => exact putConditionSet_eq _
  | rows => exact putScreenRow_eq _
  | budget => exact putBudgetRec_eq _

theorem entryRun_find_some {t : TableId} {first count k : Nat} {p : EntryRef → Bool} (hk : k < count)
    (hbefore : ∀ j < k, p ⟨t, first + j⟩ = false) (hp : p ⟨t, first + k⟩ = true) :
    (entryRun t first count).find? p = some ⟨t, first + k⟩ := by
  have hfind : (List.range count).find? (p ∘ fun i => ⟨t, first + i⟩) = some k :=
    List.find?_range_eq_some.2 ⟨hp, List.mem_range.2 hk, fun j hj => by simp [hbefore j hj]⟩
  rw [entryRun, List.find?_map, hfind]
  rfl

theorem entryRun_find_none {t : TableId} {first count : Nat} {p : EntryRef → Bool}
    (h : ∀ j < count, p ⟨t, first + j⟩ = false) : (entryRun t first count).find? p = none := by
  refine List.find?_eq_none.2 fun e he => ?_
  obtain ⟨j, hj, rfl⟩ := List.mem_map.1 he
  simp [h j (List.mem_range.1 hj)]

theorem State.bankFault_agenda (s : State) (i : BankId) (e : EntryRef) : (s.bankFault i e).agenda = s.agenda := by
  rw [State.bankFault]
  split
  · exact State.activeFault_agenda ..
  · rfl

theorem State.exec_readTable {s : State} {r : MgmtTel} {rest : List MgmtTel} (h : s.turnOf r rest) (hcode : r.code.toNat = 2)
    {b : ReadBody} (hread : readReadBody r.body = some b) :
    exec .readTable s = .next ((s.setRequests rest).judgeRead r b).settled := by
  change Host.Outcome.next (State.settled _) = _
  rw [State.handle_turn h _ (hasCode_of hcode), State.withBody_some _ hread]

/-- Settles O23. -/
theorem readTableReturnsTheEntries : Obligations.ReadTableReturnsTheEntries := by
  unfold Obligations.ReadTableReturnsTheEntries
  intro s r rest b hturn hcode hread
  have hquiet := State.turnOf_quiet hturn
  rw [State.exec_readTable hturn hcode hread, State.judgeRead]
  refine ⟨fun hout => ?_, fun hlow hhigh hlast => ?_⟩
  · rw [if_neg (runInTable_outside hout), State.reject_none, State.rejectedWith_settled hturn]
  · rw [if_pos (runInTable_iff.2 ⟨hlow, hhigh, hlast⟩)]
    refine ⟨fun k hk hbefore hbad => ?_, fun hgood => ?_⟩
    · have hfind : (entryRun b.table b.first b.count).find? (fun e => !((s.setRequests rest).bank b.bank).entryGood e) =
          some ⟨b.table, b.first + k⟩ :=
        entryRun_find_some hk (fun j hj => by exact congrArg not (hbefore j hj)) (by exact congrArg not hbad)
      rw [hfind]
      simp only [State.reject_some]
      rw [State.settled_of_quiet]
      · rfl
      · rw [State.bankFault_agenda]
        exact hquiet
    · have hfind : (entryRun b.table b.first b.count).find? (fun e => !((s.setRequests rest).bank b.bank).entryGood e) = none :=
        entryRun_find_none fun j hj => by exact congrArg not (hgood j hj)
      rw [hfind]
      have hcontent : (entryRun b.table b.first b.count).flatMap ((s.setRequests rest).bank b.bank).putEntry =
          (List.range b.count).flatMap (fun k => entryItems (s.bank b.bank) ⟨b.table, b.first + k⟩) := by
        rw [entryRun, List.flatMap_map]
        exact List.flatMap_congr fun k _ => Bank.putEntry_eq _ _
      have haccept := State.acceptedWith_accept s r rest
        ((entryRun b.table b.first b.count).flatMap ((s.setRequests rest).bank b.bank).putEntry)
      refine ⟨_, congrArg _ (State.settled_of_quiet _ (by exact acceptedWith_quiet haccept hquiet)), ?_⟩
      rw [← hcontent]
      exact haccept

end Sys2Proof.Machine
end

section

/-! PROOF. The codes of the enumerations, the readers of a body's fields put together from their parts, and which bodies are
read. -/

namespace Sys2Proof.Machine

/-! ### A body that carries a content -/

theorem carries_nil {bs : List Byte} : carries bs [] ↔ bs = [] := by
  refine ⟨fun h => List.eq_nil_of_length_eq_zero h.1, ?_⟩
  rintro rfl
  exact ⟨rfl, fun i v h => by cases h⟩

theorem carries_cons {x : Option Byte} {l : List (Option Byte)} {bs : List Byte} :
    carries bs (x :: l) ↔ ∃ b rest, bs = b :: rest ∧ (∀ v, x = some v → b = v) ∧ carries rest l := by
  constructor
  · rintro ⟨hlength, hbytes⟩
    cases bs with
    | nil => cases hlength
    | cons b rest =>
      refine ⟨b, rest, rfl, fun v hv => ?_, Nat.succ.inj hlength, fun i v h => hbytes (i + 1) v h⟩
      exact Option.some.inj (hbytes 0 v (congrArg some hv))
  · rintro ⟨b, rest, rfl, hb, hlength, hbytes⟩
    refine ⟨congrArg Nat.succ hlength, fun i v h => ?_⟩
    cases i with
    | zero => exact congrArg some (hb v (Option.some.inj h))
    | succ i => exact hbytes i v h

theorem carries_known_cons {x : Byte} {l : List (Option Byte)} {bs : List Byte} :
    carries bs (some x :: l) ↔ ∃ rest, bs = x :: rest ∧ carries rest l := by
  rw [carries_cons]
  constructor
  · rintro ⟨b, rest, rfl, hb, hrest⟩
    exact ⟨rest, by rw [hb x rfl], hrest⟩
  · rintro ⟨rest, rfl, hrest⟩
    exact ⟨x, rest, rfl, fun v hv => Option.some.inj hv, hrest⟩

theorem carries_append {l m : List (Option Byte)} {bs : List Byte} :
    carries bs (l ++ m) ↔ ∃ b1 b2, bs = b1 ++ b2 ∧ carries b1 l ∧ carries b2 m := by
  induction l generalizing bs with
  | nil =>
    constructor
    · exact fun h => ⟨[], bs, rfl, carries_nil.2 rfl, h⟩
    · rintro ⟨b1, b2, rfl, h1, h2⟩
      rw [carries_nil.1 h1]
      exact h2
  | cons x l ih =>
    rw [List.cons_append, carries_cons]
    constructor
    · rintro ⟨b, rest, rfl, hb, hrest⟩
      obtain ⟨b1, b2, rfl, h1, h2⟩ := ih.1 hrest
      exact ⟨b :: b1, b2, rfl, carries_cons.2 ⟨b, b1, rfl, hb, h1⟩, h2⟩
    · rintro ⟨b1, b2, rfl, h1, h2⟩
      obtain ⟨b, rest, rfl, hb, hrest⟩ := carries_cons.1 h1
      exact ⟨b, rest ++ b2, rfl, hb, ih.2 ⟨rest, b2, rfl, hrest, h2⟩⟩

theorem carries_known {l bs : List Byte} : carries bs (known l) ↔ bs = l := by
  induction l generalizing bs with
  | nil => exact carries_nil
  | cons x l ih =>
    rw [known_cons, carries_known_cons]
    constructor
    · rintro ⟨rest, rfl, h⟩
      rw [ih.1 h]
    · rintro rfl
      exact ⟨l, rfl, ih.2 rfl⟩

theorem carries_open {k : Nat} {bs : List Byte} : carries bs (List.replicate k none) ↔ bs.length = k := by
  refine ⟨fun h => by simpa using h.1, fun h => ⟨by simp [h], fun i v hv => ?_⟩⟩
  have hnone := List.mem_of_getElem? hv
  rw [List.mem_replicate] at hnone
  cases hnone.2

/-! ### Codes of the enumerations -/

/-- A decoder gives back what a code stands for, and nothing else. -/
def Inverts {α : Type} (ofCode : Byte → Option α) (code : α → Byte) : Prop := ∀ b x, ofCode b = some x ↔ b = code x

theorem inverts_of {α : Type} {ofCode : Byte → Option α} {code : α → Byte} (hcode : ∀ x, ofCode (code x) = some x)
    (honly : ∀ b x, ofCode b = some x → b.toNat = (code x).toNat) : Inverts ofCode code :=
  fun b x => ⟨fun h => BitVec.eq_of_toNat_eq (honly b x h), fun h => h ▸ hcode x⟩

theorem Action.inverts : Inverts Action.ofCode Action.code :=
  inverts_of (fun x => by cases x <;> rfl) fun b x h => by unfold Action.ofCode at h; split at h <;> cases h <;> assumption

theorem ReportState.inverts : Inverts ReportState.ofCode ReportState.code :=
  inverts_of (fun x => by cases x <;> rfl) fun b x h => by
    unfold ReportState.ofCode at h; split at h <;> cases h <;> assumption

theorem Phase.inverts : Inverts Phase.ofCode Phase.code :=
  inverts_of (fun x => by cases x <;> rfl) fun b x h => by unfold Phase.ofCode at h; split at h <;> cases h <;> assumption

theorem CampaignMode.inverts : Inverts CampaignMode.ofCode CampaignMode.code :=
  inverts_of (fun x => by cases x <;> rfl) fun b x h => by
    unfold CampaignMode.ofCode at h; split at h <;> cases h <;> assumption

theorem Combination.inverts : Inverts Combination.ofCode Combination.code :=
  inverts_of (fun x => by cases x <;> rfl) fun b x h => by
    unfold Combination.ofCode at h; split at h <;> cases h <;> assumption

theorem ValueTest.inverts : Inverts ValueTest.ofCode ValueTest.code :=
  inverts_of (fun x => by cases x <;> rfl) fun b x h => by
    unfold ValueTest.ofCode at h; split at h <;> cases h <;> assumption

theorem Role.inverts : Inverts Role.ofCode Role.code :=
  inverts_of (fun x => by cases x <;> rfl) fun b x h => by unfold Role.ofCode at h; split at h <;> cases h <;> assumption

theorem PointClass.inverts : Inverts PointClass.ofCode PointClass.code :=
  inverts_of (fun x => by cases x <;> rfl) fun b x h => by
    unfold PointClass.ofCode at h; split at h <;> cases h <;> assumption

theorem RowBase.inverts : Inverts RowBase.ofCode RowBase.code :=
  inverts_of (fun x => by cases x <;> rfl) fun b x h => by unfold RowBase.ofCode at h; split at h <;> cases h <;> assumption

theorem BankId.inverts : Inverts BankId.ofCode BankId.code :=
  inverts_of (fun x => by cases x <;> rfl) fun b x h => by unfold BankId.ofCode at h; split at h <;> cases h <;> assumption

theorem DnPort.inverts : Inverts DnPort.ofCode DnPort.code :=
  inverts_of (fun x => by cases x <;> rfl) fun b x h => by unfold DnPort.ofCode at h; split at h <;> cases h <;> assumption

theorem TableId.inverts : Inverts TableId.ofCode TableId.code :=
  inverts_of (fun x => by cases x <;> rfl) fun b x h => by unfold TableId.ofCode at h; split at h <;> cases h <;> assumption

/-! ### Numbers -/

theorem byte_toNat_eq {b : Byte} {n : Nat} : b.toNat = n ↔ n < 256 ∧ b = BitVec.ofNat 8 n := by
  constructor
  · rintro rfl
    exact ⟨b.isLt, (BitVec.ofNat_toNat 8 b).symm ▸ (BitVec.setWidth_eq b).symm⟩
  · rintro ⟨hn, rfl⟩
    exact Nat.mod_eq_of_lt hn

theorem wordOf_toNat (h l : Byte) : (wordOf h l).toNat = h.toNat * 256 + l.toNat := by
  rw [wordOf, BitVec.toNat_append, ← Nat.shiftLeft_add_eq_or_of_lt l.isLt, Nat.shiftLeft_eq]

theorem wordOf_toNat_eq {h l : Byte} {n : Nat} :
    (wordOf h l).toNat = n ↔ n < 65536 ∧ h = BitVec.ofNat 8 (n / 256) ∧ l = BitVec.ofNat 8 n := by
  have hh := h.isLt
  have hl := l.isLt
  rw [wordOf_toNat]
  constructor
  · rintro rfl
    refine ⟨by omega, BitVec.eq_of_toNat_eq ?_, BitVec.eq_of_toNat_eq ?_⟩ <;> rw [BitVec.toNat_ofNat] <;> omega
  · rintro ⟨hn, rfl, rfl⟩
    simp only [BitVec.toNat_ofNat]
    omega

theorem wordOf_eq {h l : Byte} {v : Word} : wordOf h l = v ↔ h = v.extractLsb' 8 8 ∧ l = v.extractLsb' 0 8 := by
  have hh := h.isLt
  have hl := l.isLt
  have hv := v.isLt
  constructor
  · rintro rfl
    refine ⟨BitVec.eq_of_toNat_eq ?_, BitVec.eq_of_toNat_eq ?_⟩ <;>
      rw [BitVec.extractLsb'_toNat, wordOf_toNat, Nat.shiftRight_eq_div_pow] <;> omega
  · rintro ⟨rfl, rfl⟩
    refine BitVec.eq_of_toNat_eq ?_
    simp only [wordOf_toNat, BitVec.extractLsb'_toNat, Nat.shiftRight_eq_div_pow]
    omega

theorem getFlag_eq_some {bs rest : List Byte} {f : Bool} :
    getFlag bs = some (f, rest) ↔ bs = (if f then (1 : Byte) else 0) :: rest := by
  constructor
  · intro h
    cases bs with
    | nil => cases h
    | cons b bs =>
      rw [getFlag] at h
      split at h
      · rename_i hb
        cases h
        exact congrArg (· :: _) (BitVec.eq_of_toNat_eq hb)
      · rename_i hb
        cases h
        exact congrArg (· :: _) (BitVec.eq_of_toNat_eq hb)
      · cases h
  · rintro rfl
    exact getFlag_flag f rest

/-! ### The bodies of a fixed form (R173, R174) -/

theorem entryWidth_pos (t : TableId) : 8 ≤ entryWidth t := by cases t <;> decide

theorem readReadBody_iff (body : List Byte) (b : ReadBody) : readReadBody body = some b ↔
    b.first < 65536 ∧ b.count * entryWidth b.table ≤ 240 ∧
      body = [BankId.code b.bank, TableId.code b.table, BitVec.ofNat 8 (b.first / 256), BitVec.ofNat 8 b.first,
        BitVec.ofNat 8 b.count] := by
  constructor
  · intro h
    unfold readReadBody at h
    split at h
    · split at h
      · rename_i hbank htable
        split at h
        · rename_i hfits
          cases h
          obtain ⟨hfirst, hhigh, hlow⟩ := wordOf_toNat_eq.1 (Eq.refl (wordOf _ _).toNat)
          exact ⟨hfirst, hfits, by rw [← hhigh, ← hlow, (BankId.inverts _ _).1 hbank, (TableId.inverts _ _).1 htable,
            ← (byte_toNat_eq.1 rfl).2]⟩
        · cases h
      · cases h
    · cases h
  · obtain ⟨bank, table, first, count⟩ := b
    rintro ⟨hfirst, hfits, rfl⟩
    have hcount : count < 256 := by
      have hwidth := Nat.mul_le_mul_left count (entryWidth_pos table)
      simp only at hfits
      omega
    have hc : (BitVec.ofNat 8 count).toNat = count := byte_toNat_eq.2 ⟨hcount, rfl⟩
    have hw : (wordOf (BitVec.ofNat 8 (first / 256)) (BitVec.ofNat 8 first)).toNat = first :=
      wordOf_toNat_eq.2 ⟨hfirst, rfl, rfl⟩
    simp only [readReadBody, (BankId.inverts _ _).2 rfl, (TableId.inverts _ _).2 rfl, hc, hw]
    exact if_pos hfits

theorem readPhaseBody_iff (body : List Byte) (n : Nat) (p : Phase) :
    readPhaseBody body = some (n, p) ↔ n < 256 ∧ body = [BitVec.ofNat 8 n, Phase.code p] := by
  constructor
  · intro h
    unfold readPhaseBody at h
    split at h
    · obtain ⟨q, hq, heq⟩ := Option.map_eq_some_iff.1 h
      cases heq
      obtain ⟨hn, hb⟩ := byte_toNat_eq.1 (Eq.refl (BitVec.toNat _))
      exact ⟨hn, by rw [← hb, (Phase.inverts _ _).1 hq]⟩
    · cases h
  · rintro ⟨hn, rfl⟩
    simp only [readPhaseBody, (Phase.inverts _ _).2 rfl, Option.map_some, byte_toNat_eq.2 ⟨hn, rfl⟩]

theorem readCampaignBody_iff (body : List Byte) (m : CampaignMode) :
    readCampaignBody body = some m ↔ body = [CampaignMode.code m] := by
  constructor
  · intro h
    unfold readCampaignBody at h
    split at h
    · rw [(CampaignMode.inverts _ _).1 h]
    · cases h
  · rintro rfl
    exact (CampaignMode.inverts _ _).2 rfl

theorem readImageBody_iff (body : List Byte) (b : ImageBody) : readImageBody body = some b ↔
    b.first < 65536 ∧ b.count < 256 ∧
      body = [BitVec.ofNat 8 (b.first / 256), BitVec.ofNat 8 b.first, BitVec.ofNat 8 b.count, if b.clear then 1 else 0] := by
  constructor
  · intro h
    unfold readImageBody at h
    split at h
    · obtain ⟨⟨f, rest⟩, hflag, heq⟩ := Option.map_eq_some_iff.1 h
      cases heq
      obtain ⟨hfirst, hhigh, hlow⟩ := wordOf_toNat_eq.1 (Eq.refl (wordOf _ _).toNat)
      obtain ⟨hcount, hc⟩ := byte_toNat_eq.1 (Eq.refl (BitVec.toNat _))
      obtain ⟨rfl, _⟩ := List.cons.inj (getFlag_eq_some.1 hflag)
      exact ⟨hfirst, hcount, by rw [← hhigh, ← hlow, ← hc]⟩
    · cases h
  · obtain ⟨first, count, clear⟩ := b
    rintro ⟨hfirst, hcount, rfl⟩
    simp only [readImageBody, getFlag_flag, Option.map_some, byte_toNat_eq.2 ⟨hcount, rfl⟩,
      wordOf_toNat_eq.2 ⟨hfirst, rfl, rfl⟩]

theorem readMarksBody_iff (body : List Byte) (b : MarksBody) : readMarksBody body = some b ↔
    b.first < 65536 ∧ b.count < 65536 ∧
      body = [if b.range then 1 else 0, BitVec.ofNat 8 (b.first / 256), BitVec.ofNat 8 b.first,
        BitVec.ofNat 8 (b.count / 256), BitVec.ofNat 8 b.count, if b.capture then 1 else 0] := by
  constructor
  · intro h
    unfold readMarksBody at h
    split at h
    · split at h
      · rename_i hrange hcapture
        cases h
        obtain ⟨hfirst, hhigh, hlow⟩ := wordOf_toNat_eq.1 (Eq.refl (wordOf _ _).toNat)
        obtain ⟨hcount, hc1, hc0⟩ := wordOf_toNat_eq.1 (Eq.refl (wordOf _ _).toNat)
        obtain ⟨rfl, _⟩ := List.cons.inj (getFlag_eq_some.1 hrange)
        obtain ⟨rfl, _⟩ := List.cons.inj (getFlag_eq_some.1 hcapture)
        exact ⟨hfirst, hcount, by rw [← hhigh, ← hlow, ← hc1, ← hc0]⟩
      · cases h
    · cases h
  · obtain ⟨range, first, count, capture⟩ := b
    rintro ⟨hfirst, hcount, rfl⟩
    simp only [readMarksBody, getFlag_flag, wordOf_toNat_eq.2 ⟨hfirst, rfl, rfl⟩, wordOf_toNat_eq.2 ⟨hcount, rfl, rfl⟩]

theorem getMany_flags_eq_some {n : Nat} {bs rest : List Byte} {f : List Bool} (h : getMany getFlag n bs = some (f, rest)) :
    f.length = n ∧ bs = f.map (fun b => if b then (1 : Byte) else 0) ++ rest := by
  induction n generalizing bs f with
  | zero =>
    cases h
    exact ⟨rfl, rfl⟩
  | succ n ih =>
    rw [getMany] at h
    split at h
    · rename_i b tail hb
      obtain ⟨⟨g, rest'⟩, hg, heq⟩ := Option.map_eq_some_iff.1 h
      cases heq
      obtain ⟨hlength, rfl⟩ := ih hg
      exact ⟨congrArg Nat.succ hlength, getFlag_eq_some.1 hb⟩
    · cases h

/-- A SET_NOTICES body is read where it is seven flags, a presence flag and a byte. -/
theorem readNoticesBody_eq_none (body : List Byte) : readNoticesBody body = none ↔
    ¬ ∃ (f : List Bool) (x : Bool) (d : Byte), f.length = 7 ∧
      body = f.map (fun b => if b then (1 : Byte) else 0) ++ [if x then 1 else 0, d] := by
  constructor
  · rintro h ⟨f, x, d, hf, rfl⟩
    have hflags := getMany_flags f [if x then 1 else 0, d]
    rw [hf] at hflags
    simp only [readNoticesBody, hflags] at h
    cases x <;> cases h
  · intro h
    cases hread : readNoticesBody body with
    | none => rfl
    | some v =>
      refine absurd ?_ h
      unfold readNoticesBody at hread
      split at hread
      · rename_i f rest hflags
        obtain ⟨hlength, rfl⟩ := getMany_flags_eq_some hflags
        split at hread
        · rename_i dest hopt
          refine ⟨f, ?_⟩
          unfold getOpt at hopt
          split at hopt
          · rename_i tail hflag
            obtain ⟨⟨d, left⟩, hbyte, heq⟩ := Option.map_eq_some_iff.1 hopt
            cases heq
            cases tail with
            | nil => cases hbyte
            | cons c tail =>
              cases hbyte
              exact ⟨true, d, hlength, congrArg _ (getFlag_eq_some.1 hflag)⟩
          · rename_i tail hflag
            split at hopt
            · cases hopt
            · rename_i hwidth
              have hdrop : tail.drop 1 = [] := (Prod.mk.inj (Option.some.inj hopt)).2
              cases tail with
              | nil => exact absurd (by decide) hwidth
              | cons c tail =>
                have htail : tail = [] := hdrop
                rw [htail] at hflag
                exact ⟨false, c, hlength, congrArg _ (getFlag_eq_some.1 hflag)⟩
          · cases hopt
        · cases hread
      · cases hread

end Sys2Proof.Machine
end

section

/-! PROOF. The readers of a table's entries: put together from the readers of their fields, they read what carries the items of
an entry, and take the bytes of its width. -/

namespace Sys2Proof.Machine

/-! ### Readers put together from their parts -/

/-- A reader reads what carries the items of a value that is in its ranges, and only that. -/
def Spells {α : Type} (get : Reader α) (ok : α → Prop) (items : α → List (Option Byte)) : Prop :=
  ∀ bs x rest, ok x → (get bs = some (x, rest) ↔ ∃ bytes, carries bytes (items x) ∧ bs = bytes ++ rest)

/-- A reader takes a number of bytes, whatever it reads. -/
def Takes {α : Type} (get : Reader α) (width : Nat) : Prop :=
  ∀ bs x rest, get bs = some (x, rest) → bs.length = width + rest.length

/-- Two readers, one after the other. -/
def Reader.pair {α β : Type} (g : Reader α) (h : Reader β) : Reader (α × β) := fun bs =>
  (g bs).bind fun x => (h x.2).map fun y => ((x.1, y.1), y.2)

/-- A reader whose values stand for others. -/
def Reader.as {α β : Type} (g : Reader α) (f : α → β) : Reader β := fun bs => (g bs).map fun x => (f x.1, x.2)

/-- A reader that reads a field and goes on reads a pair. -/
theorem Reader.eq_as_pair {α β γ : Type} {g : Reader α} {h : Reader β} {f : α → β → γ}
    {k : α × List Byte → Option (γ × List Byte)} {bs : List Byte} (hk : ∀ a left, k (a, left) = h.as (f a) left) :
    (g bs).bind k = (g.pair h).as (Function.uncurry f) bs := by
  rw [Reader.as, Reader.pair, Option.map_bind]
  refine Option.bind_congr fun x _ => ?_
  rw [Function.comp_apply, Option.map_map]
  exact hk x.1 x.2

/-- A reader that reads its last field reads that field. -/
theorem Reader.eq_as_last {α γ : Type} {g : Reader α} {f : α → γ} {k : α × List Byte → Option (γ × List Byte)}
    {bs : List Byte} (hk : ∀ a left, k (a, left) = some (f a, left)) : (g bs).bind k = g.as f bs := by
  rw [Reader.as, Option.map_eq_bind]
  exact Option.bind_congr fun x _ => hk x.1 x.2

section Parts
variable {α β : Type} {g : Reader α} {h : Reader β} {okA : α → Prop} {okB : β → Prop}
  {itemsA : α → List (Option Byte)} {itemsB : β → List (Option Byte)} {m n : Nat}

theorem Reader.pair_eq_some {bs rest : List Byte} {x : α × β} :
    g.pair h bs = some (x, rest) ↔ ∃ left, g bs = some (x.1, left) ∧ h left = some (x.2, rest) := by
  rw [Reader.pair, Option.bind_eq_some_iff]
  constructor
  · rintro ⟨⟨a, left⟩, ha, hb⟩
    obtain ⟨⟨b, rest'⟩, hsecond, heq⟩ := Option.map_eq_some_iff.1 hb
    cases heq
    exact ⟨left, ha, hsecond⟩
  · rintro ⟨left, ha, hb⟩
    exact ⟨_, ha, Option.map_eq_some_iff.2 ⟨_, hb, rfl⟩⟩

theorem Reader.as_eq_some {f : α → β} {bs rest : List Byte} {y : β} :
    g.as f bs = some (y, rest) ↔ ∃ x, g bs = some (x, rest) ∧ f x = y := by
  rw [Reader.as, Option.map_eq_some_iff]
  constructor
  · rintro ⟨⟨x, left⟩, hx, heq⟩
    cases heq
    exact ⟨x, hx, rfl⟩
  · rintro ⟨x, hx, rfl⟩
    exact ⟨_, hx, rfl⟩

theorem Takes.pair (hg : Takes g m) (hh : Takes h n) : Takes (g.pair h) (m + n) := fun bs x rest heq => by
  obtain ⟨left, ha, hb⟩ := Reader.pair_eq_some.1 heq
  rw [hg _ _ _ ha, hh _ _ _ hb, Nat.add_assoc]

theorem Takes.as (hg : Takes g m) (f : α → β) : Takes (g.as f) m := fun bs y rest heq => by
  obtain ⟨x, hx, _⟩ := Reader.as_eq_some.1 heq
  exact hg _ _ _ hx

theorem Takes.of_eq {g' : Reader α} (hg : Takes g m) (heq : ∀ bs, g' bs = g bs) (hwidth : m = n) : Takes g' n :=
  fun bs x rest hx => hwidth ▸ hg bs x rest (by rw [← heq, hx])

theorem Spells.pair (hg : Spells g okA itemsA) (hh : Spells h okB itemsB) :
    Spells (g.pair h) (fun x => okA x.1 ∧ okB x.2) (fun x => itemsA x.1 ++ itemsB x.2) := fun bs x rest ⟨hokA, hokB⟩ => by
  rw [Reader.pair_eq_some]
  constructor
  · rintro ⟨left, ha, hb⟩
    obtain ⟨b1, h1, rfl⟩ := (hg _ _ _ hokA).1 ha
    obtain ⟨b2, h2, rfl⟩ := (hh _ _ _ hokB).1 hb
    exact ⟨b1 ++ b2, carries_append.2 ⟨b1, b2, rfl, h1, h2⟩, (List.append_assoc _ _ _).symm⟩
  · rintro ⟨bytes, hbytes, rfl⟩
    obtain ⟨b1, b2, rfl, h1, h2⟩ := carries_append.1 hbytes
    exact ⟨b2 ++ rest, (hg _ _ _ hokA).2 ⟨b1, h1, List.append_assoc _ _ _⟩, (hh _ _ _ hokB).2 ⟨b2, h2, rfl⟩⟩

/-- A reader of a record, from the reader of the tuple of its fields. -/
theorem Spells.record {g' : Reader β} (hg : Spells g okA itemsA) {f : α → β} (heq : ∀ bs, g' bs = g.as f bs) (fields : β → α)
    (hleft : ∀ x, fields (f x) = x) (hright : ∀ y, f (fields y) = y) (hok : ∀ y, okB y → okA (fields y))
    (hitems : ∀ y, itemsB y = itemsA (fields y)) : Spells g' okB itemsB := fun bs y rest hy => by
  rw [heq, Reader.as_eq_some, hitems, ← hg bs _ rest (hok y hy)]
  constructor
  · rintro ⟨x, hx, rfl⟩
    rwa [hleft]
  · exact fun hx => ⟨_, hx, hright y⟩

end Parts

/-! ### The readers of single fields -/

theorem spells_byte {α : Type} {g : Reader α} {ok : α → Prop} {code : α → Byte}
    (hg : ∀ bs x rest, ok x → (g bs = some (x, rest) ↔ bs = code x :: rest)) : Spells g ok (fun x => [some (code x)]) :=
  fun bs x rest hok => by
    rw [hg bs x rest hok]
    constructor
    · rintro rfl
      exact ⟨[code x], carries_known (l := [code x]).2 rfl, rfl⟩
    · rintro ⟨bytes, hbytes, rfl⟩
      rw [carries_known (l := [code x]).1 hbytes]
      rfl

theorem spells_flag : Spells getFlag (fun _ => True) (fun b => [flagItem b]) :=
  spells_byte (code := fun b : Bool => if b then 1 else 0) fun _ _ _ _ => getFlag_eq_some

theorem takes_flag : Takes getFlag 1 := fun bs x rest h => by
  rw [getFlag_eq_some.1 h, List.length_cons, Nat.add_comm]

theorem spells_nat1 : Spells getNat1 (· < 256) (fun n => [byteItem n]) :=
  spells_byte (code := BitVec.ofNat 8) fun bs n rest hn => by
    cases bs with
    | nil => exact ⟨fun h => (by cases h), fun h => (by cases h)⟩
    | cons b bs =>
      rw [getNat1, Option.some.injEq, Prod.mk.injEq, List.cons.injEq, byte_toNat_eq]
      exact ⟨fun h => ⟨h.1.2, h.2⟩, fun h => ⟨⟨hn, h.1⟩, h.2⟩⟩

theorem takes_nat1 : Takes getNat1 1 := fun bs x rest h => by
  cases bs with
  | nil => cases h
  | cons b bs =>
    cases h
    rw [List.length_cons, Nat.add_comm]

theorem spells_code {α : Type} {ofCode : Byte → Option α} {code : α → Byte} (h : Inverts ofCode code) :
    Spells (getCode ofCode) (fun _ => True) (fun x => [some (code x)]) :=
  spells_byte fun bs x rest _ => by
    cases bs with
    | nil => exact ⟨fun h => (by cases h), fun h => (by cases h)⟩
    | cons b bs =>
      rw [getCode, Option.map_eq_some_iff, List.cons.injEq, ← h b x]
      constructor
      · rintro ⟨y, hy, heq⟩
        cases heq
        exact ⟨hy, rfl⟩
      · rintro ⟨hx, rfl⟩
        exact ⟨x, hx, rfl⟩

theorem takes_code {α : Type} {ofCode : Byte → Option α} : Takes (getCode ofCode) 1 := fun bs x rest h => by
  cases bs with
  | nil => cases h
  | cons b bs =>
    obtain ⟨y, _, heq⟩ := Option.map_eq_some_iff.1 h
    cases heq
    rw [List.length_cons, Nat.add_comm]

theorem spells_two {α : Type} {g : Reader α} {ok : α → Prop} {high low : α → Byte}
    (hg : ∀ bs x rest, ok x → (g bs = some (x, rest) ↔ bs = high x :: low x :: rest)) :
    Spells g ok (fun x => [some (high x), some (low x)]) := fun bs x rest hok => by
  rw [hg bs x rest hok]
  constructor
  · rintro rfl
    exact ⟨[high x, low x], carries_known (l := [high x, low x]).2 rfl, rfl⟩
  · rintro ⟨bytes, hbytes, rfl⟩
    rw [carries_known (l := [high x, low x]).1 hbytes]
    rfl

theorem spells_nat2 : Spells getNat2 (· < 65536) twoItems :=
  spells_two (high := fun n => BitVec.ofNat 8 (n / 256)) (low := BitVec.ofNat 8) fun bs n rest hn => by
    match bs with
    | [] => exact ⟨fun h => (by cases h), fun h => (by cases h)⟩
    | [b] => exact ⟨fun h => (by cases h), fun h => (by cases h)⟩
    | b :: c :: bs =>
      rw [getNat2, Option.some.injEq, Prod.mk.injEq, List.cons.injEq, List.cons.injEq, wordOf_toNat_eq]
      exact ⟨fun ⟨⟨_, hb, hc⟩, hrest⟩ => ⟨hb, hc, hrest⟩, fun ⟨hb, hc, hrest⟩ => ⟨⟨hn, hb, hc⟩, hrest⟩⟩

theorem takes_nat2 : Takes getNat2 2 := fun bs x rest h => by
  match bs with
  | [] => cases h
  | [b] => cases h
  | b :: c :: bs =>
    cases h
    rw [List.length_cons, List.length_cons, Nat.add_comm 2]

theorem spells_word : Spells getWord (fun _ => True) wordItems :=
  spells_two (high := fun v : Word => v.extractLsb' 8 8) (low := fun v : Word => v.extractLsb' 0 8) fun bs v rest _ => by
    match bs with
    | [] => exact ⟨fun h => (by cases h), fun h => (by cases h)⟩
    | [b] => exact ⟨fun h => (by cases h), fun h => (by cases h)⟩
    | b :: c :: bs =>
      rw [getWord, Option.some.injEq, Prod.mk.injEq, List.cons.injEq, List.cons.injEq, wordOf_eq, and_assoc]

theorem takes_word : Takes getWord 2 := fun bs x rest h => by
  match bs with
  | [] => cases h
  | [b] => cases h
  | b :: c :: bs =>
    cases h
    rw [List.length_cons, List.length_cons, Nat.add_comm 2]

/-! ### Optional fields, runs and lists -/

section Many
variable {α : Type} {g : Reader α} {ok : α → Prop} {items : α → List (Option Byte)} {width : Nat}

theorem Takes.many (hg : Takes g width) (n : Nat) : Takes (getMany g n) (n * width) := fun bs l rest h => by
  induction n generalizing bs l with
  | zero =>
    cases h
    rw [Nat.zero_mul, Nat.zero_add]
  | succ n ih =>
    rw [getMany] at h
    split at h
    · rename_i x left hx
      obtain ⟨⟨tail, rest'⟩, htail, heq⟩ := Option.map_eq_some_iff.1 h
      cases heq
      rw [hg _ _ _ hx, ih _ _ htail, Nat.succ_mul]
      omega
    · cases h

theorem getMany_length {n : Nat} {bs rest : List Byte} {l : List α} (h : getMany g n bs = some (l, rest)) : l.length = n := by
  induction n generalizing bs l with
  | zero =>
    cases h
    rfl
  | succ n ih =>
    rw [getMany] at h
    split at h
    · obtain ⟨⟨tail, rest'⟩, htail, heq⟩ := Option.map_eq_some_iff.1 h
      cases heq
      exact congrArg Nat.succ (ih htail)
    · cases h

/-- A run of fields carries the items of each in turn. -/
theorem Spells.many (hg : Spells g ok items) (l : List α) (hok : ∀ x ∈ l, ok x) (bs rest : List Byte) :
    getMany g l.length bs = some (l, rest) ↔ ∃ bytes, carries bytes (l.flatMap items) ∧ bs = bytes ++ rest := by
  induction l generalizing bs with
  | nil =>
    constructor
    · intro h
      cases h
      exact ⟨[], carries_nil.2 rfl, rfl⟩
    · rintro ⟨bytes, hbytes, rfl⟩
      rw [carries_nil.1 hbytes]
      rfl
  | cons x l ih =>
    have hx := hok x List.mem_cons_self
    have htail := ih fun y hy => hok y (List.mem_cons_of_mem _ hy)
    rw [List.length_cons, getMany, List.flatMap_cons]
    constructor
    · intro h
      split at h
      · rename_i y left hy
        obtain ⟨⟨tail, rest'⟩, ht, heq⟩ := Option.map_eq_some_iff.1 h
        cases heq
        obtain ⟨b1, h1, rfl⟩ := (hg _ _ _ hx).1 hy
        obtain ⟨b2, h2, rfl⟩ := (htail _).1 ht
        exact ⟨b1 ++ b2, carries_append.2 ⟨b1, b2, rfl, h1, h2⟩, (List.append_assoc _ _ _).symm⟩
      · cases h
    · rintro ⟨bytes, hbytes, rfl⟩
      obtain ⟨b1, b2, rfl, h1, h2⟩ := carries_append.1 hbytes
      rw [(hg _ _ _ hx).2 ⟨b1, h1, List.append_assoc _ _ _⟩]
      simp only [(htail _).2 ⟨b2, h2, rfl⟩, Option.map_some]

theorem Takes.opt (hg : Takes g width) : Takes (getOpt width g) (1 + width) := fun bs o rest h => by
  unfold getOpt at h
  split at h
  · rename_i left hflag
    obtain ⟨⟨x, rest'⟩, hx, heq⟩ := Option.map_eq_some_iff.1 h
    cases heq
    rw [takes_flag _ _ _ hflag, hg _ _ _ hx, Nat.add_assoc]
  · rename_i left hflag
    split at h
    · cases h
    · rename_i hwidth
      cases h
      rw [takes_flag _ _ _ hflag, List.length_drop]
      omega
  · cases h

theorem Spells.opt (hg : Spells g ok items) (width : Nat) :
    Spells (getOpt width g) (fun o => ∀ x, o = some x → ok x) (fun o => optItems width (o.map items)) := fun bs o rest hok => by
  unfold getOpt
  constructor
  · intro h
    split at h
    · rename_i left hflag
      obtain ⟨⟨x, rest'⟩, hx, heq⟩ := Option.map_eq_some_iff.1 h
      cases heq
      obtain ⟨bytes, hbytes, rfl⟩ := (hg _ _ _ (hok x rfl)).1 hx
      exact ⟨1 :: bytes, carries_known_cons.2 ⟨bytes, rfl, hbytes⟩, getFlag_eq_some.1 hflag⟩
    · rename_i left hflag
      split at h
      · cases h
      · rename_i hwidth
        cases h
        refine ⟨0 :: left.take width, carries_known_cons.2 ⟨_, rfl, carries_open.2 ?_⟩, ?_⟩
        · rw [List.length_take]
          omega
        · rw [getFlag_eq_some.1 hflag, List.cons_append, List.take_append_drop]
          rfl
    · cases h
  · rintro ⟨bytes, hbytes, rfl⟩
    cases o with
    | none =>
      obtain ⟨pad, rfl, hpad⟩ := carries_known_cons.1 hbytes
      have hlength := carries_open.1 hpad
      rw [show (0 :: pad) ++ rest = (if false then (1 : Byte) else 0) :: (pad ++ rest) from rfl, getFlag_flag]
      simp [← hlength]
    | some x =>
      obtain ⟨left, rfl, hleft⟩ := carries_known_cons.1 hbytes
      rw [show (1 :: left) ++ rest = (if true then (1 : Byte) else 0) :: (left ++ rest) from rfl, getFlag_flag]
      simp only [(hg _ _ _ (hok x rfl)).2 ⟨left, hleft, rfl⟩, Option.map_some]

theorem Takes.list (most : Nat) (dflt : α) : Takes (getList most width dflt g) (1 + most * width) := fun bs l rest h => by
  unfold getList at h
  split at h
  · rename_i n left hn
    split at h
    · cases h
    · rename_i hlength
      obtain ⟨x, _, heq⟩ := Option.map_eq_some_iff.1 h
      cases heq
      rw [takes_nat1 _ _ _ hn, List.length_drop]
      omega
  · cases h

theorem flatMap_length {l : List α} (h : ∀ x ∈ l, (items x).length = width) : (l.flatMap items).length = l.length * width := by
  rw [List.length_flatMap, List.map_congr_left h, List.map_const', List.sum_replicate, smul_eq_mul]

/-- A list of at most `most` entries: its count, its entries, and the places beyond them. -/
theorem Spells.list (hg : Spells g ok items) {most : Nat} (hmost : most < 256) (dflt : α)
    (hwidth : ∀ x, ok x → (items x).length = width) :
    Spells (getList most width dflt g) (fun l => l.length ≤ most ∧ ∀ x ∈ l, ok x)
      (fun l => listItems most width (l.map items)) := fun bs l rest ⟨hlength, hok⟩ => by
  have hitems : (l.flatMap items).length = l.length * width := flatMap_length fun x hx => hwidth x (hok x hx)
  have hsplit : most * width = l.length * width + (most - l.length) * width := by
    rw [← Nat.add_mul, Nat.add_sub_cancel' hlength]
  have hcontent : listItems most width (l.map items) =
      [byteItem l.length] ++ (l.flatMap items ++ List.replicate ((most - l.length) * width) none) := by
    rw [listItems, List.length_map, List.flatMap_def]
    rfl
  change _ ↔ ∃ bytes, carries bytes (listItems most width (l.map items)) ∧ _
  rw [hcontent]
  unfold getList
  constructor
  · intro h
    split at h
    · rename_i n left hn
      split at h
      · cases h
      · rename_i hleft
        obtain ⟨⟨l', r'⟩, hmany, heq⟩ := Option.map_eq_some_iff.1 h
        simp only at heq
        have hcount := getMany_length hmany
        by_cases hover : most < n
        · rw [if_pos hover] at heq
          have hlonger := congrArg (fun x => x.1.length) heq
          simp only [List.length_append, List.length_singleton] at hlonger
          omega
        · rw [if_neg hover] at heq
          obtain ⟨rfl, rfl⟩ := Prod.mk.inj heq
          have hmin : min n most = n := by omega
          have hn' : n = l'.length := by omega
          subst hn'
          rw [hmin] at hmany
          obtain ⟨entries, hentries, rfl⟩ := (hg.many l' hok _ _).1 hmany
          have hentriesLength := hentries.1
          rw [hitems] at hentriesLength
          obtain ⟨count, hcount, rfl⟩ := (spells_nat1 _ _ _ (by omega)).1 hn
          have hroom : (most - l'.length) * width ≤ r'.length := by
            rw [List.length_append] at hleft
            omega
          refine ⟨count ++ (entries ++ r'.take ((most - l'.length) * width)), carries_append.2 ⟨_, _, rfl, hcount,
            carries_append.2 ⟨_, _, rfl, hentries, carries_open.2 (List.length_take_of_le hroom)⟩⟩, ?_⟩
          rw [hsplit, ← hentriesLength, List.drop_append, List.drop_eq_nil_of_le (by omega), List.nil_append,
            Nat.add_sub_cancel_left, List.append_assoc, List.append_assoc, List.take_append_drop]
    · cases h
  · rintro ⟨bytes, hbytes, rfl⟩
    obtain ⟨count, left, rfl, hcount, hleft⟩ := carries_append.1 hbytes
    obtain ⟨entries, pad, rfl, hentries, hpad⟩ := carries_append.1 hleft
    have hentriesLength := hentries.1
    rw [hitems] at hentriesLength
    have hpadLength := carries_open.1 hpad
    rw [(spells_nat1 _ _ _ (by omega)).2 ⟨count, hcount, List.append_assoc _ _ _⟩]
    have hmin : min l.length most = l.length := by omega
    have hall : (entries ++ pad).length = most * width := by rw [List.length_append]; omega
    have hmany := (hg.many l hok ((entries ++ pad) ++ rest) (pad ++ rest)).2 ⟨entries, hentries, List.append_assoc _ _ _⟩
    simp only [hmin, hmany, Option.map_some]
    rw [if_neg (by rw [List.length_append]; omega), if_neg (by omega), List.drop_left' hall]

end Many

end Sys2Proof.Machine
end

section

/-! PROOF. The readers of the entries of the six tables, by the items of an entry and its width. -/

namespace Sys2Proof.Machine

/-! ### Ranges -/

theorem optBelow_iff {bound : Nat} {o : Option Nat} : optBelow bound o = true ↔ isBelow bound o := by
  cases o <;> simp [optBelow, isBelow]

theorem spells_optByte : Spells (getOpt 1 getNat1) (isBelow 256) optByte := spells_nat1.opt 1

theorem isBelow_mono {m n : Nat} (h : m ≤ n) {o : Option Nat} (ho : isBelow m o) : isBelow n o := fun x hx => (ho x hx).trans_le h

/-! ### Windows, static parts, rows and the budget record -/

/-- The fields of a window, one after the other. -/
def windowFields : Reader (Bool × DnPort × Nat × Nat × Nat × Nat × Bool × Nat × Nat) :=
  getFlag.pair <| (getCode DnPort.ofCode).pair <| getNat1.pair <| getNat2.pair <| getNat2.pair <| getNat2.pair <|
    getFlag.pair <| getNat1.pair getNat1

theorem getWindow_eq (bs : List Byte) : getWindow bs = windowFields.as
    (Function.uncurry fun a => Function.uncurry fun b => Function.uncurry fun c => Function.uncurry fun d =>
      Function.uncurry fun e => Function.uncurry fun f => Function.uncurry fun g => Function.uncurry fun h i => ⟨a, b, c, d,
      e, f, g, h, i⟩) bs := by
  iterate 8 refine Reader.eq_as_pair fun _ _ => ?_
  exact Reader.eq_as_last fun _ _ => rfl

theorem takes_window : Takes getWindow 12 :=
  Takes.of_eq (((takes_flag.pair <| takes_code.pair <| takes_nat1.pair <| takes_nat2.pair <| takes_nat2.pair <|
    takes_nat2.pair <| takes_flag.pair <| takes_nat1.pair takes_nat1)).as _) getWindow_eq (by decide)

theorem spells_window : Spells getWindow windowOk windowItems :=
  (spells_flag.pair <| (spells_code DnPort.inverts).pair <| spells_nat1.pair <| spells_nat2.pair <| spells_nat2.pair <|
    spells_nat2.pair <| spells_flag.pair <| spells_nat1.pair spells_nat1).record getWindow_eq
    (fun w => (w.defined, w.port, w.station, w.first, w.last, w.base, w.guarded, w.replyTimeout, w.staleLimit)) (fun _ => rfl) (fun _ => rfl)
    (fun w ⟨_, hstation, hfirst, hlast, hbase, _, hreply, _, hstale⟩ =>
      ⟨trivial, trivial, hstation.trans_lt (by decide), hfirst.trans_lt (by decide), hlast.trans_lt (by decide),
        hbase.trans_lt (by decide), trivial, hreply.trans_lt (by decide), hstale.trans_lt (by decide)⟩)
    (fun _ => rfl)

/-- The fields of a static part, one after the other. -/
def staticFields : Reader (PointClass × Option Nat × Nat × Nat × Nat × Nat) :=
  (getCode PointClass.ofCode).pair <| (getOpt 1 getNat1).pair <| getNat2.pair <| getNat2.pair <| getNat1.pair getNat2

theorem getPointStatic_eq (bs : List Byte) : getPointStatic bs = staticFields.as
    (Function.uncurry fun a => Function.uncurry fun b => Function.uncurry fun c => Function.uncurry fun d =>
      Function.uncurry fun e f => ⟨a, b, c, d, e, f⟩) bs := by
  iterate 5 refine Reader.eq_as_pair fun _ _ => ?_
  exact Reader.eq_as_last fun _ _ => rfl

theorem takes_static : Takes getPointStatic 10 :=
  Takes.of_eq ((takes_code.pair <| takes_nat1.opt.pair <| takes_nat2.pair <| takes_nat2.pair <|
    takes_nat1.pair takes_nat2).as _) getPointStatic_eq (by decide)

theorem spells_static : Spells getPointStatic staticOk staticItems :=
  ((spells_code PointClass.inverts).pair <| spells_optByte.pair <| spells_nat2.pair <| spells_nat2.pair <|
    spells_nat1.pair spells_nat2).record getPointStatic_eq
    (fun p => (p.cls, p.sect, p.ratedLoad, p.startCost, p.startLimit, p.deadband)) (fun _ => rfl) (fun _ => rfl)
    (fun p ⟨hsect, hload, hcost, hlimit, hband, _⟩ =>
      ⟨trivial, isBelow_mono (by decide) hsect, hload.trans_lt (by decide), hcost.trans_lt (by decide),
        hlimit.trans_lt (by decide), hband.trans_lt (by decide)⟩)
    (fun p => by simp [staticItems])

/-- The fields of a screen row, one after the other. -/
def rowFields : Reader (RowBase × Option Nat × Word × Word × Nat × Word × Nat) :=
  (getCode RowBase.ofCode).pair <| (getOpt 1 getNat1).pair <| getWord.pair <| getWord.pair <| getNat2.pair <|
    getWord.pair getNat1

theorem getScreenRow_eq (bs : List Byte) : getScreenRow bs = rowFields.as
    (Function.uncurry fun a => Function.uncurry fun b => Function.uncurry fun c => Function.uncurry fun d =>
      Function.uncurry fun e => Function.uncurry fun f g => ⟨a, b, c, d, e, f, g⟩) bs := by
  iterate 6 refine Reader.eq_as_pair fun _ _ => ?_
  exact Reader.eq_as_last fun _ _ => rfl

theorem takes_row : Takes getScreenRow 12 :=
  Takes.of_eq ((takes_code.pair <| takes_nat1.opt.pair <| takes_word.pair <| takes_word.pair <| takes_nat2.pair <|
    takes_word.pair takes_nat1).as _) getScreenRow_eq (by decide)

theorem spells_row : Spells getScreenRow rowOk rowItems :=
  ((spells_code RowBase.inverts).pair <| spells_optByte.pair <| spells_word.pair <| spells_word.pair <|
    spells_nat2.pair <| spells_word.pair spells_nat1).record getScreenRow_eq
    (fun r => (r.base, r.condSet, r.low, r.high, r.ramp, r.gates, r.holdLimit)) (fun _ => rfl) (fun _ => rfl)
    (fun r ⟨hset, hramp, hlimit⟩ =>
      ⟨trivial, isBelow_mono (by decide) hset, trivial, trivial, hramp.trans_lt (by decide), trivial, hlimit.trans_lt (by decide)⟩)
    (fun r => by simp [rowItems])

/-- The fields of the budget record, one after the other. -/
def budgetFields : Reader (Nat × Nat × Nat × Nat × Nat) :=
  getNat1.pair <| getNat2.pair <| getNat2.pair <| getNat2.pair getNat1

theorem getBudgetRec_eq (bs : List Byte) : getBudgetRec bs = budgetFields.as
    (Function.uncurry fun a => Function.uncurry fun b => Function.uncurry fun c => Function.uncurry fun d e => ⟨a, b, c,
      d, e⟩) bs := by
  iterate 4 refine Reader.eq_as_pair fun _ _ => ?_
  exact Reader.eq_as_last fun _ _ => rfl

theorem takes_budget : Takes getBudgetRec 8 :=
  Takes.of_eq ((takes_nat1.pair <| takes_nat2.pair <| takes_nat2.pair <| takes_nat2.pair takes_nat1).as _) getBudgetRec_eq (by decide)

theorem spells_budget : Spells getBudgetRec budgetOk budgetItems :=
  (spells_nat1.pair <| spells_nat2.pair <| spells_nat2.pair <| spells_nat2.pair spells_nat1).record getBudgetRec_eq
    (fun b => (b.period, b.allowance, b.reserve, b.capacity, b.tallyInterval)) (fun _ => rfl) (fun _ => rfl)
    (fun b ⟨_, hperiod, hallowance, hreserve, hcapacity, _, htally⟩ =>
      ⟨hperiod.trans_lt (by decide), hallowance.trans_lt (by decide), hreserve.trans_lt (by decide),
        hcapacity.trans_lt (by decide), htally.trans_lt (by decide)⟩)
    (fun b => by simp [budgetItems])

/-! ### Section records -/

theorem getFlowPoint_eq (bs : List Byte) : getFlowPoint bs = (getNat2.pair getWord).as (Function.uncurry fun a b => ⟨a, b⟩) bs := by
  refine Reader.eq_as_pair fun _ _ => ?_
  exact Reader.eq_as_last fun _ _ => rfl

theorem takes_flow : Takes getFlowPoint 4 := Takes.of_eq ((takes_nat2.pair takes_word).as _) getFlowPoint_eq (by decide)

theorem spells_flow :
    Spells getFlowPoint (fun f => f.point ≤ 2047) (fun f => twoItems f.point ++ wordItems f.threshold) :=
  (spells_nat2.pair spells_word).record getFlowPoint_eq
    (fun f => (f.point, f.threshold)) (fun _ => rfl) (fun _ => rfl)
    (fun f h => ⟨h.trans_lt (by decide), trivial⟩) (fun _ => rfl)

theorem getLevelPoint_eq (bs : List Byte) : getLevelPoint bs =
    (getNat2.pair (getWord.pair getWord)).as (Function.uncurry fun a => Function.uncurry fun b c => ⟨a, b, c⟩) bs := by
  iterate 2 refine Reader.eq_as_pair fun _ _ => ?_
  exact Reader.eq_as_last fun _ _ => rfl

theorem takes_level : Takes getLevelPoint 6 :=
  Takes.of_eq ((takes_nat2.pair (takes_word.pair takes_word)).as _) getLevelPoint_eq (by decide)

theorem spells_level : Spells getLevelPoint (fun l => l.point ≤ 2047)
    (fun l => twoItems l.point ++ wordItems l.low ++ wordItems l.high) :=
  (spells_nat2.pair (spells_word.pair spells_word)).record getLevelPoint_eq
    (fun l => (l.point, l.low, l.high)) (fun _ => rfl) (fun _ => rfl) (fun l h => ⟨h.trans_lt (by decide), trivial, trivial⟩) (fun _ => rfl)

theorem getTripAction_eq (bs : List Byte) : getTripAction bs =
    (getNat2.pair ((getCode Action.ofCode).pair getWord)).as (Function.uncurry fun a => Function.uncurry fun b c => ⟨a, b, c⟩) bs := by
  iterate 2 refine Reader.eq_as_pair fun _ _ => ?_
  exact Reader.eq_as_last fun _ _ => rfl

theorem takes_trip : Takes getTripAction 5 :=
  Takes.of_eq ((takes_nat2.pair (takes_code.pair takes_word)).as _) getTripAction_eq (by decide)

theorem spells_trip : Spells getTripAction (fun a => a.point ≤ 2047)
    (fun a => twoItems a.point ++ some (Action.code a.action) :: wordItems a.value) :=
  (spells_nat2.pair ((spells_code Action.inverts).pair spells_word)).record getTripAction_eq
    (fun a => (a.point, a.action, a.value)) (fun _ => rfl) (fun _ => rfl) (fun a h => ⟨h.trans_lt (by decide), trivial, trivial⟩) (fun _ => rfl)

/-- The fields of a section record, one after the other. -/
def sectionFields : Reader (Bool × Role × Nat × List Nat × List Nat × Option Nat × Option Nat × Option Nat × Option Nat ×
    List FlowPoint × Nat × Option LevelPoint × Option Nat × Option Nat × Nat × Nat × List TripAction) :=
  getFlag.pair <| (getCode Role.ofCode).pair <| getNat1.pair <| (getList 3 1 0 getNat1).pair <|
    (getList 4 1 0 getNat1).pair <| (getOpt 1 getNat1).pair <| (getOpt 1 getNat1).pair <| (getOpt 1 getNat1).pair <|
    (getOpt 1 getNat1).pair <| (getList 2 4 ⟨0, 0⟩ getFlowPoint).pair <| getNat1.pair <| (getOpt 6 getLevelPoint).pair <|
    (getOpt 1 getNat1).pair <| (getOpt 1 getNat1).pair <| getNat1.pair <| getNat1.pair
      (getList 4 5 ⟨0, .stop, 0⟩ getTripAction)

theorem getSectionRec_eq (bs : List Byte) : getSectionRec bs = sectionFields.as
    (Function.uncurry fun a => Function.uncurry fun b => Function.uncurry fun c => Function.uncurry fun d =>
      Function.uncurry fun e => Function.uncurry fun f => Function.uncurry fun g => Function.uncurry fun h =>
      Function.uncurry fun i => Function.uncurry fun j => Function.uncurry fun k => Function.uncurry fun l =>
      Function.uncurry fun m => Function.uncurry fun n => Function.uncurry fun o => Function.uncurry fun p q => ⟨a, b, c, d,
      e, f, g, h, i, j, k, l, m, n, o, p, q⟩) bs := by
  iterate 16 refine Reader.eq_as_pair fun _ _ => ?_
  exact Reader.eq_as_last fun _ _ => rfl

theorem takes_feeds : Takes (getList 3 1 0 getNat1) 4 := Takes.list 3 0

theorem takes_needs : Takes (getList 4 1 0 getNat1) 5 := Takes.list 4 0

theorem takes_flows : Takes (getList 2 4 ⟨0, 0⟩ getFlowPoint) 9 := Takes.list 2 _

theorem takes_trips : Takes (getList 4 5 ⟨0, .stop, 0⟩ getTripAction) 21 := Takes.list 4 _

theorem takes_section : Takes getSectionRec 64 :=
  Takes.of_eq ((takes_flag.pair <| takes_code.pair <| takes_nat1.pair <| takes_feeds.pair <| takes_needs.pair <|
    takes_nat1.opt.pair <| takes_nat1.opt.pair <| takes_nat1.opt.pair <| takes_nat1.opt.pair <| takes_flows.pair <|
    takes_nat1.pair <| takes_level.opt.pair <| takes_nat1.opt.pair <| takes_nat1.opt.pair <| takes_nat1.pair <|
    takes_nat1.pair takes_trips).as _) getSectionRec_eq (by decide)

theorem spells_feeds : Spells (getList 3 1 0 getNat1) (fun l => l.length ≤ 3 ∧ ∀ n ∈ l, n < 256)
    (fun l => listItems 3 1 (l.map (fun n => [byteItem n]))) :=
  spells_nat1.list (by decide) 0 fun _ _ => rfl

theorem spells_needs : Spells (getList 4 1 0 getNat1) (fun l => l.length ≤ 4 ∧ ∀ n ∈ l, n < 256)
    (fun l => listItems 4 1 (l.map (fun n => [byteItem n]))) :=
  spells_nat1.list (by decide) 0 fun _ _ => rfl

theorem spells_flows : Spells (getList 2 4 ⟨0, 0⟩ getFlowPoint) (fun l => l.length ≤ 2 ∧ ∀ f ∈ l, f.point ≤ 2047)
    (fun l => listItems 2 4 (l.map (fun f => twoItems f.point ++ wordItems f.threshold))) :=
  spells_flow.list (by decide) _ fun _ _ => rfl

theorem spells_trips : Spells (getList 4 5 ⟨0, .stop, 0⟩ getTripAction) (fun l => l.length ≤ 4 ∧ ∀ a ∈ l, a.point ≤ 2047)
    (fun l => listItems 4 5 (l.map (fun a => twoItems a.point ++ some (Action.code a.action) :: wordItems a.value))) :=
  spells_trip.list (by decide) _ fun _ _ => rfl

theorem spells_section : Spells getSectionRec sectionOk sectionItems :=
  (spells_flag.pair <| (spells_code Role.inverts).pair <| spells_nat1.pair <| spells_feeds.pair <| spells_needs.pair <|
    spells_optByte.pair <| spells_optByte.pair <| spells_optByte.pair <| spells_optByte.pair <| spells_flows.pair <|
    spells_nat1.pair <| (spells_level.opt 6).pair <| spells_optByte.pair <| spells_optByte.pair <| spells_nat1.pair <|
    spells_nat1.pair spells_trips).record getSectionRec_eq
    (fun r => (r.defined, r.role, r.profile, r.feeds, r.needs, r.warmSet, r.runSet, r.flushSet, r.tripSet, r.flowPoints,
      r.confirmTime, r.level, r.permitIn, r.permitOut, r.warmLimit, r.drainLimit, r.tripActions)) (fun _ => rfl) (fun _ => rfl)
    (fun r ⟨hprofile, hfeeds, hfed, _, hneeds, hneeded, _, hwarm, hrun, hflush, htrip, hflows, hflow, _, hconfirm, hlevel,
        hin, hout, hwarmLimit, hdrainLimit, hactions, haction⟩ =>
      ⟨trivial, trivial, hprofile.trans_lt (by decide), ⟨hfeeds, fun n hn => (hfed n hn).trans (by omega)⟩,
        ⟨hneeds, fun n hn => (hneeded n hn).trans (by omega)⟩, isBelow_mono (by decide) hwarm, isBelow_mono (by decide) hrun,
        isBelow_mono (by decide) hflush, isBelow_mono (by decide) htrip, ⟨hflows, hflow⟩, hconfirm.trans_lt (by decide),
        hlevel, isBelow_mono (by decide) hin, isBelow_mono (by decide) hout, hwarmLimit.trans_lt (by decide),
        hdrainLimit.trans_lt (by decide), hactions, haction⟩)
    (fun r => by simp only [sectionItems, List.append_assoc, List.cons_append, List.nil_append])

/-! ### Condition sets -/

/-- The items of a state test: the list of ANY is open. -/
def stateItems : StateTest → List (Option Byte)
  | .any => some 0 :: List.replicate 9 none
  | .oneOf l => some 1 :: listItems 8 1 (l.map (fun x => [some (ReportState.code x)]))

theorem conditionItems_eq (c : Condition) : conditionItems c =
    twoItems c.point ++ (stateItems c.states ++ some (ValueTest.code c.test) :: (wordItems c.ref1 ++ wordItems c.ref2)) := by
  obtain ⟨point, states, test, ref1, ref2⟩ := c
  cases states <;> simp [conditionItems, stateItems]

theorem takes_states : Takes getStateTest 10 := fun bs x rest h => by
  unfold getStateTest at h
  split at h
  · rename_i left hflag
    split at h
    · cases h
    · rename_i hwidth
      cases h
      rw [takes_flag _ _ _ hflag, List.length_drop]
      omega
  · rename_i left hflag
    obtain ⟨⟨l, rest'⟩, hl, heq⟩ := Option.map_eq_some_iff.1 h
    have hrest : rest = rest' := (Prod.mk.inj heq).2.symm
    have htakes : Takes (getList 8 1 ReportState.stopped (getCode ReportState.ofCode)) (1 + 8 * 1) := Takes.list _ _
    rw [takes_flag _ _ _ hflag, htakes _ _ _ hl, hrest]
    omega
  · cases h

theorem spells_states : Spells getStateTest (fun t => ∀ l, t = .oneOf l → l.length ≤ 8) stateItems := fun bs t rest hok => by
  have hlist : Spells (getList 8 1 ReportState.stopped (getCode ReportState.ofCode)) _ _ :=
    (spells_code ReportState.inverts).list (by decide) ReportState.stopped (width := 1) fun _ _ => rfl
  unfold getStateTest
  constructor
  · intro h
    split at h
    · rename_i left hflag
      split at h
      · cases h
      · rename_i hwidth
        cases h
        refine ⟨0 :: left.take 9, carries_known_cons.2 ⟨_, rfl, carries_open.2 ?_⟩, ?_⟩
        · rw [List.length_take]
          omega
        · rw [getFlag_eq_some.1 hflag, List.cons_append, List.take_append_drop]
          rfl
    · rename_i left hflag
      obtain ⟨⟨l, rest'⟩, hl, heq⟩ := Option.map_eq_some_iff.1 h
      cases heq
      obtain ⟨bytes, hbytes, rfl⟩ := (hlist _ _ _ ⟨hok l rfl, fun _ _ => trivial⟩).1 hl
      exact ⟨1 :: bytes, carries_known_cons.2 ⟨bytes, rfl, hbytes⟩, getFlag_eq_some.1 hflag⟩
    · cases h
  · rintro ⟨bytes, hbytes, rfl⟩
    cases t with
    | any =>
      obtain ⟨pad, rfl, hpad⟩ := carries_known_cons.1 hbytes
      have hlength := carries_open.1 hpad
      rw [show (0 :: pad) ++ rest = (if false then (1 : Byte) else 0) :: (pad ++ rest) from rfl, getFlag_flag]
      simp [← hlength]
    | oneOf l =>
      obtain ⟨left, rfl, hleft⟩ := carries_known_cons.1 hbytes
      rw [show (1 :: left) ++ rest = (if true then (1 : Byte) else 0) :: (left ++ rest) from rfl, getFlag_flag]
      simp only [(hlist _ _ _ ⟨hok l rfl, fun _ _ => trivial⟩).2 ⟨left, hleft, rfl⟩, Option.map_some]

/-- The fields of a condition, one after the other. -/
def conditionFields : Reader (Nat × StateTest × ValueTest × Word × Word) :=
  getNat2.pair <| getStateTest.pair <| (getCode ValueTest.ofCode).pair <| getWord.pair getWord

theorem getCondition_eq (bs : List Byte) : getCondition bs = conditionFields.as
    (Function.uncurry fun a => Function.uncurry fun b => Function.uncurry fun c => Function.uncurry fun d e => ⟨a, b, c,
      d, e⟩) bs := by
  iterate 4 refine Reader.eq_as_pair fun _ _ => ?_
  exact Reader.eq_as_last fun _ _ => rfl

theorem takes_condition : Takes getCondition 17 :=
  Takes.of_eq ((takes_nat2.pair <| takes_states.pair <| takes_code.pair <| takes_word.pair takes_word).as _) getCondition_eq (by decide)

/-- The ranges of a condition's fields. -/
def conditionOk (x : Condition) : Prop := x.point ≤ 2047 ∧ ∀ l, x.states = .oneOf l → 1 ≤ l.length ∧ l.length ≤ 8

theorem spells_condition : Spells getCondition conditionOk conditionItems :=
  (spells_nat2.pair <| spells_states.pair <| (spells_code ValueTest.inverts).pair <| spells_word.pair spells_word).record getCondition_eq
    (fun c => (c.point, c.states, c.test, c.ref1, c.ref2)) (fun _ => rfl) (fun _ => rfl)
    (fun c ⟨hpoint, hstates⟩ => ⟨hpoint.trans_lt (by decide), fun l hl => (hstates l hl).2, trivial, trivial, trivial⟩)
    (fun c => conditionItems_eq c)

theorem listItems_length {α : Type} {most width : Nat} {items : α → List (Option Byte)} {l : List α} (h : l.length ≤ most)
    (hitems : ∀ x ∈ l, (items x).length = width) : (listItems most width (l.map items)).length = 1 + most * width := by
  have hsplit : most * width = l.length * width + (most - l.length) * width := by
    rw [← Nat.add_mul, Nat.add_sub_cancel' h]
  rw [listItems, ← List.flatMap_def, List.length_append, List.length_cons, List.length_replicate, flatMap_length hitems,
    List.length_map]
  omega

theorem conditionItems_length {c : Condition} (h : conditionOk c) : (conditionItems c).length = 17 := by
  obtain ⟨point, states, test, ref1, ref2⟩ := c
  rw [conditionItems_eq]
  cases states with
  | any => rfl
  | oneOf l =>
    have hone := h.2 l rfl
    have hlist : (listItems 8 1 (l.map (fun x => [some (ReportState.code x)]))).length = 9 := listItems_length hone.2 fun _ _ => rfl
    simp only [stateItems, twoItems, wordItems, hlist, List.length_append, List.length_cons, List.length_nil]

theorem getConditionSet_eq (bs : List Byte) : getConditionSet bs =
    (getFlag.pair <| (getCode Combination.ofCode).pair (getList 8 17 ⟨0, .any, .noTest, 0, 0⟩ getCondition)).as
      (Function.uncurry fun a => Function.uncurry fun b c => ⟨a, b, c⟩) bs := by
  iterate 2 refine Reader.eq_as_pair fun _ _ => ?_
  exact Reader.eq_as_last fun _ _ => rfl

theorem takes_conditions : Takes (getList 8 17 ⟨0, .any, .noTest, 0, 0⟩ getCondition) 137 := Takes.list 8 _

theorem takes_set : Takes getConditionSet 139 :=
  Takes.of_eq ((takes_flag.pair <| takes_code.pair takes_conditions).as _) getConditionSet_eq (by decide)

theorem spells_conditions : Spells (getList 8 17 ⟨0, .any, .noTest, 0, 0⟩ getCondition)
    (fun l => l.length ≤ 8 ∧ ∀ x ∈ l, conditionOk x) (fun l => listItems 8 17 (l.map conditionItems)) :=
  Spells.list (width := 17) (items := conditionItems) spells_condition (by decide) ⟨0, .any, .noTest, 0, 0⟩
    (fun _ h => conditionItems_length h)

theorem spells_set : Spells getConditionSet setOk setItems :=
  (spells_flag.pair <| (spells_code Combination.inverts).pair spells_conditions).record getConditionSet_eq
    (fun c => (c.defined, c.combination, c.conditions)) (fun _ => rfl) (fun _ => rfl)
    (fun _ h => ⟨trivial, trivial, h.1, h.2.2⟩) (fun _ => rfl)

end Sys2Proof.Machine
end

section

/-! PROOF. The requests whose bodies cannot be read, and WRITE_TABLE. -/

namespace Sys2Proof.Machine

/-! ### The entries of a body (R166, R173) -/

section Entries
variable {α : Type} {g : Reader α} {ok : α → Prop} {items : α → List (Option Byte)} {width n : Nat} {bs : List Byte}
  {wrap : List α → TableData} {d : TableData}

theorem entries_eq_some
    (h : (getMany g n bs).bind (fun x => if x.2 = [] then some (wrap x.1) else none) = some d) :
    ∃ l, getMany g n bs = some (l, []) ∧ d = wrap l := by
  obtain ⟨⟨l, rest⟩, hl, hend⟩ := Option.bind_eq_some_iff.1 h
  by_cases hrest : rest = []
  · subst hrest
    exact ⟨l, hl, (Option.some.inj hend).symm⟩
  · rw [if_neg hrest] at hend
    cases hend

theorem entries_length (hg : Takes g width)
    (h : (getMany g n bs).bind (fun x => if x.2 = [] then some (wrap x.1) else none) = some d) : bs.length = n * width := by
  obtain ⟨l, hl, _⟩ := entries_eq_some h
  exact hg.many n _ _ _ hl

/-- A run of entries is read from bytes that carry it, with none left over. -/
theorem entries_of_carries (hg : Spells g ok items) {l : List α} (hok : ∀ x ∈ l, ok x) (h : carries bs (l.flatMap items)) :
    (getMany g l.length bs).bind (fun x => if x.2 = [] then some (wrap x.1) else none) = some (wrap l) := by
  rw [(hg.many l hok bs []).2 ⟨bs, h, (List.append_nil bs).symm⟩]
  rfl

theorem carries_of_entries (hg : Spells g ok items) {l : List α} (hok : ∀ x ∈ l, ok x) (h : getMany g n bs = some (l, [])) :
    l.length = n ∧ carries bs (l.flatMap items) := by
  have hlength := getMany_length h
  subst hlength
  obtain ⟨bytes, hbytes, rfl⟩ := (hg.many l hok bs []).1 h
  exact ⟨rfl, (List.append_nil bytes).symm ▸ hbytes⟩

end Entries

theorem getEntries_length {t : TableId} {n : Nat} {bs : List Byte} {d : TableData} (h : getEntries t n bs = some d) :
    bs.length = n * entryWidth t := by
  cases t with
  | windows => exact entries_length takes_window h
  | points => exact entries_length takes_static h
  | sections => exact entries_length takes_section h
  | sets => exact entries_length takes_set h
  | rows => exact entries_length takes_row h
  | budget => exact entries_length takes_budget h

/-! ### Ranges of entries (R166) -/

theorem Window.inRange_iff (w : Window) : w.inRange = true ↔ windowOk w := by
  simp only [Window.inRange, windowOk, Bool.and_eq_true, decide_eq_true_eq, and_assoc]

theorem PointStatic.inRange_iff (p : PointStatic) : p.inRange = true ↔ staticOk p := by
  simp only [PointStatic.inRange, staticOk, Bool.and_eq_true, Bool.or_eq_true, decide_eq_true_eq, beq_iff_eq, optBelow_iff,
    and_assoc, Decidable.or_iff_not_imp_left]

theorem sectionListOk_iff {most : Nat} {l : List Nat} :
    sectionListOk most l = true ↔ l.length ≤ most ∧ (∀ n ∈ l, n < 16) ∧ l.Nodup := by
  simp only [sectionListOk, Bool.and_eq_true, decide_eq_true_eq, List.all_eq_true, and_assoc]

theorem SectionRec.inRange_iff (r : SectionRec) : r.inRange = true ↔ sectionOk r := by
  have hlevel : (match r.level with | some l => decide (l.point ≤ 2047) | none => true) = true ↔
      ∀ l, r.level = some l → l.point ≤ 2047 := by
    cases r.level <;> simp
  simp only [SectionRec.inRange, sectionOk, Bool.and_eq_true, decide_eq_true_eq, List.all_eq_true, optBelow_iff,
    sectionListOk_iff, and_assoc]
  exact Iff.rfl.and <| Iff.rfl.and <| Iff.rfl.and <| Iff.rfl.and <| Iff.rfl.and <| Iff.rfl.and <| Iff.rfl.and <| Iff.rfl.and <|
    Iff.rfl.and <| Iff.rfl.and <| Iff.rfl.and <| Iff.rfl.and <| Iff.rfl.and <| Iff.rfl.and <| Iff.rfl.and <|
    Iff.and (by exact hlevel) Iff.rfl

theorem StateTest.inRange_iff (t : StateTest) : t.inRange = true ↔ ∀ l, t = .oneOf l → 1 ≤ l.length ∧ l.length ≤ 8 := by
  cases t with
  | any => exact ⟨fun _ l hl => (by cases hl), fun _ => rfl⟩
  | oneOf l => simp [StateTest.inRange]

theorem ConditionSet.inRange_iff (c : ConditionSet) : c.inRange = true ↔ setOk c := by
  have hsome : (!c.defined || decide (1 ≤ c.conditions.length)) = true ↔ (c.defined = true → c.conditions ≠ []) := by
    cases c.defined <;> cases c.conditions <;> simp
  simp only [ConditionSet.inRange, setOk, Bool.and_eq_true, decide_eq_true_eq, List.all_eq_true, StateTest.inRange_iff, hsome,
    and_assoc]

theorem ScreenRow.inRange_iff (r : ScreenRow) : r.inRange = true ↔ rowOk r := by
  simp only [ScreenRow.inRange, rowOk, Bool.and_eq_true, decide_eq_true_eq, optBelow_iff, and_assoc]

theorem BudgetRec.inRange_iff (b : BudgetRec) : b.inRange = true ↔ budgetOk b := by
  simp only [BudgetRec.inRange, budgetOk, Bool.and_eq_true, decide_eq_true_eq, and_assoc]

theorem firstOut_findIdx {α : Type} {inRange : α → Bool} {ok : α → Prop} (hok : ∀ x, inRange x = true ↔ ok x) (l : List α) :
    firstOut ok l (l.findIdx? (fun x => !inRange x)) := by
  cases hfind : l.findIdx? (fun x => !inRange x) with
  | none =>
    intro x hx
    have hin := List.findIdx?_eq_none_iff.1 hfind x hx
    exact (hok x).1 (by simpa using hin)
  | some k =>
    obtain ⟨hk, hout, hbefore⟩ := List.findIdx?_eq_some_iff_getElem.1 hfind
    refine ⟨l.take k, l[k], l.drop (k + 1), ?_, List.length_take_of_le hk.le, ?_, fun y hy => ?_⟩
    · rw [List.getElem_cons_drop, List.take_append_drop]
    · rw [← hok]
      simpa using hout
    · obtain ⟨j, hj, rfl⟩ := List.getElem_of_mem hy
      rw [List.length_take] at hj
      rw [List.getElem_take, ← hok]
      simpa using hbefore j (by omega)

theorem findIdx_inRange {α : Type} {inRange : α → Bool} {ok : α → Prop} (hok : ∀ x, inRange x = true ↔ ok x) {l : List α} :
    l.findIdx? (fun x => !inRange x) = none ↔ ∀ x ∈ l, ok x := by
  rw [List.findIdx?_eq_none_iff]
  simp only [Bool.not_eq_false', hok]

/-- The entries read are a run in range exactly where the bytes carry that run. -/
theorem getEntries_iff {t : TableId} {n : Nat} {bs : List Byte} {d : TableData} (hin : d.firstBad = none) :
    getEntries t n bs = some d ↔ ∃ items, dataIs t n items d ∧ carries bs items := by
  constructor
  · intro h
    cases t with
    | windows =>
      obtain ⟨l, hl, rfl⟩ := entries_eq_some h
      have hok := (findIdx_inRange Window.inRange_iff).1 hin
      obtain ⟨hn, hcarries⟩ := carries_of_entries spells_window hok hl
      exact ⟨_, ⟨rfl, hn, rfl, hok⟩, hcarries⟩
    | points =>
      obtain ⟨l, hl, rfl⟩ := entries_eq_some h
      have hok := (findIdx_inRange PointStatic.inRange_iff).1 hin
      obtain ⟨hn, hcarries⟩ := carries_of_entries spells_static hok hl
      exact ⟨_, ⟨rfl, hn, rfl, hok⟩, hcarries⟩
    | sections =>
      obtain ⟨l, hl, rfl⟩ := entries_eq_some h
      have hok := (findIdx_inRange SectionRec.inRange_iff).1 hin
      obtain ⟨hn, hcarries⟩ := carries_of_entries spells_section hok hl
      exact ⟨_, ⟨rfl, hn, rfl, hok⟩, hcarries⟩
    | sets =>
      obtain ⟨l, hl, rfl⟩ := entries_eq_some h
      have hok := (findIdx_inRange ConditionSet.inRange_iff).1 hin
      obtain ⟨hn, hcarries⟩ := carries_of_entries spells_set hok hl
      exact ⟨_, ⟨rfl, hn, rfl, hok⟩, hcarries⟩
    | rows =>
      obtain ⟨l, hl, rfl⟩ := entries_eq_some h
      have hok := (findIdx_inRange ScreenRow.inRange_iff).1 hin
      obtain ⟨hn, hcarries⟩ := carries_of_entries spells_row hok hl
      exact ⟨_, ⟨rfl, hn, rfl, hok⟩, hcarries⟩
    | budget =>
      obtain ⟨l, hl, rfl⟩ := entries_eq_some h
      have hok := (findIdx_inRange BudgetRec.inRange_iff).1 hin
      obtain ⟨hn, hcarries⟩ := carries_of_entries spells_budget hok hl
      exact ⟨_, ⟨rfl, hn, rfl, hok⟩, hcarries⟩
  · rintro ⟨items, hdata, hcarries⟩
    cases d with
    | windows l => obtain ⟨rfl, rfl, rfl, hok⟩ := hdata; exact entries_of_carries spells_window hok hcarries
    | points l => obtain ⟨rfl, rfl, rfl, hok⟩ := hdata; exact entries_of_carries spells_static hok hcarries
    | sections l => obtain ⟨rfl, rfl, rfl, hok⟩ := hdata; exact entries_of_carries spells_section hok hcarries
    | sets l => obtain ⟨rfl, rfl, rfl, hok⟩ := hdata; exact entries_of_carries spells_set hok hcarries
    | rows l => obtain ⟨rfl, rfl, rfl, hok⟩ := hdata; exact entries_of_carries spells_row hok hcarries
    | budget l => obtain ⟨rfl, rfl, rfl, hok⟩ := hdata; exact entries_of_carries spells_budget hok hcarries

/-! ### The body of a WRITE_TABLE (R173, R174) -/

theorem readWriteBody_eq_some {body : List Byte} {b : WriteBody} :
    readWriteBody body = some b ↔ ∃ bytes, b.first < 65536 ∧ b.count < 256 ∧ 4 + b.count * entryWidth b.table ≤ 240 ∧
      getEntries b.table b.count bytes = some b.data ∧
      body = [TableId.code b.table, BitVec.ofNat 8 (b.first / 256), BitVec.ofNat 8 b.first, BitVec.ofNat 8 b.count] ++
        bytes := by
  constructor
  · intro h
    unfold readWriteBody at h
    split at h
    · rename_i tcode high low count bytes
      split at h
      · rename_i t htable
        split at h
        · rename_i hfits
          obtain ⟨data, hdata, heq⟩ := Option.map_eq_some_iff.1 h
          cases heq
          obtain ⟨hfirst, hhigh, hlow⟩ := wordOf_toNat_eq.1 (Eq.refl (wordOf high low).toNat)
          obtain ⟨hcount, hc⟩ := byte_toNat_eq.1 (Eq.refl count.toNat)
          exact ⟨bytes, hfirst, hcount, hfits, hdata, by rw [← hhigh, ← hlow, ← hc, (TableId.inverts _ _).1 htable]; rfl⟩
        · cases h
      · cases h
    · cases h
  · obtain ⟨table, first, count, data⟩ := b
    rintro ⟨bytes, hfirst, hcount, hfits, hdata, rfl⟩
    simp only [readWriteBody, List.cons_append, List.nil_append, (TableId.inverts _ _).2 rfl,
      byte_toNat_eq.2 ⟨hcount, rfl⟩, wordOf_toNat_eq.2 ⟨hfirst, rfl, rfl⟩]
    rw [if_pos hfits, hdata]
    rfl

theorem readWriteBody_short {body : List Byte} (h : body.length < 4) : readWriteBody body = none := by
  rw [Option.eq_none_iff_forall_ne_some]
  intro b hb
  obtain ⟨bytes, _, _, _, _, rfl⟩ := readWriteBody_eq_some.1 hb
  rw [List.length_append] at h
  simp only [List.length_cons, List.length_nil] at h
  omega

theorem readWriteBody_unread {t h l c : Byte} {bytes : List Byte}
    (hbad : TableId.ofCode t = none ∨ ∃ k, TableId.ofCode t = some k ∧
      (bytes.length ≠ c.toNat * entryWidth k ∨ 240 < 4 + bytes.length)) : readWriteBody (t :: h :: l :: c :: bytes) = none := by
  rw [Option.eq_none_iff_forall_ne_some]
  intro b hb
  obtain ⟨bytes', _, hcount, hfits, hdata, hbody⟩ := readWriteBody_eq_some.1 hb
  simp only [List.cons_append, List.nil_append, List.cons.injEq] at hbody
  obtain ⟨rfl, _, _, rfl, rfl⟩ := hbody
  have hlength := getEntries_length hdata
  rcases hbad with hnone | ⟨k, hk, hwrong⟩
  · rw [(TableId.inverts _ _).2 rfl] at hnone
    cases hnone
  · rw [(TableId.inverts _ _).2 rfl] at hk
    cases hk
    rw [byte_toNat_eq.2 ⟨hcount, rfl⟩] at hwrong
    omega

theorem readWriteBody_iff {body : List Byte} {b : WriteBody} (hin : b.data.firstBad = none) :
    readWriteBody body = some b ↔
      b.first < 65536 ∧ ∃ bytes items, dataIs b.table b.count items b.data ∧ carries bytes items ∧ 4 + bytes.length ≤ 240 ∧
        body = [TableId.code b.table, BitVec.ofNat 8 (b.first / 256), BitVec.ofNat 8 b.first, BitVec.ofNat 8 b.count] ++
          bytes := by
  rw [readWriteBody_eq_some]
  constructor
  · rintro ⟨bytes, hfirst, hcount, hfits, hdata, hbody⟩
    obtain ⟨items, hitems, hcarries⟩ := (getEntries_iff hin).1 hdata
    exact ⟨hfirst, bytes, items, hitems, hcarries, by rw [getEntries_length hdata]; exact hfits, hbody⟩
  · rintro ⟨hfirst, bytes, items, hitems, hcarries, hfits, hbody⟩
    have hdata := (getEntries_iff hin).2 ⟨items, hitems, hcarries⟩
    rw [getEntries_length hdata] at hfits
    have hwidth := Nat.mul_le_mul_left b.count (entryWidth_pos b.table)
    exact ⟨bytes, hfirst, by omega, hfits, hdata, hbody⟩

/-! ### Requests that are not read (R174) -/

theorem State.exec_badBody {α : Type} {s : State} {r : MgmtTel} {rest : List MgmtTel} (h : s.turnOf r rest) {c : Instr}
    {takes : MgmtTel → Bool} {read : List Byte → Option α} {judge : State → MgmtTel → α → State}
    (hc : exec c s = .next (s.handle takes (fun s r => s.withBody r read judge)).settled) (ht : takes r = true)
    (hread : read r.body = none) : exec c s = .next (s.rejectedWith r rest .badBody) := by
  rw [hc, State.handle_turn h _ ht, State.withBody_none _ hread, State.reject_none, State.rejectedWith_settled h]

theorem State.exec_notEmpty {s : State} {r : MgmtTel} {rest : List MgmtTel} (h : s.turnOf r rest) {c : Instr} {n : Nat}
    {judge : State → MgmtTel → State}
    (hc : exec c s = .next (s.handle (hasCode n) (fun s r => s.withEmptyBody r judge)).settled) (hcode : r.code.toNat = n)
    (hbody : r.body ≠ []) : exec c s = .next (s.rejectedWith r rest .badBody) := by
  rw [hc, State.handle_turn h _ (hasCode_of hcode), State.withEmptyBody_bytes _ hbody, State.reject_none,
    State.rejectedWith_settled h]

theorem isCampaign_unread {t : CampaignTarget} {r : MgmtTel} (hcode : r.code.toNat = 7) (hread : readCampaignBody r.body = none) :
    isCampaign t r = true := by
  rw [isCampaign, hasCode_of hcode, hread]
  rfl

/-- Settles O21. -/
theorem unreadableRequestsAreRejected : Obligations.UnreadableRequestsAreRejected := by
  unfold Obligations.UnreadableRequestsAreRejected
  refine ⟨fun s r rest hturn => ⟨fun hcode => ?_, fun x hx hcode hbody => ?_, fun hcode hread => ?_, fun hcode hread => ?_,
    fun hcode hread => ?_, fun c hc hcode hread => ?_, fun hcode hread => ?_, fun hcode hread => ?_, fun hcode hread => ?_⟩,
    readReadBody_iff, readPhaseBody_iff, readCampaignBody_iff, readImageBody_iff, readMarksBody_iff, readNoticesBody_eq_none,
    fun t h l c bytes hbad => readWriteBody_unread hbad, fun body hbody => readWriteBody_short hbody,
    fun t => by cases t <;> rfl⟩
  · have hunknown : isUnknownRequest r = true := by
      rw [isUnknownRequest, Bool.or_eq_true, beq_iff_eq, decide_eq_true_eq]
      exact hcode
    change Host.Outcome.next (State.settled _) = _
    rw [State.handle_turn hturn _ hunknown, State.rejectUnknown, State.reject_none, State.rejectedWith_settled hturn]
  · simp only [List.mem_cons, List.not_mem_nil, or_false] at hx
    rcases hx with rfl | rfl | rfl | rfl | rfl
    · exact State.exec_notEmpty hturn (by rfl) hcode hbody
    · exact State.exec_notEmpty hturn (by rfl) hcode hbody
    · exact State.exec_notEmpty hturn (by rfl) hcode hbody
    · exact State.exec_notEmpty hturn (by rfl) hcode hbody
    · exact State.exec_notEmpty hturn (by rfl) hcode hbody
  · exact State.exec_badBody hturn (by rfl) (hasCode_of hcode) hread
  · exact State.exec_badBody hturn (by rfl) (hasCode_of hcode) hread
  · exact State.exec_badBody hturn (by rfl) (hasCode_of hcode) hread
  · simp only [List.mem_cons, List.not_mem_nil, or_false] at hc
    rcases hc with rfl | rfl | rfl
    · exact State.exec_badBody hturn (by rfl) (isCampaign_unread hcode hread) hread
    · exact State.exec_badBody hturn (by rfl) (isCampaign_unread hcode hread) hread
    · exact State.exec_badBody hturn (by rfl) (isCampaign_unread hcode hread) hread
  · exact State.exec_badBody hturn (by rfl) (hasCode_of hcode) hread
  · exact State.exec_badBody hturn (by rfl) (hasCode_of hcode) hread
  · exact State.exec_badBody hturn (by rfl) (hasCode_of hcode) hread

/-! ### WRITE_TABLE (R166) -/

theorem State.setBank_setRequests (s : State) (rest : List MgmtTel) (i : BankId) (b : Bank) :
    (s.setRequests rest).setBank i b = (s.setBank i b).setRequests rest := by cases i <;> rfl

theorem State.setBank_agenda (s : State) (i : BankId) (b : Bank) : (s.setBank i b).agenda = s.agenda := by cases i <;> rfl

/-- A standby bank written to, with the answer to the request that wrote it. -/
theorem State.standbyWritten_accept {s : State} {r : MgmtTel} {rest : List MgmtTel} (h : s.turnOf r rest) (b : Bank) :
    ((((s.setRequests rest).setBank s.standby b).setStandbyWritten true).accept r []).settled =
      { (s.setBank s.standby b).answered r rest 0 [] with standbyWritten := true } := by
  rw [State.setBank_setRequests]
  have hagenda : (s.setBank s.standby b).agenda = [] := (State.setBank_agenda s _ b).trans (State.turnOf_quiet h)
  have hanswer := State.accept_nil ((s.setBank s.standby b).setStandbyWritten true) r rest
  exact (congrArg State.settled hanswer).trans (State.settled_of_quiet _ hagenda)

theorem State.exec_writeTable {s : State} {r : MgmtTel} {rest : List MgmtTel} (h : s.turnOf r rest) (hcode : r.code.toNat = 1)
    {b : WriteBody} (hread : readWriteBody r.body = some b) :
    exec .writeTable s = .next ((s.setRequests rest).judgeWrite r b).settled := by
  change Host.Outcome.next (State.settled _) = _
  rw [State.handle_turn h _ (hasCode_of hcode), State.withBody_some _ hread]

theorem judgeWrite_outcome {s : State} {r : MgmtTel} {rest : List MgmtTel} {b : WriteBody} (hturn : s.turnOf r rest) :
    (b.count = 0 ∨ 16 < b.count ∨ tableSize b.table < b.first + b.count →
      ((s.setRequests rest).judgeWrite r b).settled = s.rejectedWith r rest .range) ∧
    (1 ≤ b.count → b.count ≤ 16 → b.first + b.count ≤ tableSize b.table →
      (∀ k, b.data.firstBad = some k → ((s.setRequests rest).judgeWrite r b).settled =
        s.answered r rest 1 (rejectedEntry .field ⟨b.table, b.first + k⟩)) ∧
      (b.data.firstBad = none → ((s.setRequests rest).judgeWrite r b).settled =
        { (s.setBank s.standby ((s.bank s.standby).store b.first b.data)).answered r rest 0 [] with
          standbyWritten := true })) := by
  rw [State.judgeWrite]
  refine ⟨fun hout => ?_, fun hlow hhigh hlast => ?_⟩
  · rw [if_neg (runInTable_outside hout), State.reject_none, State.rejectedWith_settled hturn]
  · rw [if_pos (runInTable_iff.2 ⟨hlow, hhigh, hlast⟩)]
    refine ⟨fun k hbad => ?_, fun hgood => ?_⟩
    · rw [hbad]
      have hquiet := State.turnOf_quiet hturn
      exact (congrArg State.settled (State.reject_some s r rest _ _)).trans (State.settled_of_quiet _ hquiet)
    · rw [hgood]
      exact State.standbyWritten_accept hturn _

theorem Bank.store_other (k : Bank) (first : Nat) (d : TableData) :
    ∃ w p c e f g, k.store first d = ⟨w, p, c, e, f, g⟩ ∧
      ((∃ l, d = .windows l) ∨ w = k.windows) ∧ ((∃ l, d = .points l) ∨ p = k.points) ∧
      ((∃ l, d = .sections l) ∨ c = k.sections) ∧ ((∃ l, d = .sets l) ∨ e = k.sets) ∧
      ((∃ l, d = .rows l) ∨ f = k.rows) ∧ ((∃ l, d = .budget l) ∨ g = k.budget) := by
  refine ⟨_, _, _, _, _, _, rfl, ?_⟩
  cases d with
  | windows l => exact ⟨.inl ⟨l, rfl⟩, .inr rfl, .inr rfl, .inr rfl, .inr rfl, .inr rfl⟩
  | points l => exact ⟨.inr rfl, .inl ⟨l, rfl⟩, .inr rfl, .inr rfl, .inr rfl, .inr rfl⟩
  | sections l => exact ⟨.inr rfl, .inr rfl, .inl ⟨l, rfl⟩, .inr rfl, .inr rfl, .inr rfl⟩
  | sets l => exact ⟨.inr rfl, .inr rfl, .inr rfl, .inl ⟨l, rfl⟩, .inr rfl, .inr rfl⟩
  | rows l => exact ⟨.inr rfl, .inr rfl, .inr rfl, .inr rfl, .inl ⟨l, rfl⟩, .inr rfl⟩
  | budget l =>
    cases l with
    | nil => exact ⟨.inr rfl, .inr rfl, .inr rfl, .inr rfl, .inr rfl, .inl ⟨[], rfl⟩⟩
    | cons x l => exact ⟨.inr rfl, .inr rfl, .inr rfl, .inr rfl, .inr rfl, .inl ⟨x :: l, rfl⟩⟩

/-- Settles O22. -/
theorem writeTableStoresInTheStandbyBank : Obligations.WriteTableStoresInTheStandbyBank := by
  unfold Obligations.WriteTableStoresInTheStandbyBank
  refine ⟨fun s r rest b hturn hcode hread => ?_, firstOut_findIdx Window.inRange_iff, firstOut_findIdx PointStatic.inRange_iff,
    firstOut_findIdx SectionRec.inRange_iff, firstOut_findIdx ConditionSet.inRange_iff, firstOut_findIdx ScreenRow.inRange_iff,
    firstOut_findIdx BudgetRec.inRange_iff, fun t => by cases t <;> rfl, fun body b hin => readWriteBody_iff hin,
    fun k first => ⟨fun l j => writeRun_read _ _ _ _ _, fun l j => writeRun_read _ _ _ _ _, fun l j => writeRun_read _ _ _ _ _,
      fun l j => writeRun_read _ _ _ _ _, fun l j => writeRun_read _ _ _ _ _, fun x l => rfl, Bank.store_other k first⟩⟩
  obtain ⟨hrange, hstored⟩ := judgeWrite_outcome (b := b) hturn
  rw [State.exec_writeTable hturn hcode hread]
  refine ⟨fun hout => congrArg _ (hrange hout), fun hlow hhigh hlast => ?_⟩
  obtain ⟨hfield, hgood⟩ := hstored hlow hhigh hlast
  exact ⟨fun k hk => congrArg _ (hfield k hk), fun hin => congrArg _ (hgood hin)⟩

end Sys2Proof.Machine
end

section

/-! PROOF. PHASE and CAMPAIGN requests. -/

namespace Sys2Proof.Machine

/-! ### The waiting requests beside a change -/

theorem State.offerNotice_setRequests (s : State) (l : List MgmtTel) (k : NoticeKind) (n p : Option Nat) (c : Cause) :
    (s.setRequests l).offerNotice k n p c = (s.offerNotice k n p c).setRequests l := by
  have hsame : (s.setRequests l).noticeMask = s.noticeMask ∧ (s.setRequests l).upQueue = s.upQueue ∧
      (s.setRequests l).debt = s.debt := ⟨rfl, rfl, rfl⟩
  obtain ⟨hmask, hqueue, hdebt⟩ := hsame
  unfold State.offerNotice
  rw [hmask, hqueue, hdebt]
  split_ifs <;> rfl

theorem State.phaseEntered_setRequests (s : State) (l : List MgmtTel) (n : Nat) (t : Phase) :
    (s.setRequests l).phaseEntered n t = (s.phaseEntered n t).setRequests l :=
  State.offerNotice_setRequests (s.setSect n (s.inPhase n t none)) l _ _ _ _

theorem State.permitOutOf_setRequests (s : State) (l : List MgmtTel) (n : Nat) :
    (s.setRequests l).permitOutOf n = (s.permitOutOf n).setRequests l := by
  have hsame : (s.setRequests l).definedRec n = s.definedRec n ∧ (s.setRequests l).mode = s.mode ∧
      (s.setRequests l).phaseOf n = s.phaseOf n := ⟨rfl, rfl, rfl⟩
  obtain ⟨hrec, hmode, hphase⟩ := hsame
  cases hc : s.definedRec n with
  | none => simp only [State.permitOutOf, hrec, hc]
  | some c =>
    cases hout : c.permitOut with
    | none => rw [State.permitOutOf_none (hrec.trans hc) hout, State.permitOutOf_none hc hout]
    | some k =>
      simp only [State.permitOutOf, hrec, hmode, hphase, hc, hout]
      rfl

/-- A phase change reads and changes nothing of the waiting requests. -/
theorem State.changePhase_setRequests {s : State} (hgood : ∀ e, s.activeBank.entryGood e = true) (l : List MgmtTel) (n : Nat)
    (t : Phase) : (s.setRequests l).changePhase n t none = (s.changePhase n t none).setRequests l := by
  rw [State.changePhase_of_good hgood, State.changePhase_of_good (s := s.setRequests l) (by exact hgood),
    State.phaseEntered_setRequests, State.permitOutOf_setRequests]
  rfl

/-! ### The checks of a PHASE request (R43) -/

/-- The code of a check that fails. -/
def PhaseCheck.failure (c : PhaseCheck) : List Rejection := if c.passes then [] else [c.code]

theorem runChecks_snd (l : List PhaseCheck) : (runChecks l).2 = (l.flatMap PhaseCheck.failure).head? := by
  induction l with
  | nil => rfl
  | cons c l ih =>
    rw [runChecks, List.flatMap_cons, PhaseCheck.failure]
    split
    · exact ih
    · rfl

theorem PhaseCheck.failure_eq {reads : List EntryRef} {passes : Bool} {code : Rejection} {P : Prop} [Decidable P]
    (h : passes = true ↔ ¬ P) : PhaseCheck.failure ⟨reads, passes, code⟩ = if P then [code] else [] := by
  by_cases hP : P
  · have hfails : passes = false := Bool.eq_false_iff.2 fun hpass => h.1 hpass hP
    rw [if_pos hP, PhaseCheck.failure, hfails]
    rfl
  · rw [if_neg hP, PhaseCheck.failure, h.2 hP]
    rfl

theorem State.sectionsGood_iff (s : State) : s.sectionsGood = true ↔ s.recordsGood := by
  have hread : ∀ n, (s.readSection n).isSome = true ↔ (s.activeBank.sectionRec n).good = true := fun n => by
    rw [State.readSection, Stored.checked]
    split <;> simp_all
  simp only [State.sectionsGood, sectionNumbers, List.all_eq_true, List.mem_range, hread, State.recordsGood]

theorem State.recordsGood_of_bank {s : State} (h : ∀ e, s.activeBank.entryGood e = true) : s.recordsGood :=
  fun n _ => h ⟨.sections, n⟩

/-- A flag that asks for nothing, or what it asks for, fails where it asks for what does not hold. -/
theorem asked_iff {q b : Bool} {P : Prop} (h : b = true ↔ ¬ P) : (!q || b) = true ↔ ¬ (q = true ∧ P) := by
  rw [Bool.or_eq_true, h, Bool.not_eq_true', not_and, ← Bool.not_eq_true]
  exact Decidable.imp_iff_not_or.symm

theorem all_finished_iff {s : State} {l : List Nat} :
    l.all (fun m => (s.phaseOf m).finished) = true ↔ ¬ ∃ m ∈ l, (s.phaseOf m).finished = false := by
  simp

theorem State.lineChecks_failures {s : State} (hgood : s.recordsGood) (n : Nat) (r : SectionRec) (q : Requirement) :
    (s.lineChecks n r q).flatMap PhaseCheck.failure =
      (if q.haltLine ∧ s.campaignHalt then [.haltLine] else []) ++
      (if q.dependents ∧ r.role = .utility ∧ ∃ m ∈ s.dependents n, (s.phaseOf m).finished = false then [.inUse] else []) ++
      (if q.needs ∧ ∃ m ∈ r.needs, s.phaseOf m ≠ .running then [.condition] else []) ++
      (if q.permit ∧ s.permitOk r = false then [.permit] else []) ++
      (if q.feeds ∧ s.feedsOpen r = false then [.condition] else []) := by
  have hline : (!q.haltLine || !s.campaignHalt) = true ↔ ¬ (q.haltLine = true ∧ s.campaignHalt = true) :=
    asked_iff (by simp)
  have huse : (!q.dependents || r.role != .utility || (s.sectionsGood && s.dependentsFinished n)) = true ↔
      ¬ (q.dependents = true ∧ r.role = .utility ∧ ∃ m ∈ s.dependents n, (s.phaseOf m).finished = false) := by
    rw [(s.sectionsGood_iff).2 hgood, Bool.true_and, Bool.or_assoc]
    refine asked_iff ?_
    rw [Bool.or_eq_true, State.dependentsFinished, all_finished_iff, bne_iff_ne, not_and]
    exact Decidable.imp_iff_not_or.symm
  have hneeds : (!q.needs || s.needsRunning r) = true ↔ ¬ (q.needs = true ∧ ∃ m ∈ r.needs, s.phaseOf m ≠ .running) :=
    asked_iff (by rw [State.needsRunning_iff]; simp)
  have hpermit : (!q.permit || s.permitOk r) = true ↔ ¬ (q.permit = true ∧ s.permitOk r = false) := asked_iff (by simp)
  have hfeeds : (!q.feeds || s.feedsOpen r) = true ↔ ¬ (q.feeds = true ∧ s.feedsOpen r = false) := asked_iff (by simp)
  simp only [State.lineChecks, List.flatMap_cons, List.flatMap_nil, PhaseCheck.failure_eq hline, PhaseCheck.failure_eq huse,
    PhaseCheck.failure_eq hneeds, PhaseCheck.failure_eq hpermit, PhaseCheck.failure_eq hfeeds, List.append_assoc,
    List.append_nil]

theorem State.setChecks_failures {s : State} (hgood : s.recordsGood) (n : Nat) (r : SectionRec) (q : Requirement) :
    (s.setChecks n r q).flatMap PhaseCheck.failure =
      (if q.deciding.any (s.staleBlocked r) then [.stale] else []) ++
      (if q.deciding.any (fun d => !s.decidingHolds r d) then [.condition] else []) ++
      (if q.drained ∧ ((s.sect n).runEmpty ≠ .confirmed ∨ ∃ m ∈ s.feeders n, (s.phaseOf m).finished = false)
        then [.condition] else []) := by
  have hdrained : (!q.drained || (s.isConfirmed n && s.sectionsGood && s.feedersFinished n)) = true ↔
      ¬ (q.drained = true ∧ ((s.sect n).runEmpty ≠ .confirmed ∨ ∃ m ∈ s.feeders n, (s.phaseOf m).finished = false)) := by
    refine asked_iff ?_
    rw [(s.sectionsGood_iff).2 hgood, Bool.and_true, Bool.and_eq_true, State.isConfirmed_iff, State.feedersFinished,
      all_finished_iff, not_or, not_not]
  have hblocked : ∀ d, (!s.staleBlocked r d) = true ↔ ¬ s.staleBlocked r d = true := fun d => by simp
  have hholds : ∀ d, s.decidingHolds r d = true ↔ ¬ (!s.decidingHolds r d) = true := fun d => by simp
  rw [State.setChecks, List.flatMap_append]
  congr 1
  · cases q.deciding with
    | none => rfl
    | some d =>
      simp only [List.flatMap_cons, List.flatMap_nil, PhaseCheck.failure_eq (hblocked d), PhaseCheck.failure_eq (hholds d),
        List.append_nil, Option.any_some]
  · simp only [List.flatMap_cons, List.flatMap_nil, PhaseCheck.failure_eq hdrained, List.append_nil]

/-- The first check that fails gives the code of the rejection. -/
theorem State.phaseChecks_snd {s : State} (hgood : s.recordsGood) (n : Nat) (r : SectionRec) (q : Requirement) :
    (s.phaseChecks n r q).2 = (phaseFailures s n r q).head? := by
  rw [State.phaseChecks, runChecks_snd, List.flatMap_append, State.lineChecks_failures hgood, State.setChecks_failures hgood,
    phaseFailures]
  simp only [List.append_assoc]

/-! ### PHASE (R43 to R45) -/

theorem State.exec_phase {s : State} {r : MgmtTel} {rest : List MgmtTel} (h : s.turnOf r rest) (hcode : r.code.toNat = 6)
    {b : Nat × Phase} (hread : readPhaseBody r.body = some b) :
    exec .phase s = .next ((s.setRequests rest).judgePhase r b).settled := by
  change Host.Outcome.next (State.settled _) = _
  rw [State.handle_turn h _ (hasCode_of hcode), State.withBody_some _ hread]

theorem State.phaseLegal_some {s : State} {n : Nat} {p : Phase} {c : SectionRec} {q : Requirement} (hn : n < 16)
    (hc : s.definedRec n = some c) (hq : ladder (s.phaseOf n) p = some q)
    (hwind : q.notWindDown = true → s.campaign ≠ .windDown) : s.phaseLegal n p = some (c, q) := by
  have hopen : (q.notWindDown && s.campaign == .windDown) = false := by
    cases hflag : q.notWindDown with
    | false => rfl
    | true => simpa using hwind hflag
  rw [State.phaseLegal, if_pos hn, hc]
  simp only [hq, hopen]
  rfl

theorem State.phaseLegal_none {s : State} {n : Nat} {p : Phase}
    (h : 16 ≤ n ∨ s.definedRec n = none ∨ ladder (s.phaseOf n) p = none ∨
      (s.phaseOf n = .draining ∧ p = .running ∧ s.campaign = .windDown)) : s.phaseLegal n p = none := by
  unfold State.phaseLegal
  by_cases hn : n < 16
  · rw [if_pos hn]
    cases hc : s.definedRec n with
    | none => rfl
    | some c =>
      rcases h with h | h | h | ⟨hphase, rfl, hmode⟩
      · omega
      · rw [hc] at h
        cases h
      · simp only [h]
      · simp only [hphase, hmode, ladder]
        rfl
  · rw [if_neg hn]

theorem State.judgePhase_illegal {s : State} {r : MgmtTel} {rest : List MgmtTel} {n : Nat} {p : Phase}
    (hmode : s.mode = .screening) (hgood : ∀ e, s.activeBank.entryGood e = true) (h : s.phaseLegal n p = none) :
    (s.setRequests rest).judgePhase r (n, p) = s.rejectedWith r rest .notLegal := by
  have hlegal : (s.setRequests rest).phaseLegal n p = none := h
  have hreads : (s.setRequests rest).checkReads [⟨.sections, n⟩] = s.setRequests rest :=
    State.checkReads_of_good _ _ fun e _ => hgood e
  rw [State.judgePhase, if_neg (by simp [hmode]), if_neg (by simp [hmode]), hlegal]
  simp only [hreads, ite_self]
  exact State.reject_none s r rest _

theorem State.judgePhase_legal {s : State} {r : MgmtTel} {rest : List MgmtTel} {n : Nat} {p : Phase} {c : SectionRec}
    {q : Requirement} (hmode : s.mode = .screening) (hgood : ∀ e, s.activeBank.entryGood e = true)
    (h : s.phaseLegal n p = some (c, q)) :
    (phaseFailures s n c q = [] → (s.setRequests rest).judgePhase r (n, p) =
      (s.changePhase n p none).answered r rest 0 []) ∧
    (∀ k l, phaseFailures s n c q = k :: l → (s.setRequests rest).judgePhase r (n, p) =
      (if k = .stale then s.setSect n { s.sect n with mark := true } else s).rejectedWith r rest k) := by
  have hlegal : (s.setRequests rest).phaseLegal n p = some (c, q) := h
  have hchecks : ((s.setRequests rest).phaseChecks n c q).2 = (phaseFailures s n c q).head? :=
    State.phaseChecks_snd (s := s.setRequests rest) (State.recordsGood_of_bank hgood) n c q
  have hreads : ∀ l, (s.setRequests rest).checkReads l = s.setRequests rest := fun l =>
    State.checkReads_of_good _ _ fun e _ => hgood e
  rw [State.judgePhase, if_neg (by simp [hmode]), if_neg (by simp [hmode]), hlegal]
  simp only [hreads, hchecks]
  refine ⟨fun hnone => ?_, fun k l hfails => ?_⟩
  · rw [hnone]
    simp only [List.head?_nil]
    rw [State.changePhase_setRequests hgood]
    exact State.accept_nil _ r rest
  · rw [hfails]
    simp only [List.head?_cons, State.rejectPhase]
    split
    · exact State.reject_none (s.setSect n { s.sect n with mark := true }) r rest k
    · exact State.reject_none s r rest k

/-- Settles O30: with the bank reading good, the checks are the failures in their order, and the change is that of R27. -/
theorem acceptedPhaseRequestMakesTheChange : Obligations.AcceptedPhaseRequestMakesTheChange := by
  unfold Obligations.AcceptedPhaseRequestMakesTheChange
  intro s r rest n p c q hturn hcode hread hmode hgood hn hc hq hwind hnone
  refine ⟨s.changePhase n p none, State.changePhase_phaseChanged hgood (by simp [hmode]) hc p, ?_⟩
  rw [State.exec_phase hturn hcode hread,
    (State.judgePhase_legal hmode hgood (State.phaseLegal_some hn hc hq hwind)).1 hnone]

/-- Settles O31. -/
theorem rejectedPhaseRequestChangesNothing : Obligations.RejectedPhaseRequestChangesNothing := by
  unfold Obligations.RejectedPhaseRequestChangesNothing
  intro s r rest n p hturn hcode hread
  rw [State.exec_phase hturn hcode hread]
  refine ⟨fun hmode => ?_, fun hmode => ?_, fun hmode hgood => ?_⟩
  · rw [State.judgePhase, if_pos (by exact hmode), State.reject_none, State.rejectedWith_settled hturn]
  · rw [State.judgePhase, if_neg (by simp [hmode]), if_pos (by exact hmode), State.reject_none,
      State.rejectedWith_settled hturn]
  · have hillegal : s.phaseLegal n p = none →
        (Host.Outcome.next ((s.setRequests rest).judgePhase r (n, p)).settled : Host.Outcome State Fault Refusal) =
          .next (s.rejectedWith r rest .notLegal) := fun h => by
      rw [State.judgePhase_illegal hmode hgood h, State.rejectedWith_settled hturn]
    refine ⟨fun h => hillegal (State.phaseLegal_none (.inl h)), fun h => hillegal (State.phaseLegal_none (.inr (.inl h))),
      fun h => hillegal (State.phaseLegal_none (.inr (.inr (.inl h)))),
      fun h1 h2 h3 => hillegal (State.phaseLegal_none (.inr (.inr (.inr ⟨h1, h2, h3⟩)))),
      fun c q k l hn hc hq hwind hfails => ?_⟩
    have hquiet := State.turnOf_quiet hturn
    rw [(State.judgePhase_legal hmode hgood (State.phaseLegal_some hn hc hq hwind)).2 k l hfails, State.settled_of_quiet]
    split <;> exact hquiet

/-! ### The completion test (R57 to R59) -/

theorem State.allIn_iff (s : State) (p : Phase) :
    s.allIn p = true ↔ ∀ n < 16, ∀ c, s.definedRec n = some c → s.phaseOf n = p := by
  simp only [State.allIn, State.definedSections, sectionNumbers, List.all_eq_true, List.mem_filter, List.mem_range,
    Option.isSome_iff_exists, beq_iff_eq]
  exact ⟨fun h n hn c hc => h n ⟨hn, c, hc⟩, fun h n ⟨hn, c, hc⟩ => h n hn c hc⟩

theorem State.completionMode_iff (s : State) (m : CampaignMode) : s.completionMode = some m ↔
    s.recordsGood ∧
      ((s.campaign = .startUp ∧ m = .inCampaign ∧ ∀ n < 16, ∀ c, s.definedRec n = some c → s.phaseOf n = .running) ∨
       (s.campaign = .windDown ∧ m = .outOfCampaign ∧ ∀ n < 16, ∀ c, s.definedRec n = some c → s.phaseOf n = .idle)) := by
  rw [← State.allIn_iff, ← State.allIn_iff, ← State.sectionsGood_iff, State.completionMode]
  cases s.campaign with
  | startUp =>
    have hmode : CampaignMode.inCampaign = m ↔ m = .inCampaign := eq_comm
    simp [hmode, and_assoc]
    exact fun _ => and_comm
  | windDown =>
    have hmode : CampaignMode.outOfCampaign = m ↔ m = .outOfCampaign := eq_comm
    simp [hmode, and_assoc]
    exact fun _ => and_comm
  | outOfCampaign => simp
  | inCampaign => simp

theorem State.completionReads_eq (s : State) :
    s.completionReads = if s.campaign = .startUp ∨ s.campaign = .windDown then sectionRefs else [] := rfl

theorem State.completionReads_good {s : State} (h : s.recordsGood) :
    ∀ e ∈ s.completionReads, s.activeBank.entryGood e = true := by
  intro e he
  rw [State.completionReads_eq] at he
  split at he
  · obtain ⟨n, hn, rfl⟩ := List.mem_map.1 he
    exact h n (List.mem_range.1 hn)
  · cases he

theorem State.testCompletion_none {s : State} (hreads : s.checkReads s.completionReads = s) (h : s.completionMode = none) :
    s.testCompletion = s := by
  simp only [State.testCompletion, hreads, h]

theorem State.testCompletion_some {s : State} {m : CampaignMode} (h : s.completionMode = some m) :
    s.testCompletion = s.changeCampaign m := by
  have hgood := ((s.completionMode_iff m).1 h).1
  simp only [State.testCompletion, State.checkReads_of_good s _ (State.completionReads_good hgood), h]

theorem State.changeCampaign_eq (s : State) (m : CampaignMode) : s.changeCampaign m =
    { ({ s with campaign := m } : State).offerNotice .campaignMode none none (.campaign m) with
      agenda := s.agenda ++ ((List.range 16).map Task.reexamine ++
        if m = .startUp ∨ m = .windDown then [.completion] else []) } := by
  have hagenda : (({ s with campaign := m } : State).offerNotice .campaignMode none none (.campaign m)).agenda = s.agenda :=
    State.offerNotice_agenda ..
  rw [State.changeCampaign, State.addTasks, hagenda]
  rfl

theorem State.changeCampaign_completes {s : State} {m n : CampaignMode} (h : s.completionMode = some m)
    (hn : n = m) : s.changeCampaign n =
    { ({ s with campaign := m } : State).offerNotice .campaignMode none none (.campaign m) with
      agenda := s.agenda ++ (List.range 16).map Task.reexamine } := by
  subst hn
  have hend : ¬ (n = .startUp ∨ n = .windDown) := by
    rcases ((s.completionMode_iff n).1 h).2 with ⟨_, rfl, _⟩ | ⟨_, rfl, _⟩ <;> decide
  rw [State.changeCampaign_eq, if_neg hend, List.append_nil]

theorem State.testCompletion_damaged {s : State} {n : Nat} (hn : n < 16)
    (hcampaign : s.campaign = .startUp ∨ s.campaign = .windDown) (hbad : (s.activeBank.sectionRec n).good = false)
    (hbefore : ∀ m < n, (s.activeBank.sectionRec m).good = true) : s.testCompletion = s.activeFault ⟨.sections, n⟩ := by
  have hfind : s.completionReads.find? (fun e => !s.activeBank.entryGood e) = some ⟨.sections, n⟩ := by
    have hrefs : entryRun .sections 0 16 = sectionRefs := List.map_congr_left fun i _ => by rw [Nat.zero_add]
    have hrun : (entryRun .sections 0 16).find? (fun e => !s.activeBank.entryGood e) = some ⟨.sections, 0 + n⟩ :=
      entryRun_find_some hn (fun j hj => by rw [Nat.zero_add]; exact congrArg not (hbefore j hj))
        (by rw [Nat.zero_add]; exact congrArg not hbad)
    rw [State.completionReads_eq, if_pos hcampaign, ← hrefs, hrun, Nat.zero_add]
  have hnone : (s.activeFault ⟨.sections, n⟩).completionMode = none := by
    rw [Option.eq_none_iff_forall_ne_some]
    intro m hm
    have hgood := ((State.completionMode_iff _ m).1 hm).1 n hn
    rw [State.activeBank_of_steady (s := s) (by simp), hbad] at hgood
    cases hgood
  have hreads : s.checkReads s.completionReads = s.activeFault ⟨.sections, n⟩ := by
    rw [State.checkReads, hfind]
  simp only [State.testCompletion, hreads, hnone]

/-! ### A campaign that completes as it begins -/

/-- A re-examination of a section for which no transition is eligible is inert, where the section records read good. -/
theorem State.reexamine_inert {s : State} (hgood : s.recordsGood)
    (hnone : ∀ n < 16, ∀ c, s.definedRec n = some c → eligibleTarget s.campaign (s.phaseOf n) = none) :
    ∀ t ∈ (List.range 16).map Task.reexamine, s.isInert t = true := by
  intro t ht
  obtain ⟨n, hn, rfl⟩ := List.mem_map.1 ht
  have hn := List.mem_range.1 hn
  have hrecord : s.activeBank.entryGood ⟨.sections, n⟩ = true := hgood n hn
  have hmove : s.autoMove n = none ∧ s.reexamineReads n = [⟨.sections, n⟩] := by
    cases hc : s.definedRec n with
    | none => exact ⟨s.autoMove_eq_none n (.inr (.inl hc)), by simp only [State.reexamineReads, hc]⟩
    | some c =>
      have htarget := hnone n hn c hc
      refine ⟨?_, by simp only [State.reexamineReads, hc, htarget]⟩
      simp only [State.autoMove, hc, htarget]
      split <;> rfl
  simp only [State.isInert, hmove.1, hmove.2, List.all_cons, List.all_nil, hrecord, Option.isNone_none, Bool.and_true,
    Bool.or_true]

/-- An event with one task that would change something takes that task. -/
theorem State.settled_single {s : State} {t : Task} (h : s.liveTasks = [t]) :
    s.settled = settle (Config.settleBound - 1) ((s.setAgenda []).runTask t) := by
  have hoptions : s.options = [t] := by
    rw [State.options, h]
    have hcandidates : candidates [t] = [t] := by
      unfold candidates
      cases t with
      | halt n c => cases c <;> simp [Task.isExternal, Task.isUrgent, Task.isHalt, Task.waitsForHalts, Task.waitsForOwnHalt]
      | haltFirst n c =>
        simp [Task.isExternal, Task.isUrgent, Task.isHalt]
      | reexamine n => simp [Task.isExternal, Task.isUrgent, Task.isHalt]
      | tripActions n => simp [Task.isExternal, Task.isUrgent, Task.isHalt]
      | completion => simp [Task.isExternal, Task.isUrgent, Task.isHalt]
      | scan => simp [Task.isExternal, Task.isUrgent, Task.isHalt]
    rw [hcandidates]
    rfl
  have hbound : Config.settleBound = Config.settleBound - 1 + 1 := by decide
  rw [State.settled, hbound, settle, hoptions]
  simp only [Nat.add_sub_cancel]
  refine congrArg (settle (Config.settleBound - 1)) ?_
  rw [h, List.erase_cons_head]
  rfl

/-- The state of a campaign that has just begun and whose test succeeds ends in the mode the test gives. -/
theorem State.settled_completes {s : State} {m : CampaignMode}
    (hagenda : s.agenda = (List.range 16).map Task.reexamine ++ [.completion]) (hm : s.completionMode = some m)
    (hbefore : ∀ n < 16, ∀ c, s.definedRec n = some c → eligibleTarget s.campaign (s.phaseOf n) = none)
    (hafter : ∀ n < 16, ∀ c, s.definedRec n = some c → eligibleTarget m (s.phaseOf n) = none) :
    s.settled = { s.offerNotice .campaignMode none none (.campaign m) with campaign := m, agenda := [] } := by
  have hgood := ((s.completionMode_iff m).1 hm).1
  have hlive : s.liveTasks = [.completion] := by
    have hinert := State.reexamine_inert hgood hbefore
    have hcompletion : s.isInert .completion = false := by rw [State.isInert, hm]; rfl
    rw [State.liveTasks, hagenda, List.filter_append, List.filter_eq_nil_iff.2 fun t ht => by simp [hinert t ht]]
    simp [hcompletion]
  have hrun : (s.setAgenda []).testCompletion =
      { ({ s with campaign := m, agenda := [] } : State).offerNotice .campaignMode none none (.campaign m) with
        agenda := (List.range 16).map Task.reexamine } := by
    have hm' : (s.setAgenda []).completionMode = some m := hm
    rw [State.testCompletion_some hm', State.changeCampaign_completes hm' rfl]
    rfl
  rw [State.settled_single hlive]
  show settle _ (s.setAgenda []).testCompletion = _
  rw [hrun]
  have hcommute : ({ s with campaign := m, agenda := [] } : State).offerNotice .campaignMode none none (.campaign m) =
      { s.offerNotice .campaignMode none none (.campaign m) with campaign := m, agenda := [] } := by
    have hsame : ({ s with campaign := m, agenda := [] } : State).noticeMask = s.noticeMask ∧
        ({ s with campaign := m, agenda := [] } : State).upQueue = s.upQueue ∧
        ({ s with campaign := m, agenda := [] } : State).debt = s.debt := ⟨rfl, rfl, rfl⟩
    obtain ⟨hmask, hqueue, hdebt⟩ := hsame
    unfold State.offerNotice
    rw [hmask, hqueue, hdebt]
    split_ifs <;> rfl
  obtain ⟨q, b, hoffered⟩ : ∃ q b, s.offerNotice .campaignMode none none (.campaign m) =
      { s with upQueue := q, noticeLost := b } := ⟨_, _, State.offerNotice_frame s _ _ _ _⟩
  rw [hcommute, hoffered, settle_of_no_live]
  · rfl
  · refine List.filter_eq_nil_iff.2 fun t ht => ?_
    have hinert := State.reexamine_inert (s := { s with
      upQueue := q, noticeLost := b, campaign := m, agenda := (List.range 16).map Task.reexamine }) hgood hafter t ht
    simpa using hinert
  · decide

/-- A campaign mode just begun whose test succeeds gives way to the mode of the test. -/
theorem State.begun_completes {s : State} {m : CampaignMode} (hquiet : s.agenda = []) (hm : s.completionMode = some m)
    (hbefore : ∀ n < 16, ∀ c, s.definedRec n = some c → eligibleTarget s.campaign (s.phaseOf n) = none)
    (hafter : ∀ n < 16, ∀ c, s.definedRec n = some c → eligibleTarget m (s.phaseOf n) = none) :
    (s.setAgenda ((List.range 16).map Task.reexamine ++ [.completion])).settled =
      { s.offerNotice .campaignMode none none (.campaign m) with campaign := m } := by
  rw [State.settled_completes (s := s.setAgenda _) rfl (by exact hm) (by exact hbefore) (by exact hafter),
    State.offerNotice_setAgenda]
  have hagenda : (s.offerNotice .campaignMode none none (.campaign m)).agenda = [] :=
    (State.offerNotice_agenda ..).trans hquiet
  generalize s.offerNotice .campaignMode none none (.campaign m) = u at hagenda
  rw [← hagenda]
  rfl

/-! ### CAMPAIGN (R48 to R51) -/

theorem isCampaign_target {t : CampaignTarget} {r : MgmtTel} {m : CampaignMode} (hcode : r.code.toNat = 7)
    (hread : readCampaignBody r.body = some m) (hm : CampaignTarget.ofMode m = some t ∨ CampaignTarget.ofMode m = none) :
    isCampaign t r = true := by
  rw [isCampaign, hasCode_of hcode, hread]
  rcases hm with hm | hm <;> simp [hm]

/-- The command of a campaign target judges the request. -/
theorem State.exec_campaign {s : State} {r : MgmtTel} {rest : List MgmtTel} (h : s.turnOf r rest) (hcode : r.code.toNat = 7)
    {m : CampaignMode} (hread : readCampaignBody r.body = some m) {c : Instr} {t : CampaignTarget}
    (hc : exec c s = .next (s.handle (isCampaign t) (fun s r => s.withBody r readCampaignBody State.judgeCampaign)).settled)
    (hm : CampaignTarget.ofMode m = some t ∨ CampaignTarget.ofMode m = none) :
    exec c s = .next ((s.setRequests rest).judgeCampaign r m).settled := by
  rw [hc, State.handle_turn h _ (isCampaign_target hcode hread hm), State.withBody_some _ hread]

theorem State.judgeCampaign_rejected {s : State} {r : MgmtTel} {rest : List MgmtTel} (hturn : s.turnOf r rest)
    {m : CampaignMode} {t : CampaignTarget} (hm : CampaignTarget.ofMode m = some t) {c : Rejection}
    (hc : s.campaignRejection t = some c) :
    ((s.setRequests rest).judgeCampaign r m).settled = s.rejectedWith r rest c := by
  have hc' : (s.setRequests rest).campaignRejection t = some c := hc
  simp only [State.judgeCampaign, hm, State.judgeCampaignTarget, hc', State.reject_none]
  exact State.rejectedWith_settled hturn c

/-- An accepted request for another mode than the present one, before its event goes on. -/
theorem State.judgeCampaign_accepted {s : State} {r : MgmtTel} {rest : List MgmtTel} (hturn : s.turnOf r rest)
    {m : CampaignMode} {t : CampaignTarget} (hm : CampaignTarget.ofMode m = some t) (ht : t.mode = m)
    (hc : s.campaignRejection t = none) (hother : s.campaign ≠ m) :
    (s.setRequests rest).judgeCampaign r m =
      { (({ s with campaign := m } : State).offerNotice .campaignMode none none (.campaign m)).answered r rest 0 [] with
        agenda := (List.range 16).map Task.reexamine ++ if m = .startUp ∨ m = .windDown then [.completion] else [] } := by
  have hc' : (s.setRequests rest).campaignRejection t = none := hc
  have hnotice := State.offerNotice_setRequests { s with campaign := m } rest .campaignMode none none (.campaign m)
  have hquiet := State.turnOf_quiet hturn
  have hchange : (s.setRequests rest).changeCampaign m = State.setRequests
      { ({ s with campaign := m } : State).offerNotice .campaignMode none none (.campaign m) with
        agenda := (List.range 16).map Task.reexamine ++ if m = .startUp ∨ m = .windDown then [.completion] else [] } rest := by
    rw [State.changeCampaign_eq]
    have hstart : ({ s.setRequests rest with campaign := m } : State) = State.setRequests { s with campaign := m } rest := rfl
    have hagenda : (s.setRequests rest).agenda = [] := hquiet
    rw [hstart, hnotice, hagenda, List.nil_append]
    rfl
  simp only [State.judgeCampaign, hm, State.judgeCampaignTarget, hc', ht]
  rw [if_neg (by exact hother), hchange]
  exact State.accept_nil _ r rest

/-- Settles O32: the table of R48, the completion test, and the event of a campaign that completes as it begins. -/
theorem campaignRequestsFollowTheirTable : Obligations.CampaignRequestsFollowTheirTable := by
  unfold Obligations.CampaignRequestsFollowTheirTable
  refine ⟨State.completionMode_iff, fun s => ⟨fun hstart hwind => ?_, fun hgood hnone => ?_, fun m hm => ?_,
    fun n hn hcampaign hbad hbefore => State.testCompletion_damaged hn hcampaign hbad hbefore⟩,
    fun s r rest hturn hcode => ⟨fun hread => ?_, fun hread => ?_, fun hread => ?_, fun hread c hc => ?_⟩⟩
  · have hreads : s.completionReads = [] := by
      rw [State.completionReads_eq, if_neg (not_or.2 ⟨hstart, hwind⟩)]
    have hnone : s.completionMode = none := by
      rw [State.completionMode]
      cases hmode : s.campaign with
      | startUp => exact absurd hmode hstart
      | windDown => exact absurd hmode hwind
      | outOfCampaign => rfl
      | inCampaign => rfl
    exact State.testCompletion_none (State.checkReads_of_good s _ (by rw [hreads]; exact fun e he => absurd he List.not_mem_nil))
      hnone
  · exact State.testCompletion_none (State.checkReads_of_good s _ (State.completionReads_good hgood)) hnone
  · rw [State.testCompletion_some hm, State.changeCampaign_completes hm rfl]
  · rw [State.exec_campaign hturn hcode hread (c := .campaignStartUp) (t := .startUp) (by rfl) (.inl rfl)]
    have hreject : ∀ c, s.campaignRejection .startUp = some c →
        (.next ((s.setRequests rest).judgeCampaign r .startUp).settled : Host.Outcome State Fault Refusal) =
          .next (s.rejectedWith r rest c) := fun c hc => congrArg _ (State.judgeCampaign_rejected hturn rfl hc)
    have haccept : s.mode = .screening → s.campaign = .outOfCampaign → _ := fun hmode hcampaign =>
      State.judgeCampaign_accepted hturn (m := .startUp) rfl rfl (by simp [State.campaignRejection, hmode, hcampaign])
        (by simp [hcampaign])
    refine ⟨fun hmode => hreject _ ?_, fun hmode => hreject _ ?_, fun hmode hcampaign => hreject _ ?_,
      fun hmode hcampaign => ?_, fun hmode hcampaign hgood hall => ?_⟩
    · simp only [State.campaignRejection, hmode]
    · simp only [State.campaignRejection, hmode]
    · simp only [State.campaignRejection, hmode, if_neg hcampaign]
    · rw [haccept hmode hcampaign]
      rfl
    · rw [haccept hmode hcampaign]
      have hquiet := State.turnOf_quiet hturn
      obtain ⟨q, b, hoffered⟩ : ∃ q b, ({ s with campaign := .startUp } : State).offerNotice .campaignMode none none
          (.campaign .startUp) = { s with campaign := .startUp, upQueue := q, noticeLost := b } :=
        ⟨_, _, State.offerNotice_frame { s with campaign := .startUp } _ _ _ _⟩
      rw [hoffered]
      refine congrArg _ (State.begun_completes
        (s := ({ s with campaign := .startUp, upQueue := q, noticeLost := b } : State).answered r rest 0 [])
        hquiet ((State.completionMode_iff _ _).2 ⟨hgood, .inl ⟨rfl, rfl, hall⟩⟩) (fun n hn c hc => ?_) fun n hn c hc => ?_)
      · exact congrArg (eligibleTarget .startUp) (hall n hn c hc)
      · exact congrArg (eligibleTarget .inCampaign) (hall n hn c hc)
  · rw [State.exec_campaign hturn hcode hread (c := .campaignWindDown) (t := .windDown) (by rfl) (.inl rfl)]
    have haccept : s.banked → (s.campaign = .startUp ∨ s.campaign = .inCampaign) → _ := fun hmode hcampaign =>
      State.judgeCampaign_accepted hturn (m := .windDown) rfl rfl (if_pos ⟨hmode, hcampaign⟩)
        (by rcases hcampaign with h | h <;> simp [h])
    refine ⟨fun hbad => ?_, fun hmode hcampaign => ?_, fun hmode hcampaign hgood hall => ?_⟩
    · refine congrArg _ (State.judgeCampaign_rejected hturn (t := .windDown) rfl (if_neg ?_))
      rintro ⟨hmode, hcampaign⟩
      rcases hbad with h | h | h
      · exact hmode h
      · simp [h] at hcampaign
      · simp [h] at hcampaign
    · rw [haccept hmode hcampaign]
      rfl
    · rw [haccept hmode hcampaign]
      have hquiet := State.turnOf_quiet hturn
      obtain ⟨q, b, hoffered⟩ : ∃ q b, ({ s with campaign := .windDown } : State).offerNotice .campaignMode none none
          (.campaign .windDown) = { s with campaign := .windDown, upQueue := q, noticeLost := b } :=
        ⟨_, _, State.offerNotice_frame { s with campaign := .windDown } _ _ _ _⟩
      rw [hoffered]
      refine congrArg _ (State.begun_completes
        (s := ({ s with campaign := .windDown, upQueue := q, noticeLost := b } : State).answered r rest 0 [])
        hquiet ((State.completionMode_iff _ _).2 ⟨hgood, .inr ⟨rfl, rfl, hall⟩⟩) (fun n hn c hc => ?_) fun n hn c hc => ?_)
      · exact congrArg (eligibleTarget .windDown) (hall n hn c hc)
      · exact congrArg (eligibleTarget .outOfCampaign) (hall n hn c hc)
  · rw [State.exec_campaign hturn hcode hread (c := .campaignAbandon) (t := .abandon) (by rfl) (.inl rfl)]
    refine ⟨fun hcampaign => ?_, fun hcampaign => ?_⟩
    · have hanswer : (s.setRequests rest).judgeCampaign r .outOfCampaign = s.answered r rest 0 [] := by
        have hsame : (s.setRequests rest).campaign = CampaignTarget.abandon.mode := hcampaign
        simp only [State.judgeCampaign, CampaignTarget.ofMode, State.judgeCampaignTarget, State.campaignRejection]
        rw [if_pos hsame]
        exact State.accept_nil s r rest
      have hquiet := State.turnOf_quiet hturn
      exact congrArg _ ((congrArg State.settled hanswer).trans (State.settled_of_quiet _ hquiet))
    · rw [State.judgeCampaign_accepted hturn (m := .outOfCampaign) (t := .abandon) rfl rfl rfl hcampaign]
      rfl
  · have hreject : ((s.setRequests rest).judgeCampaign r .inCampaign).settled = s.rejectedWith r rest .notLegal :=
      (congrArg State.settled (State.reject_none s r rest .notLegal)).trans (State.rejectedWith_settled hturn _)
    simp only [List.mem_cons, List.not_mem_nil, or_false] at hc
    rcases hc with rfl | rfl | rfl
    · rw [State.exec_campaign hturn hcode hread (t := .startUp) (by rfl) (.inr rfl), hreject]
    · rw [State.exec_campaign hturn hcode hread (t := .windDown) (by rfl) (.inr rfl), hreject]
    · rw [State.exec_campaign hturn hcode hread (t := .abandon) (by rfl) (.inr rfl), hreject]

end Sys2Proof.Machine
end

section

/-! PROOF. The halts of an event are taken before it ends: every task it takes while a halt stands brings the sections nearer to
rest, and none but a halt moves a section that a halt has reached (R63 to R72). -/

namespace Sys2Proof.Machine

/-! ### What leaves the sections and the event as they are -/

/-- A state with the sections, the campaign mode, the event in progress and the banks of another, and SCREENING only with it. -/
structure SameCourse (s t : State) : Prop where
  sects : t.sects = s.sects
  campaign : t.campaign = s.campaign
  agenda : t.agenda = s.agenda
  steady : t.steady = s.steady
  mode : t.mode = .screening → s.mode = .screening

namespace SameCourse

theorem refl (s : State) : SameCourse s s := ⟨rfl, rfl, rfl, rfl, id⟩

theorem trans {s t u : State} (h : SameCourse s t) (h' : SameCourse t u) : SameCourse s u :=
  ⟨h'.sects.trans h.sects, h'.campaign.trans h.campaign, h'.agenda.trans h.agenda, h'.steady.trans h.steady,
    fun hmode => h.mode (h'.mode hmode)⟩

theorem phaseOf {s t : State} (h : SameCourse s t) (n : Nat) : t.phaseOf n = s.phaseOf n := by
  unfold State.phaseOf State.sect
  rw [h.sects]

theorem sect {s t : State} (h : SameCourse s t) (n : Nat) : t.sect n = s.sect n := by
  unfold State.sect
  rw [h.sects]

theorem offerNotice (s : State) (k : NoticeKind) (n p : Option Nat) (c : Cause) : SameCourse s (s.offerNotice k n p c) := by
  rw [State.offerNotice_frame]
  exact ⟨rfl, rfl, rfl, rfl, id⟩

theorem setPermitOut (s : State) (k : Nat) (b : Bool) : SameCourse s (s.setPermitOut k b) := ⟨rfl, rfl, rfl, rfl, id⟩

theorem permitOutOf (s : State) (n : Nat) : SameCourse s (s.permitOutOf n) := by
  unfold State.permitOutOf
  split
  · split
    · exact setPermitOut ..
    · exact refl s
  · exact refl s

theorem foldl {α : Type} {f : State → α → State} (hf : ∀ s x, SameCourse s (f s x)) (l : List α) (s : State) :
    SameCourse s (l.foldl f s) := by
  induction l generalizing s with
  | nil => exact refl s
  | cons x l ih => exact (hf s x).trans (ih _)

theorem emptyHeld (s : State) (r : RefusalReason) : SameCourse s (s.emptyHeld r) := by
  have hrefuse : ∀ (u : State) (h : HeldRec), SameCourse u (u.refuse h.tel r) := fun u h => by
    rw [State.refuse_eq]
    exact ⟨rfl, rfl, rfl, rfl, id⟩
  have hempty : SameCourse s (s.setHeld []) := ⟨rfl, rfl, rfl, rfl, id⟩
  exact hempty.trans (foldl hrefuse _ _)

theorem activeFault (s : State) (e : EntryRef) : SameCourse s (s.activeFault e) := by
  unfold State.activeFault
  split
  · have hfail : SameCourse s { s with mode := .failHold, fault := true } := ⟨rfl, rfl, rfl, rfl, fun h => by cases h⟩
    exact (hfail.trans (offerNotice _ _ _ _ _)).trans (emptyHeld _ _)
  · exact refl s

theorem checkReads (s : State) (l : List EntryRef) : SameCourse s (s.checkReads l) := by
  unfold State.checkReads
  split
  · exact activeFault ..
  · exact refl s

theorem issueTrip (s : State) (n : Nat) (a : TripAction) : SameCourse s (State.issueTrip n s a) := by
  unfold State.issueTrip State.tripFailed
  split
  · split_ifs
    · exact offerNotice ..
    · exact ⟨rfl, rfl, rfl, rfl, id⟩
    · exact offerNotice ..
  · exact offerNotice ..
  · exact (offerNotice ..).trans (activeFault ..)

theorem issueTrips (s : State) (n : Nat) : SameCourse s (s.issueTrips n) := by
  unfold State.issueTrips
  split
  · exact foldl (fun u a => issueTrip u n a) _ _
  · exact (offerNotice ..).trans (activeFault ..)

end SameCourse

theorem State.checkReads_mode_of_bad {s : State} {l : List EntryRef} (hmode : s.mode = .screening)
    (hbad : l.all s.activeBank.entryGood = false) : (s.checkReads l).mode ≠ .screening := by
  have hfault : ∀ e, (s.activeFault e).mode ≠ .screening := fun e => by
    unfold State.activeFault
    rw [if_pos hmode]
    intro h
    have hbefore := (SameCourse.offerNotice _ _ _ _ _).mode ((SameCourse.emptyHeld _ _).mode h)
    cases hbefore
  unfold State.checkReads
  split
  · exact hfault _
  · rename_i hnone
    have hgood : l.all s.activeBank.entryGood = true :=
      List.all_eq_true.2 fun e he => by simpa using List.find?_eq_none.1 hnone e he
    rw [hgood] at hbad
    cases hbad

/-! ### What a phase change starts -/

/-- The section a task is about is one of the 16. -/
def Task.within : Task → Prop
  | .halt n _ | .haltFirst n _ | .reexamine n | .tripActions n => n < 16
  | .completion | .scan => True

/-- The task halts section `n` with a cause. -/
def Task.haltsWith (n : Nat) (c : HaltCause) (t : Task) : Prop := t = .halt n c ∨ t = .haltFirst n c

/-- The task issues the trip actions of a section. -/
def Task.isTrips : Task → Bool
  | .tripActions _ => true
  | _ => false

theorem mem_changeTasks {s : State} {n : Nat} {p : Phase} {t : Task} (h : t ∈ s.changeTasks n p) :
    (∃ c, t = .halt n c ∧ s.entryHalt n p = some c) ∨ (∃ m < 16, t = .reexamine m) ∨ t = .completion ∨ t = .scan := by
  rw [State.changeTasks, List.append_assoc, List.mem_append, List.mem_append] at h
  rcases h with hown | hre | hlast
  · split at hown
    · rename_i c hc
      exact .inl ⟨c, List.mem_singleton.1 hown, hc⟩
    · cases hown
  · obtain ⟨m, hm, rfl⟩ := List.mem_map.1 hre
    exact .inr (.inl ⟨m, List.mem_range.1 (List.mem_filter.1 hm).1, rfl⟩)
  · simp only [List.mem_cons, List.not_mem_nil, or_false] at hlast
    exact .inr (.inr hlast)

theorem State.entryHalt_of_halted (s : State) (n : Nat) : s.entryHalt n .halted = none := by
  unfold State.entryHalt
  split
  · simp [Phase.working]
  · rfl

/-- What a phase change leaves and adds, whatever its reads meet. -/
theorem State.changePhase_course (s : State) (n : Nat) (p : Phase) (c : Option HaltCause) :
    ∃ u, SameCourse (s.setSect n (s.inPhase n p c)) u ∧ s.changePhase n p c = u.addTasks (u.changeTasks n p) :=
  ⟨_, ((SameCourse.offerNotice _ _ _ _ _).trans (SameCourse.permitOutOf _ _)).trans (SameCourse.checkReads _ _), rfl⟩

theorem State.phaseOf_setSect (s : State) (n m : Nat) (v : SectionDyn) :
    (s.setSect n v).phaseOf m = if m = n then v.phase else s.phaseOf m := by
  rw [State.phaseOf, State.sect_setSect]
  split <;> rfl

/-- What an entry to HALTED leaves and adds. -/
theorem State.takeHalt_course {s : State} {n : Nat} {c : HaltCause} (h : haltReaches c (s.phaseOf n) = true) :
    ∃ u l, SameCourse (s.setSect n (s.inPhase n .halted (some c))) u ∧ s.takeHalt n c = u.setAgenda (s.agenda ++ l) ∧
      l.countP Task.isTrips = 1 ∧
      ∀ t ∈ l, t = .tripActions n ∨ (∃ m < 16, t = .halt m .needLost ∨ t = .halt m .feedStop ∨ t = .reexamine m) ∨
        t = .completion ∨ t = .scan := by
  obtain ⟨u, hu, heq⟩ := s.changePhase_course n .halted (some c)
  have hchange : ∀ t ∈ u.changeTasks n .halted, (∃ m < 16, t = .reexamine m) ∨ t = .completion ∨ t = .scan := fun t ht => by
    rcases mem_changeTasks ht with ⟨d, _, hd⟩ | hre | hlast
    · rw [State.entryHalt_of_halted] at hd
      cases hd
    · exact .inl hre
    · exact .inr hlast
  have hcascade : ∀ (v : State), ∀ t ∈ v.haltTasks n, ∃ m < 16, t = .halt m .needLost ∨ t = .halt m .feedStop :=
      fun v t ht => by
    rw [State.haltTasks, List.mem_append] at ht
    rcases ht with ht | ht
    · split at ht
      · split at ht
        · obtain ⟨m, hm, rfl⟩ := List.mem_map.1 ht
          exact ⟨m, ((State.mem_dependents _ _ _).1 hm).1, .inl rfl⟩
        · cases ht
      · cases ht
    · obtain ⟨m, hm, rfl⟩ := List.mem_map.1 ht
      exact ⟨m, ((State.mem_feeders _ _ _).1 (List.mem_filter.1 hm).1).1, .inr rfl⟩
  refine ⟨u, u.changeTasks n .halted ++ .tripActions n :: (u.addTasks (u.changeTasks n .halted)).haltTasks n, hu, ?_, ?_,
    fun t ht => ?_⟩
  · have hagenda : u.agenda = s.agenda := hu.agenda
    rw [State.takeHalt, if_pos h, State.enterHalted, heq]
    simp only [State.addTasks, State.setAgenda, hagenda, List.append_assoc]
  · have hnone : (u.changeTasks n .halted).countP Task.isTrips = 0 := List.countP_eq_zero.2 fun t ht => by
      rcases hchange t ht with ⟨m, _, rfl⟩ | rfl | rfl <;> exact fun h => (by cases h)
    have hnone' : ((u.addTasks (u.changeTasks n .halted)).haltTasks n).countP Task.isTrips = 0 :=
      List.countP_eq_zero.2 fun t ht => by
        obtain ⟨m, _, rfl | rfl⟩ := hcascade _ t ht <;> exact fun h => (by cases h)
    rw [List.countP_append, hnone, List.countP_cons_of_pos rfl, hnone']
  · rcases List.mem_append.1 ht with ht | ht
    · rcases hchange t ht with ⟨m, hm, rfl⟩ | hlast
      · exact .inr (.inl ⟨m, hm, .inr (.inr rfl)⟩)
      · exact .inr (.inr hlast)
    · rcases List.mem_cons.1 ht with rfl | ht
      · exact .inl rfl
      · obtain ⟨m, hm, rfl | rfl⟩ := hcascade _ t ht
        · exact .inr (.inl ⟨m, hm, .inl rfl⟩)
        · exact .inr (.inl ⟨m, hm, .inr (.inl rfl)⟩)

/-! ### How far an event can still go -/

/-- How many phases a section can still pass through in a campaign mode, its halt included. -/
def phaseRank : CampaignMode → Phase → Nat
  | _, .halted => 0
  | .windDown, .running => 4
  | .windDown, .draining => 3
  | .windDown, .flushed => 2
  | .startUp, .idle => 4
  | .startUp, .warming => 3
  | .startUp, .ready => 2
  | _, .draining => 2
  | _, _ => 1

theorem phaseRank_le (m : CampaignMode) (p : Phase) : phaseRank m p ≤ 4 := by cases m <;> cases p <;> decide

theorem phaseRank_pos (m : CampaignMode) {p : Phase} (h : p ≠ .halted) : phaseRank m .halted < phaseRank m p := by
  cases m <;> cases p <;> first | exact absurd rfl h | decide

theorem phaseRank_eligible {m : CampaignMode} {p t : Phase} (h : eligibleTarget m p = some t) : phaseRank m t < phaseRank m p := by
  have htable : ∀ e ∈ eligibleTable, phaseRank e.1 e.2.2 < phaseRank e.1 e.2.1 := by decide
  exact htable _ ((eligibleTarget_eq_some_iff m p t).1 h)

/-- What is left of an event, but for its scans and completion tests: the phases its sections can still pass through, the trip
actions to be issued, and the fault that may still be taken. -/
def State.course (s : State) : Nat :=
  2 * (∑ n ∈ Finset.range 16, phaseRank s.campaign (s.phaseOf n)) + s.agenda.countP Task.isTrips +
    if s.mode = .screening then 1 else 0

theorem State.course_le (s : State) : s.course ≤ 129 + s.agenda.countP Task.isTrips := by
  have hsum : ∑ n ∈ Finset.range 16, phaseRank s.campaign (s.phaseOf n) ≤ 64 := by
    refine (Finset.sum_le_card_nsmul _ _ 4 fun n _ => phaseRank_le _ _).trans ?_
    simp
  unfold State.course
  split <;> omega

/-- The ranks after one section has moved to a lower one. -/
theorem State.ranks_lt {s t : State} {n : Nat} (hn : n < 16) (hcampaign : t.campaign = s.campaign)
    (hother : ∀ m ≠ n, t.phaseOf m = s.phaseOf m)
    (hlower : phaseRank s.campaign (t.phaseOf n) < phaseRank s.campaign (s.phaseOf n)) :
    ∑ m ∈ Finset.range 16, phaseRank t.campaign (t.phaseOf m) < ∑ m ∈ Finset.range 16, phaseRank s.campaign (s.phaseOf m) := by
  rw [hcampaign]
  refine Finset.sum_lt_sum (fun m _ => ?_) ⟨n, Finset.mem_range.2 hn, hlower⟩
  by_cases hm : m = n
  · exact hm ▸ hlower.le
  · rw [hother m hm]

theorem haltReaches_halted (c : HaltCause) : haltReaches c .halted = false := by cases c <;> rfl

theorem State.autoMove_eligible {s : State} {n : Nat} {t : Phase} (h : s.autoMove n = some t) :
    eligibleTarget s.campaign (s.phaseOf n) = some t := by
  have hmode := State.screening_of_autoMove h
  cases hc : s.definedRec n with
  | none =>
    rw [s.autoMove_eq_none n (.inr (.inl hc))] at h
    cases h
  | some c => exact ((State.autoMove_eq_some_iff hmode hc t).1 h).1

/-! ### One task of an event -/

theorem State.isInert_reexamine {s : State} {n : Nat} (h : s.isInert (.reexamine n) = false) :
    (∃ p, s.autoMove n = some p) ∨ (s.mode = .screening ∧ (s.reexamineReads n).all s.activeBank.entryGood = false) := by
  cases hmove : s.autoMove n with
  | some p => exact .inl ⟨p, rfl⟩
  | none =>
    simp only [State.isInert, hmove, Option.isNone_none, Bool.true_and, Bool.or_eq_false_iff, bne_eq_false_iff_eq] at h
    exact .inr h

/-- What a re-examination that changes something does: it moves the section, or takes a fault. -/
theorem State.reexamine_course {s : State} {n : Nat} (h : s.isInert (.reexamine n) = false) :
    (∃ u p, SameCourse (s.setSect n (s.inPhase n p none)) u ∧ eligibleTarget s.campaign (s.phaseOf n) = some p ∧
      s.reexamine n = u.addTasks (u.changeTasks n p)) ∨
    (SameCourse s (s.reexamine n) ∧ s.mode = .screening ∧ (s.reexamine n).mode ≠ .screening) := by
  by_cases hgood : (s.reexamineReads n).all s.activeBank.entryGood = true
  · have hreads : s.checkReads (s.reexamineReads n) = s := State.checkReads_of_good _ _ (List.all_eq_true.1 hgood)
    rcases State.isInert_reexamine h with ⟨p, hp⟩ | ⟨_, hbad⟩
    · obtain ⟨u, hu, heq⟩ := s.changePhase_course n p none
      refine .inl ⟨u, p, hu, State.autoMove_eligible hp, ?_⟩
      simp only [State.reexamine, hreads, hp, heq]
    · rw [hgood] at hbad
      cases hbad
  · have hbad := Bool.eq_false_iff.2 hgood
    have hmode : s.mode = .screening := by
      rcases State.isInert_reexamine h with ⟨p, hp⟩ | ⟨hmode, _⟩
      · exact State.screening_of_autoMove hp
      · exact hmode
    have hfail := State.checkReads_mode_of_bad hmode hbad
    have hnone : (s.checkReads (s.reexamineReads n)).autoMove n = none := State.autoMove_eq_none _ n (.inl hfail)
    have heq : s.reexamine n = s.checkReads (s.reexamineReads n) := by
      simp only [State.reexamine, hnone]
    rw [heq]
    exact .inr ⟨SameCourse.checkReads _ _, hmode, hfail⟩

theorem changeTasks_trips (s : State) (n : Nat) (p : Phase) : (s.changeTasks n p).countP Task.isTrips = 0 :=
  List.countP_eq_zero.2 fun t ht => by
    rcases mem_changeTasks ht with ⟨c, rfl, _⟩ | ⟨m, _, rfl⟩ | rfl | rfl <;> exact fun h => (by cases h)

/-- A section entering a phase that is nearer to rest. -/
theorem State.course_moved {s u : State} {n k : Nat} {v : SectionDyn} {l : List Task} (hn : n < 16)
    (hu : SameCourse (s.setSect n v) u) (hlower : phaseRank s.campaign v.phase < phaseRank s.campaign (s.phaseOf n))
    (hl : l.countP Task.isTrips = k) (hk : k ≤ 1) : (u.setAgenda (s.agenda ++ l)).course < s.course := by
  have hphase : ∀ m, (u.setAgenda (s.agenda ++ l)).phaseOf m = if m = n then v.phase else s.phaseOf m := fun m =>
    (hu.phaseOf m).trans (s.phaseOf_setSect n m v)
  have hranks := State.ranks_lt (s := s) (t := u.setAgenda (s.agenda ++ l)) hn hu.campaign
    (fun m hm => by rw [hphase, if_neg hm]) (by rw [hphase, if_pos rfl]; exact hlower)
  have hmode : (u.setAgenda (s.agenda ++ l)).mode = .screening → s.mode = .screening := hu.mode
  have htrips : (u.setAgenda (s.agenda ++ l)).agenda.countP Task.isTrips = s.agenda.countP Task.isTrips + k := by
    rw [← hl]
    exact List.countP_append
  unfold State.course
  rw [htrips]
  split
  · rw [if_pos (hmode ‹_›)]
    omega
  · split <;> omega

theorem SameCourse.course {s t : State} (h : SameCourse s t) : t.course ≤ s.course := by
  have hphase : t.phaseOf = s.phaseOf := funext h.phaseOf
  unfold State.course
  rw [h.campaign, h.agenda, hphase]
  split
  · rw [if_pos (h.mode ‹_›)]
  · omega

theorem SameCourse.course_failed {s t : State} (h : SameCourse s t) (hmode : s.mode = .screening) (hfail : t.mode ≠ .screening) :
    t.course < s.course := by
  have hphase : t.phaseOf = s.phaseOf := funext h.phaseOf
  unfold State.course
  rw [h.campaign, h.agenda, hphase, if_neg hfail, if_pos hmode]
  omega

/-- A task that is taken while halts stand brings the event nearer to its end. -/
theorem State.course_runTask {s : State} {t : Task} (hwithin : t.within) (hlive : s.isInert t = false)
    (hscan : t ≠ .scan) (hcompletion : t ≠ .completion) :
    (s.runTask t).course < s.course + if t.isTrips then 1 else 0 := by
  have hhalt : ∀ n c, n < 16 → haltReaches c (s.phaseOf n) = true → (s.takeHalt n c).course < s.course := fun n c hn hreach => by
    obtain ⟨u, l, hu, heq, htrips, _⟩ := State.takeHalt_course hreach
    rw [heq]
    refine State.course_moved hn hu (phaseRank_pos _ fun hp => ?_) htrips le_rfl
    rw [hp, haltReaches_halted] at hreach
    cases hreach
  cases t with
  | halt n c =>
    simp only [Task.isTrips, Bool.false_eq_true, if_false, Nat.add_zero, State.runTask]
    exact hhalt n c hwithin (by simpa [State.isInert] using hlive)
  | haltFirst n c =>
    simp only [Task.isTrips, Bool.false_eq_true, if_false, Nat.add_zero, State.runTask]
    exact hhalt n c hwithin (by simpa [State.isInert] using hlive)
  | reexamine n =>
    simp only [Task.isTrips, Bool.false_eq_true, if_false, Nat.add_zero, State.runTask]
    rcases State.reexamine_course hlive with ⟨u, p, hu, hp, heq⟩ | ⟨hsame, hmode, hfail⟩
    · have hmoved : s.reexamine n = u.setAgenda (s.agenda ++ u.changeTasks n p) := by
        have hagenda : u.agenda = s.agenda := hu.agenda
        rw [heq, ← hagenda]
        rfl
      rw [hmoved]
      exact State.course_moved hwithin hu (phaseRank_eligible hp) (changeTasks_trips u n p) (by omega)
    · exact hsame.course_failed hmode hfail
  | tripActions n =>
    simp only [Task.isTrips, if_true, State.runTask]
    exact Nat.lt_succ_of_le (SameCourse.issueTrips s n).course
  | completion => exact absurd rfl hcompletion
  | scan => exact absurd rfl hscan

/-! ### A halt that stands is taken -/

/-- The new tasks of a task that is taken: none issues trip actions or halts a section but as a cascade does, or as the own
trip set of the section that moves. -/
theorem State.runTask_agenda {s : State} {t : Task} (hlive : s.isInert t = false) (hscan : t ≠ .scan)
    (hcompletion : t ≠ .completion) (hwithin : t.within) :
    ∃ l, (s.runTask t).agenda = s.agenda ++ l ∧ (∀ x ∈ l, x.within) ∧
      ∀ n c, t ≠ .reexamine n → ∀ x ∈ l, x.haltsWith n c → ¬ x.isExternal ∧ (c = .needLost ∨ c = .feedStop) := by
  have hhalt : ∀ m d, m < 16 → haltReaches d (s.phaseOf m) = true → ∃ l, (s.takeHalt m d).agenda = s.agenda ++ l ∧
      (∀ x ∈ l, x.within) ∧ ∀ n c, ∀ x ∈ l, x.haltsWith n c → ¬ x.isExternal ∧ (c = .needLost ∨ c = .feedStop) :=
      fun m d hm hreach => by
    obtain ⟨u, l, _, heq, _, hl⟩ := State.takeHalt_course hreach
    refine ⟨l, by rw [heq]; rfl, fun x hx => ?_, fun n c x hx hhalts => ?_⟩
    · rcases hl x hx with rfl | ⟨j, hj, rfl | rfl | rfl⟩ | rfl | rfl
      · exact hm
      · exact hj
      · exact hj
      · exact hj
      · exact trivial
      · exact trivial
    · rcases hl x hx with rfl | ⟨j, hj, rfl | rfl | rfl⟩ | rfl | rfl
      · rcases hhalts with h | h <;> cases h
      · rcases hhalts with h | h
        · cases h
          exact ⟨fun h => (by cases h), .inl rfl⟩
        · cases h
      · rcases hhalts with h | h
        · cases h
          exact ⟨fun h => (by cases h), .inr rfl⟩
        · cases h
      · rcases hhalts with h | h <;> cases h
      · rcases hhalts with h | h <;> cases h
      · rcases hhalts with h | h <;> cases h
  have hnothing : ∀ {u : State}, u.agenda = s.agenda → ∃ l, u.agenda = s.agenda ++ l ∧ (∀ x ∈ l, x.within) ∧
      ∀ n c, t ≠ .reexamine n → ∀ x ∈ l, x.haltsWith n c → ¬ x.isExternal ∧ (c = .needLost ∨ c = .feedStop) := fun h =>
    ⟨[], by rw [h, List.append_nil], fun x hx => absurd hx List.not_mem_nil, fun n c _ x hx => absurd hx List.not_mem_nil⟩
  cases t with
  | halt m d =>
    obtain ⟨l, hl, hin, hcauses⟩ := hhalt m d hwithin (by simpa [State.isInert] using hlive)
    exact ⟨l, hl, hin, fun n c _ => hcauses n c⟩
  | haltFirst m d =>
    obtain ⟨l, hl, hin, hcauses⟩ := hhalt m d hwithin (by simpa [State.isInert] using hlive)
    exact ⟨l, hl, hin, fun n c _ => hcauses n c⟩
  | reexamine m =>
    rcases State.reexamine_course hlive with ⟨u, p, hu, hp, heq⟩ | ⟨hsame, _, _⟩
    · refine ⟨u.changeTasks m p, ?_, fun x hx => ?_, fun n c hn x hx hhalts => ?_⟩
      · show (s.reexamine m).agenda = _
        rw [heq, State.addTasks, hu.agenda]
        rfl
      · rcases mem_changeTasks hx with ⟨d, rfl, _⟩ | ⟨j, hj, rfl⟩ | rfl | rfl
        · exact hwithin
        · exact hj
        · exact trivial
        · exact trivial
      · rcases mem_changeTasks hx with ⟨d, rfl, _⟩ | ⟨j, hj, rfl⟩ | rfl | rfl
        · rcases hhalts with h | h
          · cases h
            exact absurd rfl hn
          · cases h
        · rcases hhalts with h | h <;> cases h
        · rcases hhalts with h | h <;> cases h
        · rcases hhalts with h | h <;> cases h
    · exact hnothing hsame.agenda
  | tripActions m => exact hnothing (SameCourse.issueTrips s m).agenda
  | completion => exact absurd rfl hcompletion
  | scan => exact absurd rfl hscan

/-- A section that a task neither halts nor re-examines stays as it is. -/
theorem State.runTask_sect {s : State} {t : Task} (hlive : s.isInert t = false) (hscan : t ≠ .scan)
    (hcompletion : t ≠ .completion) {n : Nat} (hre : t ≠ .reexamine n) (hhalts : ∀ c, ¬ t.haltsWith n c) :
    (s.runTask t).sect n = s.sect n := by
  have hhalt : ∀ m d, m ≠ n → haltReaches d (s.phaseOf m) = true → (s.takeHalt m d).sect n = s.sect n :=
      fun m d hm hreach => by
    obtain ⟨u, l, hu, heq, _⟩ := State.takeHalt_course hreach
    rw [heq]
    exact (hu.sect n).trans (State.sect_setSect_other _ _ hm.symm)
  cases t with
  | halt m d =>
    exact hhalt m d (fun h => hhalts d (.inl (by rw [h]))) (by simpa [State.isInert] using hlive)
  | haltFirst m d =>
    exact hhalt m d (fun h => hhalts d (.inr (by rw [h]))) (by simpa [State.isInert] using hlive)
  | reexamine m =>
    rcases State.reexamine_course hlive with ⟨u, p, hu, hp, heq⟩ | ⟨hsame, _, _⟩
    · show (s.reexamine m).sect n = _
      rw [heq]
      exact (hu.sect n).trans (State.sect_setSect_other _ _ fun h => hre (by rw [h]))
    · exact hsame.sect n
  | tripActions m => exact (SameCourse.issueTrips s m).sect n
  | completion => exact absurd rfl hcompletion
  | scan => exact absurd rfl hscan

/-- The state of section `n` in HALTED with a cause, entered at a clock value. -/
def haltedAt (clock : Clock) (c : HaltCause) : SectionDyn := ⟨.halted, clock, some c, .notCounting, false, true⟩

theorem State.inPhase_halted_eq (s : State) (n : Nat) (c : HaltCause) : s.inPhase n .halted (some c) = haltedAt s.clock c := by
  simp [State.inPhase, State.runEmptyOnEntry, haltedAt]

theorem State.runTask_halts {s : State} {t : Task} (hlive : s.isInert t = false) {n : Nat} {c : HaltCause}
    (h : t.haltsWith n c) : (s.runTask t).sect n = haltedAt s.clock c := by
  have hhalt : haltReaches c (s.phaseOf n) = true → (s.takeHalt n c).sect n = haltedAt s.clock c := fun hreach => by
    obtain ⟨u, l, hu, heq, _⟩ := State.takeHalt_course hreach
    rw [heq, ← s.inPhase_halted_eq n c]
    exact (hu.sect n).trans (State.sect_setSect_same _ _ _)
  rcases h with rfl | rfl
  · exact hhalt (by simpa [State.isInert] using hlive)
  · exact hhalt (by simpa [State.isInert] using hlive)

/-- A section in HALTED stays as it is through an event. -/
def KeepsHalted (n : Nat) (s t : State) : Prop := s.phaseOf n = .halted → t.sect n = s.sect n

theorem KeepsHalted.of_sects {n : Nat} {s t : State} (h : t.sects = s.sects) : KeepsHalted n s t := fun _ => by
  unfold State.sect
  rw [h]

theorem State.charge_sects (s : State) (c : Option BudgetClass) (k : Nat) : (s.charge c k).sects = s.sects := by
  unfold State.charge
  split <;> rfl

theorem State.admitPoint_sects (s : State) (a : Addressed) (v : Word) : (s.admitPoint a v).sects = s.sects := by
  unfold State.admitPoint
  split <;> rfl

theorem State.admitOrder_sects (s : State) (o : PointTel) (a : Addressed) (row : ScreenRow) (c : Option BudgetClass) :
    (s.admitOrder o a row c).sects = s.sects :=
  (State.admitPoint_sects (s.charge c a.static.startCost) a _).trans (State.charge_sects s c _)

theorem KeepsHalted.cascading (n : Nat) : Cascading (KeepsHalted n) where
  refl s := fun _ => rfl
  trans hst htu := fun h => by
    have hsame := hst h
    exact (htu (by rw [State.phaseOf, hsame]; exact h)).trans hsame
  agenda s l := fun _ => rfl
  draw s := fun _ => rfl
  notice s k a b c := .of_sects (State.offerNotice_sects ..)
  halt s m c hreach := fun h => State.sect_setSect_other _ _ fun heq => by
    rw [← heq, h, haltReaches_halted] at hreach
    cases hreach
  move s m t hmove := fun h => State.sect_setSect_other _ _ fun heq => by
    rw [← heq, s.autoMove_eq_none n (.inr (.inr h))] at hmove
    cases hmove
  permitOut s k b := fun _ => rfl
  fault s e := .of_sects (State.activeFault_sects s e)
  trip s m a w := fun _ => rfl
  campaign s m _ := fun _ => rfl
  scan s := by
    refine scan_respects (KeepsHalted n) (fun s _ => rfl) (fun hst htu h => ?_) (fun s o r => ?_) (fun s o a row c => ?_)
      (fun s o a _ => rfl) (fun s l _ => rfl) (fun s e => .of_sects (State.activeFault_sects s e)) s
    · have hsame := hst h
      exact (htu (by rw [State.phaseOf, hsame]; exact h)).trans hsame
    · rw [State.refuse_eq]
      exact fun _ => rfl
    · exact .of_sects (State.admitOrder_sects s o a row c)

/-- What stands of an event while a halt `t` of section `n` is to be taken: the halts of `n` that may come before it have an
allowed cause. -/
structure Awaiting (n : Nat) (C : HaltCause → Prop) (t : Task) (s : State) : Prop where
  stands : t ∈ s.agenda
  within : ∀ x ∈ s.agenda, x.within
  allowed : ∀ x ∈ s.agenda, (t.isExternal = true → x.isExternal = true) → ∀ c, x.haltsWith n c → C c

theorem Task.haltsWith_isHalt {t : Task} {n : Nat} {c : HaltCause} (h : t.haltsWith n c) : t.isHalt = true := by
  rcases h with rfl | rfl <;> rfl

theorem Task.haltsWith_halts {t : Task} {n : Nat} {c : HaltCause} (h : t.haltsWith n c) : t.halts n = true := by
  rcases h with rfl | rfl <;> simp [Task.halts]

theorem State.isInert_halt {s : State} {t : Task} {n : Nat} {c : HaltCause} (h : t.haltsWith n c) :
    s.isInert t = !haltReaches c (s.phaseOf n) := by
  rcases h with rfl | rfl <;> rfl

/-- While a halt of a section stands, some task is taken, and none that waits for it. -/
theorem candidates_of_halt {ts : List Task} {t : Task} {n : Nat} {c : HaltCause} (ht : t ∈ ts) (hhalt : t.haltsWith n c) :
    candidates ts ≠ [] ∧ ∀ x ∈ candidates ts, x ∈ ts ∧ (t.isExternal = true → x.isExternal = true) ∧ x ≠ .scan ∧
      x ≠ .completion ∧ x ≠ .reexamine n := by
  have hplain : ∀ x : Task, x.isHalt = true → x ≠ .scan ∧ x ≠ .completion ∧ x ≠ .reexamine n := fun x hx =>
    ⟨fun h => (by rw [h] at hx; cases hx), fun h => (by rw [h] at hx; cases hx), fun h => (by rw [h] at hx; cases hx)⟩
  have hexternal : ∀ x : Task, x.isExternal = true → x.isHalt = true := fun x hx => by
    unfold Task.isExternal at hx
    split at hx
    · rfl
    · cases hx
  have hany : ts.any Task.isHalt = true := List.any_eq_true.2 ⟨t, ht, Task.haltsWith_isHalt hhalt⟩
  unfold candidates
  split
  · rename_i hext
    obtain ⟨y, hy, hyext⟩ := List.any_eq_true.1 hext
    refine ⟨List.ne_nil_of_mem (List.mem_filter.2 ⟨hy, hyext⟩), fun x hx => ?_⟩
    obtain ⟨hin, hx⟩ := List.mem_filter.1 hx
    exact ⟨hin, fun _ => hx, hplain x (hexternal x hx)⟩
  · rename_i hext
    have hnot : t.isExternal = true → False := fun h => hext (List.any_eq_true.2 ⟨t, ht, h⟩)
    split
    · refine ⟨List.ne_nil_of_mem (List.mem_filter.2 ⟨ht, Task.haltsWith_isHalt hhalt⟩), fun x hx => ?_⟩
      obtain ⟨hin, hx⟩ := List.mem_filter.1 hx
      exact ⟨hin, fun h => absurd h hnot, hplain x hx⟩
    · refine ⟨List.ne_nil_of_mem (a := t) (List.mem_filter.2 ⟨ht, ?_⟩), fun x hx => ?_⟩
      · rcases hhalt with rfl | rfl <;> rfl
      · obtain ⟨hin, hx⟩ := List.mem_filter.1 hx
        refine ⟨hin, fun h => absurd h hnot, fun h => ?_, fun h => ?_, fun h => ?_⟩
        · rw [h] at hx
          cases hx
        · rw [h] at hx
          cases hx
        · have hwaits : x.waitsForOwnHalt ts = true := by
            rw [h]
            exact List.any_eq_true.2 ⟨t, ht, Task.haltsWith_halts hhalt⟩
          rw [hwaits, Bool.and_comm] at hx
          cases hx

/-- One step of an event from `s` while the halt `t` of section `n` stands: task `x` is taken, at `u`. -/
structure HaltStep (n : Nat) (t : Task) (s u : State) (x : Task) : Prop where
  clock : u.clock = s.clock
  phaseOf : u.phaseOf = s.phaseOf
  campaign : u.campaign = s.campaign
  steady : u.steady = s.steady
  agenda : ∀ y ∈ u.agenda, y ∈ s.agenda
  taken : x ∈ s.agenda
  external : t.isExternal = true → x.isExternal = true
  scan : x ≠ .scan
  completion : x ≠ .completion
  reexamine : x ≠ .reexamine n
  live : u.isInert x = false
  stands : x ≠ t → t ∈ u.agenda
  course : u.course + (if x.isTrips then 1 else 0) ≤ s.course

theorem settle_haltStep {n : Nat} {t : Task} {c : HaltCause} (hhalt : t.haltsWith n c) (fuel : Nat) {s : State}
    (hstands : t ∈ s.agenda) (hreach : haltReaches c (s.phaseOf n) = true) :
    ∃ u x, settle (fuel + 1) s = settle fuel (u.runTask x) ∧ HaltStep n t s u x := by
  have hinert : s.isInert t = false := by rw [State.isInert_halt hhalt, hreach]; rfl
  have hlive : t ∈ s.liveTasks := List.mem_filter.2 ⟨hstands, by rw [hinert]; rfl⟩
  obtain ⟨hsome, hcandidates⟩ := candidates_of_halt hlive hhalt
  have hoptions : s.options ≠ [] := by
    intro hnil
    obtain ⟨x, hx⟩ := List.exists_mem_of_ne_nil _ hsome
    have hin : x ∈ s.options := List.mem_eraseDups.2 hx
    rw [hnil] at hin
    cases hin
  have hindex : s.chooseIndex s.options.length < s.options.length := by
    have hpos := List.length_pos_iff.2 hoptions
    unfold State.chooseIndex
    split
    · exact hpos
    · exact Nat.mod_lt _ hpos
  rw [settle, List.getElem?_eq_getElem hindex]
  simp only
  have hx : s.options[s.chooseIndex s.options.length] ∈ candidates s.liveTasks :=
    List.mem_eraseDups.1 (List.getElem_mem hindex)
  generalize s.options[s.chooseIndex s.options.length] = x at hx
  obtain ⟨hxlive, hxext, hxscan, hxcompletion, hxre⟩ := hcandidates x hx
  obtain ⟨hxin, hxmoves⟩ := List.mem_filter.1 hxlive
  set u := (s.countChoice s.options.length).setAgenda (s.liveTasks.erase x) with hu
  have hself : (∀ y, u.isInert y = s.isInert y) ∧ u.clock = s.clock ∧ u.phaseOf = s.phaseOf ∧ u.campaign = s.campaign ∧
      u.mode = s.mode ∧ u.steady = s.steady ∧ u.agenda = s.liveTasks.erase x := by
    rw [hu]
    unfold State.countChoice
    split <;> exact ⟨fun y => rfl, rfl, rfl, rfl, rfl, rfl, rfl⟩
  obtain ⟨huinert, huclock, huphase, hucampaign, humode, husteady, huagenda⟩ := hself
  refine ⟨u, x, rfl, huclock, huphase, hucampaign, husteady, fun y hy => ?_, hxin, hxext, hxscan, hxcompletion, hxre, ?_,
    fun hne => ?_, ?_⟩
  · rw [huagenda] at hy
    exact (List.mem_filter.1 (List.mem_of_mem_erase hy)).1
  · rw [huinert]
    simpa using hxmoves
  · rw [huagenda]
    exact (List.mem_erase_of_ne hne.symm).2 hlive
  · have hperm := (List.perm_cons_erase hxlive).countP_eq Task.isTrips
    rw [List.countP_cons] at hperm
    have hsub : s.liveTasks.countP Task.isTrips ≤ s.agenda.countP Task.isTrips :=
      (List.filter_sublist (p := fun y => !s.isInert y) (l := s.agenda)).countP_le
    unfold State.course
    rw [huagenda, hucampaign, huphase, humode]
    omega

namespace HaltStep

variable {n : Nat} {t x : Task} {s u : State} (h : HaltStep n t s u x)
include h

theorem runTask_clock : (u.runTask x).clock = s.clock :=
  (congrArg Steady.clock (State.runTask_steady u x)).trans h.clock

theorem runTask_course (hwithin : x.within) : (u.runTask x).course < s.course := by
  have hstep := State.course_runTask hwithin h.live h.scan h.completion
  have hbefore := h.course
  omega

/-- A task that does not halt the section leaves its halt standing. -/
theorem awaiting {C : HaltCause → Prop} (hcascade : t.isExternal = false → C .needLost ∧ C .feedStop)
    {c : HaltCause} (hhalt : t.haltsWith n c) (hawait : Awaiting n C t s) (hxhalts : ∀ d, ¬ x.haltsWith n d) :
    Awaiting n C t (u.runTask x) := by
  obtain ⟨l, hl, hlin, hlcauses⟩ := State.runTask_agenda h.live h.scan h.completion (hawait.within x h.taken)
  refine ⟨?_, fun y hy => ?_, fun y hy hyext d hd => ?_⟩
  · rw [hl]
    exact List.mem_append_left _ (h.stands fun heq => hxhalts c (heq ▸ hhalt))
  · rw [hl] at hy
    rcases List.mem_append.1 hy with hy | hy
    · exact hawait.within y (h.agenda y hy)
    · exact hlin y hy
  · rw [hl] at hy
    rcases List.mem_append.1 hy with hy | hy
    · exact hawait.allowed y (h.agenda y hy) hyext d hd
    · obtain ⟨hnot, hcause⟩ := hlcauses n d h.reexamine y hy hd
      have hother : t.isExternal = false := Bool.eq_false_iff.2 fun h => hnot (hyext h)
      rcases hcause with rfl | rfl
      · exact (hcascade hother).1
      · exact (hcascade hother).2

theorem runTask_phaseOf (hxhalts : ∀ d, ¬ x.haltsWith n d) : (u.runTask x).phaseOf n = s.phaseOf n := by
  rw [State.phaseOf, State.runTask_sect h.live h.scan h.completion h.reexamine hxhalts]
  exact congrFun h.phaseOf n

end HaltStep

/-- A halt that reaches a section is taken, or another that may come before it: the section ends HALTED. -/
theorem settle_halts {n : Nat} {C : HaltCause → Prop} {t : Task} {c : HaltCause} (hhalt : t.haltsWith n c)
    (hcascade : t.isExternal = false → C .needLost ∧ C .feedStop) :
    ∀ (fuel : Nat) (s : State), s.course < fuel → Awaiting n C t s → haltReaches c (s.phaseOf n) = true →
      ∃ h, C h ∧ (settle fuel s).sect n = haltedAt s.clock h := by
  intro fuel
  induction fuel with
  | zero => exact fun s h => absurd h (Nat.not_lt_zero _)
  | succ fuel ih =>
    intro s hfuel hawait hreach
    obtain ⟨u, x, heq, hstep⟩ := settle_haltStep hhalt fuel hawait.stands hreach
    rw [heq]
    by_cases hxhalts : ∃ d, x.haltsWith n d
    · obtain ⟨d, hd⟩ := hxhalts
      have hnow := State.runTask_halts hstep.live hd
      refine ⟨d, hawait.allowed x hstep.taken hstep.external d hd, ?_⟩
      have hstays := (KeepsHalted.cascading n).settle fuel (u.runTask x) (by rw [State.phaseOf, hnow]; rfl)
      rw [hstays, hnow, hstep.clock]
    · have hxhalts : ∀ d, ¬ x.haltsWith n d := fun d hd => hxhalts ⟨d, hd⟩
      have hcourse := hstep.runTask_course (hawait.within x hstep.taken)
      obtain ⟨h, hC, hend⟩ := ih (u.runTask x) (by omega) (hstep.awaiting hcascade hhalt hawait hxhalts)
        (by rw [hstep.runTask_phaseOf hxhalts]; exact hreach)
      exact ⟨h, hC, by rw [hend, hstep.runTask_clock]⟩

/-- An event with a halt that reaches a section, and few trip actions to issue, ends with the section HALTED. -/
theorem State.settled_halts {n : Nat} {C : HaltCause → Prop} {t : Task} {c : HaltCause} (hhalt : t.haltsWith n c)
    (hcascade : t.isExternal = false → C .needLost ∧ C .feedStop) {s : State} (hawait : Awaiting n C t s)
    (hreach : haltReaches c (s.phaseOf n) = true) (htrips : s.agenda.countP Task.isTrips < 1000) :
    ∃ h, C h ∧ s.settled.sect n = haltedAt s.clock h := by
  have hcourse := s.course_le
  refine settle_halts hhalt hcascade _ s ?_ hawait hreach
  unfold Config.settleBound
  omega

end Sys2Proof.Machine
end

section

/-! PROOF. Active faults, and the discrete lines. -/

namespace Sys2Proof.Machine

/-! ### Active faults (R165, R171) -/

theorem UpItem.isNotice_eq (x : UpItem) : x.isNotice = match x.content with | .notice _ => true | _ => false := by
  obtain ⟨c, b⟩ := x
  cases c <;> rfl

theorem noticeCount_eq (q : List UpItem) :
    noticeCount q = (q.filter (fun x => match x.content with | .notice _ => true | _ => false)).length := by
  rw [noticeCount, List.filter_congr fun x _ => x.isNotice_eq]

theorem EntryRef.sect?_eq (e : EntryRef) : e.sect? = if e.table = .sections then some e.index else none := by
  obtain ⟨t, i⟩ := e
  cases t <;> rfl

theorem EntryRef.point?_eq (e : EntryRef) : e.point? = if e.table = .points then some e.index else none := by
  obtain ⟨t, i⟩ := e
  cases t <;> rfl

theorem State.activeFault_screening {s : State} (e : EntryRef) (hmode : s.mode = .screening) : s.activeFault e =
    s.held.foldl (fun u h => u.refusedWith h.tel .failHold)
      { ({ s with mode := .failHold, fault := true } : State).offerNotice .failHold
          (if e.table = .sections then some e.index else none) (if e.table = .points then some e.index else none)
          .integrity with
        held := [] } := by
  have hheld : (({ s with mode := .failHold, fault := true } : State).offerNotice .failHold
      (if e.table = .sections then some e.index else none) (if e.table = .points then some e.index else none)
      .integrity).held = s.held := by
    rw [State.offerNotice_frame]
  rw [State.activeFault, if_pos hmode, EntryRef.sect?_eq, EntryRef.point?_eq, State.emptyHeld, State.foldl_refuse_eq, hheld]
  rfl

theorem State.activeFault_other {s : State} (e : EntryRef) (hmode : s.mode ≠ .screening) : s.activeFault e = s := if_neg hmode

theorem State.checkReads_of_bad {s : State} {l l1 l2 : List EntryRef} {e : EntryRef} (hl : l = l1 ++ e :: l2)
    (hgood : ∀ x ∈ l1, s.activeBank.entryGood x = true) (hbad : s.activeBank.entryGood e = false) :
    s.checkReads l = s.activeFault e := by
  rw [State.checkReads, State.find_fault hl hgood hbad]

/-- A re-examination of a section whose record is faulty takes the fault, and moves nothing. -/
theorem State.reexamine_of_bad {s : State} {n : Nat} (hbad : s.activeBank.entryGood ⟨.sections, n⟩ = false) :
    s.reexamine n = s.activeFault ⟨.sections, n⟩ := by
  have hreads : s.checkReads (s.reexamineReads n) = s.activeFault ⟨.sections, n⟩ :=
    State.checkReads_of_bad (l1 := []) rfl (fun x hx => absurd hx List.not_mem_nil) hbad
  have hbank : (s.activeFault ⟨.sections, n⟩).activeBank = s.activeBank := State.activeBank_of_steady (by simp)
  have hrecord : (s.activeBank.sectionRec n).good = false := hbad
  have hundefined : (s.activeFault ⟨.sections, n⟩).definedRec n = none := by
    rw [State.definedRec_of_activeBank hbank, State.definedRec, State.readSection, Stored.checked, hrecord]
    rfl
  have hnone : (s.activeFault ⟨.sections, n⟩).autoMove n = none := State.autoMove_eq_none _ n (.inr (.inl hundefined))
  simp only [State.reexamine, hreads, hnone]

theorem State.refuseFault_some (s : State) (o : PointTel) (r : RefusalReason) (f : EntryRef) :
    s.refuseFault o r (some f) = (s.refusedWith o r).activeFault f := by
  rw [State.refuseFault, State.refuse_eq]
  rfl

/-- Settles O36. -/
theorem activeFaultEntersFailHold : Obligations.ActiveFaultEntersFailHold := by
  unfold Obligations.ActiveFaultEntersFailHold
  refine ⟨noticeCount_eq, fun s k n p c => ⟨fun hmask => ?_, fun hmask hfull => ?_, fun hmask hnotices hdebt => ?_⟩,
    fun s e => ⟨State.activeFault_screening e, State.activeFault_other e⟩, fun s d r i hready hbanked hfaulty => ?_,
    fun s o r f hs => ⟨fun hd => ?_, fun w st a hon hn hv => ?_⟩,
    fun s l => ⟨fun hgood => State.checkReads_of_good s l hgood, fun l1 e l2 hl hgood hbad => State.checkReads_of_bad hl hgood hbad⟩,
    fun s n hbad => State.reexamine_of_bad hbad⟩
  · exact if_pos hmask
  · rw [State.offerNotice, if_neg (not_not_intro hmask), if_pos (by exact hfull)]
    rfl
  · rw [State.offerNotice, if_neg (not_not_intro hmask),
      if_neg (by exact not_or.2 ⟨Nat.not_le.2 hnotices, Nat.not_le.2 hdebt⟩)]
    rfl
  · have hquiet : (s.activeFault ⟨.windows, i⟩).agenda = [] := (State.activeFault_agenda ..).trans hready.1.2
    have harrive : s.arriveDn d (.point .report r) = (s.activeFault ⟨.windows, i⟩).pushReport r := by
      rw [State.arriveDn_ready s d _ hready, if_neg hbanked]
      simp only [State.takeReport, hfaulty]
    exact congrArg _ ((congrArg State.settled harrive).trans (State.settled_of_quiet _ hquiet))
  · have hquiet : ((s.refusedWith o r).activeFault f).agenda = [] := (State.activeFault_agenda ..).trans hs.quiet
    have hscreen : s.screenNew o = (s.refusedWith o r).activeFault f := by
      rw [State.screenNew, hd]
      exact State.refuseFault_some s o r f
    rw [hs.exec_order, hscreen, State.settled_of_quiet _ hquiet]
  · rw [hs.exec_applied hon hn hv]
    exact congrArg _ (State.refuseFault_some s o r f)

/-! ### PERMIT-IN (R41, R66) -/

theorem State.permitSections_eq (s : State) (k : Nat) : s.permitSections k =
    (List.range 16).filter (fun n => match s.definedRec n with | some c => c.permitIn == some k | none => false) := by
  unfold State.permitSections sectionNumbers
  refine List.filter_congr fun n _ => ?_
  cases s.definedRec n <;> rfl

theorem State.mem_permitSections {s : State} {k n : Nat} :
    n ∈ s.permitSections k ↔ n < 16 ∧ ∃ c, s.definedRec n = some c ∧ c.permitIn = some k := by
  rw [State.permitSections, List.mem_filter, sectionNumbers, List.mem_range]
  refine and_congr_right fun _ => ?_
  cases s.definedRec n <;> simp

/-- Out of reset and TRANSPARENT a change of a line is taken. -/
theorem State.lines_open {s : State} (hreset : s.inReset = false) (hbanked : s.banked) :
    ¬ ((s.inReset || decide (s.mode = .transparent)) = true) := by
  rw [hreset, Bool.false_or, decide_eq_true_eq]
  exact hbanked

/-- A change of a line that is taken, before its event goes on. -/
theorem State.changePermitIn_taken {s : State} {k : Nat} {level : Bool} (hrest : s.atRest) (hk : k < 4)
    (hlevel : s.permitInLevel k ≠ level) (hbanked : s.banked) :
    ∃ u, SameCourse { s with permitIn := Store.write false s.permitIn k level } u ∧
      (s.recordsGood → u = { s with permitIn := Store.write false s.permitIn k level }) ∧
      s.changePermitIn k level = u.setAgenda (u.permitTasks k level) := by
  obtain ⟨hreset, hquiet⟩ := hrest
  refine ⟨_, SameCourse.checkReads { s with permitIn := Store.write false s.permitIn k level } sectionRefs, fun hgood => ?_, ?_⟩
  · refine State.checkReads_of_good _ _ fun e he => ?_
    obtain ⟨n, hn, rfl⟩ := List.mem_map.1 he
    exact hgood n (List.mem_range.1 hn)
  · have hnot : ¬ (4 ≤ k ∨ s.permitInLevel k = level) := not_or.2 ⟨Nat.not_le.2 hk, hlevel⟩
    have hagenda := (SameCourse.checkReads { s with permitIn := Store.write false s.permitIn k level } sectionRefs).agenda
    have hopen := State.lines_open hreset hbanked
    unfold State.changePermitIn
    rw [if_neg hnot]
    simp only
    rw [if_neg hopen]
    generalize ({ s with permitIn := Store.write false s.permitIn k level } : State).checkReads sectionRefs = u at hagenda
    rw [State.addTasks, hagenda, hquiet]
    rfl

theorem State.changePermitIn_transparent {s : State} {k : Nat} {level : Bool} (hk : k < 4)
    (hlevel : s.permitInLevel k ≠ level) (hmode : s.mode = .transparent) :
    s.changePermitIn k level = { s with permitIn := Store.write false s.permitIn k level } := by
  have hnot : ¬ (4 ≤ k ∨ s.permitInLevel k = level) := not_or.2 ⟨Nat.not_le.2 hk, hlevel⟩
  unfold State.changePermitIn
  rw [if_neg hnot]
  exact if_pos (by simp [hmode])

/-- What a deassertion starts stands in the event, and nothing of it halts a section but PERMIT_LOST. -/
theorem State.permitTasks_awaiting {s : State} {k n : Nat} {C : HaltCause → Prop} (hn : n ∈ s.permitSections k)
    (hC : C .permitLost) :
    Awaiting n C (.haltFirst n .permitLost) (s.setAgenda (s.permitTasks k false)) ∧
      (s.permitTasks k false).countP Task.isTrips = 0 := by
  have htasks : ∀ x ∈ s.permitTasks k false, (∃ m < 16, x = .haltFirst m .permitLost ∨ x = .reexamine m) ∨ x = .scan := by
    intro x hx
    simp only [State.permitTasks, Bool.false_eq_true, if_false, List.mem_append, List.mem_map, List.mem_singleton] at hx
    rcases hx with (⟨m, hm, rfl⟩ | ⟨m, hm, rfl⟩) | rfl
    · exact .inl ⟨m, (State.mem_permitSections.1 hm).1, .inl rfl⟩
    · exact .inl ⟨m, (State.mem_permitSections.1 hm).1, .inr rfl⟩
    · exact .inr rfl
  refine ⟨⟨?_, fun x hx => ?_, fun x hx _ c hc => ?_⟩, List.countP_eq_zero.2 fun x hx => ?_⟩
  · exact List.mem_append_left _ (List.mem_append_left _ (List.mem_map.2 ⟨n, hn, rfl⟩))
  · rcases htasks x hx with ⟨m, hm, rfl | rfl⟩ | rfl
    · exact hm
    · exact hm
    · exact trivial
  · rcases htasks x hx with ⟨m, hm, rfl | rfl⟩ | rfl
    · rcases hc with hc | hc
      · cases hc
      · cases hc
        exact hC
    · rcases hc with hc | hc <;> cases hc
    · rcases hc with hc | hc <;> cases hc
  · rcases htasks x hx with ⟨m, hm, rfl | rfl⟩ | rfl <;> exact fun h => (by cases h)

theorem State.settled_clock (s : State) : s.settled.clock = s.clock := congrArg Steady.clock s.settled_steady

theorem State.settled_permitInLevel (s : State) (k : Nat) : s.settled.permitInLevel k = s.permitInLevel k := by
  have hsame : s.settled.permitIn = s.permitIn := congrArg Steady.permitIn s.settled_steady
  rw [State.permitInLevel, hsame]
  rfl

/-- Settles O37. -/
theorem permitInChangeActsOnTheNamingSections : Obligations.PermitInChangeActsOnTheNamingSections := by
  unfold Obligations.PermitInChangeActsOnTheNamingSections
  intro s k level hrest hk
  have hexec : exec (.permitInChange k level) s = .next (s.changePermitIn k level).settled := rfl
  rw [hexec]
  refine ⟨fun hlevel => ?_, fun hlevel => ⟨fun hmode => ?_, fun hbanked hgood l hl => ?_, fun hbanked hlow => ?_⟩⟩
  · rw [State.changePermitIn, if_pos (.inr hlevel), State.settled_of_quiet s hrest.2]
  · have hquiet := hrest.2
    rw [State.changePermitIn_transparent hk hlevel hmode]
    refine ⟨_, congrArg _ (State.settled_of_quiet _ hquiet), ?_, fun j hj => ?_, rfl⟩
    · exact Store.read_write_same false s.permitIn k level
    · exact Store.read_write_other false s.permitIn level hj
  · obtain ⟨u, _, hu, heq⟩ := State.changePermitIn_taken hrest hk hlevel hbanked
    have hsections : u.permitSections k = l := by
      rw [hl, hu hgood]
      exact State.permitSections_eq s k
    rw [heq, State.permitTasks, hsections, hu hgood]
    rfl
  · subst hlow
    obtain ⟨u, hsame, _, heq⟩ := State.changePermitIn_taken hrest hk hlevel hbanked
    have hsteady : u.steady = ({ s with permitIn := Store.write false s.permitIn k false } : State).steady := hsame.steady
    have hline : u.permitIn = Store.write false s.permitIn k false := congrArg Steady.permitIn hsteady
    have hclock : u.clock = s.clock := congrArg Steady.clock hsteady
    have hbank : u.activeBank = s.activeBank :=
      State.activeBank_of_steady (s := { s with permitIn := Store.write false s.permitIn k false }) hsteady
    rw [heq]
    refine ⟨_, rfl, ?_, fun n hn c hc hpermit hphase => ?_⟩
    · rw [State.settled_permitInLevel]
      show Store.read false u.permitIn k = false
      rw [hline, Store.read_write_same]
    · have hmem : n ∈ u.permitSections k :=
        State.mem_permitSections.2 ⟨hn, c, (State.definedRec_of_activeBank hbank n).trans hc, hpermit⟩
      obtain ⟨hawait, htrips⟩ := State.permitTasks_awaiting
        (C := fun h => h = .permitLost ∨ h = .needLost ∨ h = .feedStop) hmem (.inl rfl)
      have hreach : haltReaches .permitLost ((u.setAgenda (u.permitTasks k false)).phaseOf n) = true := by
        have hphase' : (u.setAgenda (u.permitTasks k false)).phaseOf n = s.phaseOf n := hsame.phaseOf n
        rw [hphase']
        rcases hphase with h | h <;> rw [h] <;> rfl
      obtain ⟨h, hC, hend⟩ := State.settled_halts (.inr rfl) (fun _ => ⟨.inr (.inl rfl), .inr (.inr rfl)⟩) hawait hreach
        (by show (u.permitTasks k false).countP Task.isTrips < 1000; omega)
      refine ⟨h, hC, hend.trans ?_⟩
      show haltedAt u.clock h = _
      rw [hclock]
      rfl

/-! ### CAMPAIGN-HALT (R61, R67) -/

theorem mem_haltLineTasks {x : Task} (h : x ∈ sectionNumbers.map (fun n => Task.halt n .externalHalt) ++ reexamineAll) :
    ∃ m < 16, x = .halt m .externalHalt ∨ x = .reexamine m := by
  rw [reexamineAll, sectionNumbers, List.mem_append, List.mem_map, List.mem_map] at h
  rcases h with ⟨m, hm, rfl⟩ | ⟨m, hm, rfl⟩
  · exact ⟨m, List.mem_range.1 hm, .inl rfl⟩
  · exact ⟨m, List.mem_range.1 hm, .inr rfl⟩

/-- The halt line is taken before anything else of its event. -/
theorem State.haltLine_awaiting (s : State) {n : Nat} (hn : n < 16) :
    Awaiting n (· = .externalHalt) (.halt n .externalHalt)
      (s.setAgenda (sectionNumbers.map (fun n => Task.halt n .externalHalt) ++ reexamineAll)) where
  stands := List.mem_append_left _ (List.mem_map.2 ⟨n, List.mem_range.2 hn, rfl⟩)
  within x hx := by
    obtain ⟨m, hm, rfl | rfl⟩ := mem_haltLineTasks hx
    · exact hm
    · exact hm
  allowed x hx hext c hc := by
    obtain ⟨m, hm, rfl | rfl⟩ := mem_haltLineTasks hx
    · rcases hc with hc | hc <;> cases hc
      rfl
    · rcases hc with hc | hc <;> cases hc

theorem State.assertHalt_eq {s : State} (hrest : s.atRest) (hline : s.campaignHalt = false) (hbanked : s.banked) :
    s.assertHalt = State.setAgenda { s with campaignHalt := true }
      (sectionNumbers.map (fun n => Task.halt n .externalHalt) ++ reexamineAll) := by
  obtain ⟨hreset, hquiet⟩ := hrest
  have hopen := State.lines_open hreset hbanked
  unfold State.assertHalt
  rw [if_neg (by simp [hline])]
  simp only
  rw [if_neg hopen, State.addTasks, hquiet]
  rfl

theorem State.deassertHalt_eq {s : State} (hrest : s.atRest) (hline : s.campaignHalt = true) (hbanked : s.banked) :
    s.deassertHalt = State.setAgenda { s with campaignHalt := false } reexamineAll := by
  obtain ⟨hreset, hquiet⟩ := hrest
  have hopen := State.lines_open hreset hbanked
  unfold State.deassertHalt
  rw [if_pos hline]
  simp only
  rw [if_neg hopen, State.addTasks, hquiet]
  rfl

/-- Settles O38. -/
theorem campaignHaltHaltsTheWorkingSections : Obligations.CampaignHaltHaltsTheWorkingSections := by
  unfold Obligations.CampaignHaltHaltsTheWorkingSections
  intro s hrest
  have hasserted : exec .campaignHaltAsserted s = .next s.assertHalt.settled := rfl
  have hdeasserted : exec .campaignHaltDeasserted s = .next s.deassertHalt.settled := rfl
  have hquiet := hrest.2
  rw [hasserted, hdeasserted]
  refine ⟨fun hline => ?_, fun hline => ?_, fun hline hmode => ?_, fun hline hmode => ?_, fun hline hbanked => ?_,
    fun hline hbanked => ?_, fun hline hbanked hgood hnone => ?_⟩
  · rw [State.assertHalt, if_pos hline, State.settled_of_quiet s hquiet]
  · rw [State.deassertHalt, if_neg (by simp [hline]), State.settled_of_quiet s hquiet]
  · have heq : s.assertHalt = { s with campaignHalt := true } := by
      unfold State.assertHalt
      rw [if_neg (by simp [hline])]
      exact if_pos (by simp [hmode])
    rw [heq, State.settled_of_quiet _ (by exact hquiet)]
  · have heq : s.deassertHalt = { s with campaignHalt := false } := by
      unfold State.deassertHalt
      rw [if_pos hline]
      exact if_pos (by simp [hmode])
    rw [heq, State.settled_of_quiet _ (by exact hquiet)]
  · rw [State.assertHalt_eq hrest hline hbanked]
    refine ⟨_, rfl, congrArg Steady.campaignHalt (State.settled_steady _), fun n hn hworks => ?_, fun n _ hhalted => ?_⟩
    · have htrips : (sectionNumbers.map (fun n => Task.halt n .externalHalt) ++ reexamineAll).countP Task.isTrips = 0 :=
        List.countP_eq_zero.2 fun x hx => by
          obtain ⟨m, hm, rfl | rfl⟩ := mem_haltLineTasks hx <;> exact fun h => (by cases h)
      obtain ⟨h, rfl, hend⟩ := State.settled_halts (.inl rfl) (fun h => (by cases h))
        (State.haltLine_awaiting { s with campaignHalt := true } hn) (by exact hworks)
        (by show (sectionNumbers.map (fun n => Task.halt n .externalHalt) ++ reexamineAll).countP Task.isTrips < 1000; omega)
      exact hend
    · exact (KeepsHalted.cascading n).settled _ hhalted
  · rw [State.deassertHalt_eq hrest hline hbanked]
    rfl
  · rw [State.deassertHalt_eq hrest hline hbanked, State.settled_of_inert]
    · refine congrArg _ ?_
      rw [← hquiet]
      rfl
    · intro x hx
      obtain ⟨n, hn, rfl⟩ := List.mem_map.1 hx
      have hmove : (State.setAgenda { s with campaignHalt := false } reexamineAll).autoMove n = none :=
        hnone n (List.mem_range.1 hn)
      have hreads : ((State.setAgenda { s with campaignHalt := false } reexamineAll).reexamineReads n).all
          (State.setAgenda { s with campaignHalt := false } reexamineAll).activeBank.entryGood = true :=
        List.all_eq_true.2 fun e _ => hgood e
      simp only [State.isInert, hmove, hreads, Option.isNone_none, Bool.or_true, Bool.and_true]

end Sys2Proof.Machine
end

section

/-! PROOF. The requests that end the use of a bank: GO_TRANSPARENT and RESET_PART. -/

namespace Sys2Proof.Machine

/-! ### Every order refused PART_RESET (R134, R147) -/

/-- What the refusal of the outstanding orders queues does not depend on the entries and the pledge sum they leave. -/
theorem State.foldl_freeEntry_eq (l : List Entry) (s u v : State) (hline : v.straps = s.straps) (es : List Entry) (p : Nat)
    (hu : u = { v with entries := es, pledgeSum := p }) :
    ∃ es' p', l.foldl (fun u e => if e.isSupervisory then (u.freeEntry e).refuse (u.entryTel e) .partReset else u.freeEntry e) u =
      { l.foldl (fun u e => if e.isSupervisory then u.refusedWith (s.entryTel e) .partReset else u) v with
        entries := es', pledgeSum := p' } := by
  induction l generalizing u v es p with
  | nil => exact ⟨es, p, hu⟩
  | cons e l ih =>
    rw [List.foldl_cons, List.foldl_cons]
    have htel : u.entryTel e = s.entryTel e := by
      have hstation : u.station = s.station := by
        rw [State.station, State.station, hu, ← hline]
      unfold State.entryTel State.entrySource
      rw [hstation]
    subst hu
    by_cases hsup : e.isSupervisory = true
    · rw [if_pos hsup, if_pos hsup, htel, State.refuse_eq]
      exact ih _ (v.refusedWith (s.entryTel e) .partReset) hline _ _ rfl
    · rw [if_neg hsup, if_neg hsup]
      exact ih _ v hline _ _ rfl

theorem State.dropOrders_eq (s : State) : ∃ p, s.dropOrders = { ordersDropped s with pledgeSum := p } := by
  have hheld : s.emptyHeld .partReset = s.held.foldl (fun u h => u.refusedWith h.tel .partReset) { s with held := [] } := by
    rw [State.emptyHeld, State.foldl_refuse_eq]
    rfl
  have hentries : (s.emptyHeld .partReset).entries = s.entries :=
    foldl_keeps State.entries (fun s (h : HeldRec) => s.refuse h.tel .partReset) (fun _ _ => State.refuse_entries _ _ _) _ _
  have hstraps : (s.emptyHeld .partReset).straps = s.straps :=
    congrArg Steady.straps (show (s.emptyHeld .partReset).steady = s.steady by simp)
  obtain ⟨es, p, hfold⟩ := State.foldl_freeEntry_eq s.entries s (s.emptyHeld .partReset) _ hstraps
    (s.emptyHeld .partReset).entries (s.emptyHeld .partReset).pledgeSum rfl
  have hnone := s.dropOrders_entries
  refine ⟨p, ?_⟩
  rw [State.dropOrders, State.emptyEntries, hentries, hfold] at hnone ⊢
  have hes : es = [] := hnone
  rw [hes, hheld]
  rfl

theorem ordersDropped_setRequests (s : State) (l : List MgmtTel) :
    ordersDropped (s.setRequests l) = (ordersDropped s).setRequests l := by
  unfold ordersDropped
  have hheld := List.foldl_hom (fun u : State => u.setRequests l) (l := s.held) (init := { s with held := [] })
    (g₁ := fun u h => u.refusedWith h.tel .partReset) (g₂ := fun u h => u.refusedWith h.tel .partReset) fun _ _ => rfl
  have hentries := fun u : State => List.foldl_hom (fun u : State => u.setRequests l) (l := s.entries) (init := u)
    (g₁ := fun u e => if e.isSupervisory then u.refusedWith (s.entryTel e) .partReset else u)
    (g₂ := fun u e => if e.isSupervisory then u.refusedWith (s.entryTel e) .partReset else u) fun v e => by
      split <;> rfl
  exact (congrArg (fun u : State => { s.entries.foldl (fun u e => if e.isSupervisory then u.refusedWith (s.entryTel e)
    .partReset else u) u with entries := [] }) hheld).trans
    (congrArg (fun u : State => { u with entries := [] }) (hentries _))

/-! ### Sections and PERMIT-OUT at their reset values (R22, R42) -/

/-- A fold that sets each section by a rule over the clock and its own state leaves each section as its own rule says. -/
theorem State.sect_foldl (g : Clock → SectionDyn → SectionDyn) (l : List Nat) (hl : l.Nodup) (s : State) (n : Nat) :
    (l.foldl (fun s n => s.setSect n (g s.clock (s.sect n))) s).sect n =
      if n ∈ l then g s.clock (s.sect n) else s.sect n := by
  induction l generalizing s with
  | nil => simp
  | cons m l ih =>
    obtain ⟨hm, hl⟩ := List.nodup_cons.1 hl
    have hclock : (s.setSect m (g s.clock (s.sect m))).clock = s.clock := rfl
    rw [List.foldl_cons, ih hl, hclock]
    by_cases hn : n = m
    · subst hn
      simp [hm]
    · simp [hn, State.sect_setSect_other _ _ hn]

theorem foldl_sects_frame (f : State → Nat → State) (hf : ∀ s n, f s n = { s with sects := (f s n).sects })
    (l : List Nat) (s : State) : l.foldl f s = { s with sects := (l.foldl f s).sects } := by
  induction l generalizing s with
  | nil => rfl
  | cons n l ih =>
    rw [List.foldl_cons, ih, hf s n]

theorem State.permitOutLevel_dropPermitOut_other (s : State) {k : Nat} (hk : 4 ≤ k) :
    s.dropPermitOut.permitOutLevel k = s.permitOutLevel k := by
  show (((((s.setPermitOut 0 false).setPermitOut 1 false).setPermitOut 2 false).setPermitOut 3 false)).permitOutLevel k = _
  simp only [State.permitOutLevel_setPermitOut]
  rw [if_neg (by omega), if_neg (by omega), if_neg (by omega), if_neg (by omega)]

/-- The sections returned to reset values by a rule, and every PERMIT-OUT deasserted. -/
def State.sectionsCleared (s : State) (g : Clock → SectionDyn → SectionDyn) : State :=
  (sectionNumbers.foldl (fun s n => s.setSect n (g s.clock (s.sect n))) s).dropPermitOut

theorem State.sectionsCleared_frame (s : State) (g : Clock → SectionDyn → SectionDyn) : s.sectionsCleared g =
    { s with sects := (s.sectionsCleared g).sects, permitOut := (s.sectionsCleared g).permitOut } := by
  have hframe := foldl_sects_frame (fun s n => s.setSect n (g s.clock (s.sect n))) (fun _ _ => rfl) sectionNumbers s
  unfold State.sectionsCleared
  generalize sectionNumbers.foldl (fun s n => s.setSect n (g s.clock (s.sect n))) s = u at hframe
  generalize u.sects = q at hframe
  rw [hframe]
  rfl

theorem State.sectionsCleared_agenda (s : State) (g : Clock → SectionDyn → SectionDyn) :
    (s.sectionsCleared g).agenda = s.agenda := by
  rw [State.sectionsCleared_frame]

theorem State.sectionsCleared_sect (s : State) (g : Clock → SectionDyn → SectionDyn) (n : Nat) :
    (s.sectionsCleared g).sect n = if n < 16 then g s.clock (s.sect n) else s.sect n := by
  have hfold := State.sect_foldl g sectionNumbers (by decide) s n
  refine Eq.trans ?_ (hfold.trans (if_congr List.mem_range rfl rfl))
  rw [State.sectionsCleared]
  generalize sectionNumbers.foldl (fun s n => s.setSect n (g s.clock (s.sect n))) s = u
  rfl

theorem State.sectionsCleared_permitOutLevel (s : State) (g : Clock → SectionDyn → SectionDyn) (k : Nat) :
    (s.sectionsCleared g).permitOutLevel k = if k < 4 then false else s.permitOutLevel k := by
  have hframe := foldl_sects_frame (fun s n => s.setSect n (g s.clock (s.sect n))) (fun _ _ => rfl) sectionNumbers s
  rw [State.sectionsCleared]
  generalize sectionNumbers.foldl (fun s n => s.setSect n (g s.clock (s.sect n))) s = u at hframe
  split
  · next hk => exact State.permitOutLevel_dropPermitOut u hk
  · next hk =>
    rw [State.permitOutLevel_dropPermitOut_other u (Nat.le_of_not_lt hk)]
    generalize u.sects = q at hframe
    rw [hframe]
    rfl

theorem State.allIdle_iff (s : State) : s.allIdle = true ↔ ∀ n < 16, s.phaseOf n = .idle := by
  rw [State.allIdle, List.all_eq_true]
  simp only [sectionNumbers, List.mem_range, beq_iff_eq]

theorem ordersDropped_sects (s : State) : (ordersDropped s).sects = s.sects := by
  obtain ⟨p, hp⟩ := s.dropOrders_eq
  have h := s.dropOrders_sects
  rw [hp] at h
  exact h

theorem ordersDropped_steady (s : State) : (ordersDropped s).steady = s.steady := by
  obtain ⟨p, hp⟩ := s.dropOrders_eq
  have h : s.dropOrders.steady = s.steady := by simp [State.dropOrders]
  rw [hp] at h
  exact h

theorem ordersDropped_permitOut (s : State) : (ordersDropped s).permitOut = s.permitOut := by
  have hheld := foldl_keeps State.permitOut (fun (u : State) (h : HeldRec) => u.refusedWith h.tel .partReset) (fun _ _ => rfl)
    s.held { s with held := [] }
  refine (foldl_keeps State.permitOut _ (fun u e => ?_) _ _).trans hheld
  split <;> rfl

theorem ordersDropped_agenda (s : State) : (ordersDropped s).agenda = s.agenda := by
  have hheld := foldl_keeps State.agenda (fun (u : State) (h : HeldRec) => u.refusedWith h.tel .partReset) (fun _ _ => rfl)
    s.held { s with held := [] }
  refine (foldl_keeps State.agenda _ (fun u e => ?_) _ _).trans hheld
  split <;> rfl

/-- An answer of a state that holds the requests left. -/
theorem State.accept_own (s : State) (r : MgmtTel) : s.accept r [] = s.answered r s.requests 0 [] :=
  State.accept_nil s r s.requests

/-! ### GO_TRANSPARENT (R172) -/

theorem State.exec_goTransparent {s : State} {r : MgmtTel} {rest : List MgmtTel} (h : s.turnOf r rest)
    (hcode : r.code.toNat = 5) (hbody : r.body = []) :
    exec .goTransparent s = .next ((s.setRequests rest).judgeTransparent r).settled := by
  change Host.Outcome.next (State.settled _) = _
  rw [State.handle_turn h _ (hasCode_of hcode), State.withEmptyBody_nil _ hbody]

section Fields

variable (s : State) (r : MgmtTel) (rest : List MgmtTel) (code : Byte) (body : List Byte) (n : Nat)

theorem State.setRequests_sect : (s.setRequests rest).sect n = s.sect n := rfl

theorem State.setRequests_permitOutLevel : (s.setRequests rest).permitOutLevel n = s.permitOutLevel n := rfl

theorem State.answered_agenda : (s.answered r rest code body).agenda = s.agenda := rfl

theorem State.answered_sect : (s.answered r rest code body).sect n = s.sect n := rfl

theorem State.answered_permitOutLevel : (s.answered r rest code body).permitOutLevel n = s.permitOutLevel n := rfl

end Fields

/-- The budget figures and the image at their reset values, with every order dropped. -/
def State.stripped (s : State) : State :=
  { ordersDropped s with remaining := 0, unusedReserve := 0, periodNumber := 0, load := 0, pledgeSum := 0, image := [] }

theorem State.stripped_eq (s : State) : { s.dropOrders.zeroBudget with image := [] } = s.stripped := by
  obtain ⟨p, hp⟩ := s.dropOrders_eq
  rw [hp]
  rfl

/-- A section at GO_TRANSPARENT keeps its phase entry time. -/
def idleKept (_ : Clock) (d : SectionDyn) : SectionDyn := { SectionDyn.clear with entryTime := d.entryTime }

/-- A section at RESET_PART takes the clock value for its phase entry time. -/
def idleNow (c : Clock) (_ : SectionDyn) : SectionDyn := { SectionDyn.clear with entryTime := c }

/-- The part in TRANSPARENT, the bank that was active now the standby bank. -/
def State.leftBank (s : State) (standby : BankId) : State :=
  { s with mode := .transparent, active := none, standby := standby, standbyWritten := false, fault := false }

theorem State.leftBank_agenda (s : State) (i : BankId) : (s.leftBank i).agenda = s.agenda := rfl

theorem State.leftBank_sect (s : State) (i : BankId) (n : Nat) : (s.leftBank i).sect n = s.sect n := rfl

theorem State.leftBank_permitOutLevel (s : State) (i : BankId) (k : Nat) :
    (s.leftBank i).permitOutLevel k = s.permitOutLevel k := rfl

/-- No timer of the budget runs. -/
def State.untimed (s : State) : State := { s with periodTimer := none, tallyTimer := none }

theorem State.untimed_agenda (s : State) : s.untimed.agenda = s.agenda := rfl

theorem State.untimed_sect (s : State) (n : Nat) : s.untimed.sect n = s.sect n := rfl

theorem State.untimed_permitOutLevel (s : State) (k : Nat) : s.untimed.permitOutLevel k = s.permitOutLevel k := rfl

theorem State.goTransparent_eq (s : State) :
    s.goTransparent = (s.stripped.untimed.sectionsCleared idleKept).leftBank (s.active.getD s.standby) := by
  have h := s.stripped_eq
  unfold State.goTransparent
  rw [← h]
  rfl

theorem State.resetPart_eq (s : State) : s.resetPart = s.stripped.sectionsCleared idleNow := by
  rw [← State.stripped_eq]
  rfl

theorem State.stripped_sect (s : State) (n : Nat) : s.stripped.sect n = s.sect n :=
  congrArg (fun q => Store.read SectionDyn.clear q n) (ordersDropped_sects s)

theorem State.stripped_permitOutLevel (s : State) (k : Nat) : s.stripped.permitOutLevel k = s.permitOutLevel k :=
  congrArg (fun q => Store.read false q k) (ordersDropped_permitOut s)

theorem State.stripped_agenda (s : State) : s.stripped.agenda = s.agenda := ordersDropped_agenda s

theorem State.stripped_setRequests (s : State) (l : List MgmtTel) : (s.setRequests l).stripped = s.stripped.setRequests l := by
  unfold State.stripped
  rw [ordersDropped_setRequests]
  rfl

/-- Settles O28. -/
theorem goTransparentEndsTheUseOfTheBank : Obligations.GoTransparentEndsTheUseOfTheBank := by
  unfold Obligations.GoTransparentEndsTheUseOfTheBank
  intro s r rest hturn hcode hbody
  rw [State.exec_goTransparent hturn hcode hbody]
  have hquiet := State.turnOf_quiet hturn
  refine ⟨fun hclosed => ?_, fun hbanked hout hbusy => ?_, fun i hbanked hactive hout hidle => ?_⟩
  · have hjudge : (s.setRequests rest).judgeTransparent r = s.rejectedWith r rest .notLegal := by
      rw [State.judgeTransparent, State.reject_none]
      by_cases hmode : s.mode = .transparent
      · exact if_pos hmode
      · exact (if_neg hmode).trans (if_pos (hclosed.resolve_left hmode))
    rw [hjudge, State.rejectedWith_settled hturn]
  · have hjudge : (s.setRequests rest).judgeTransparent r = s.rejectedWith r rest .inUse := by
      obtain ⟨n, hn, hne⟩ := hbusy
      have hall : ¬ (s.setRequests rest).allIdle = true := fun h => hne ((State.allIdle_iff _).1 h n hn)
      rw [State.judgeTransparent, if_neg (by exact hbanked), if_neg (not_not_intro (by exact hout)), if_neg hall,
        State.reject_none]
    rw [hjudge, State.rejectedWith_settled hturn]
  · have hall : (s.setRequests rest).allIdle = true := (State.allIdle_iff _).2 hidle
    have hjudge : (s.setRequests rest).judgeTransparent r = (s.setRequests rest).goTransparent.accept r [] := by
      rw [State.judgeTransparent, if_neg (by exact hbanked), if_neg (not_not_intro (by exact hout)), if_pos hall]
    have hstandby : (s.setRequests rest).active.getD (s.setRequests rest).standby = i := by
      rw [show (s.setRequests rest).active = some i from hactive]
      rfl
    rw [hjudge, State.accept_own, State.goTransparent_eq, hstandby, State.stripped_setRequests]
    have hframe := State.sectionsCleared_frame (s.stripped.setRequests rest).untimed idleKept
    have hsect := State.sectionsCleared_sect (s.stripped.setRequests rest).untimed idleKept
    have hpermit := State.sectionsCleared_permitOutLevel (s.stripped.setRequests rest).untimed idleKept
    have hsame : ∀ n, (s.stripped.setRequests rest).untimed.sect n = s.sect n := fun n => by
      rw [State.untimed_sect, State.setRequests_sect, State.stripped_sect]
    have hlevels : ∀ k, (s.stripped.setRequests rest).untimed.permitOutLevel k = s.permitOutLevel k := fun k => by
      rw [State.untimed_permitOutLevel, State.setRequests_permitOutLevel, State.stripped_permitOutLevel]
    have hz : ((s.stripped.setRequests rest).untimed.sectionsCleared idleKept).agenda = [] := by
      rw [State.sectionsCleared_agenda, State.untimed_agenda, State.setRequests_agenda, State.stripped_agenda, hquiet]
    generalize (s.stripped.setRequests rest).untimed.sectionsCleared idleKept = z at hframe hsect hpermit hz
    have hend : ((z.leftBank i).answered r (z.leftBank i).requests 0 []).agenda = [] := by
      rw [State.answered_agenda, State.leftBank_agenda, hz]
    refine ⟨_, congrArg _ (State.settled_of_quiet _ hend), fun n hn => ?_, fun n hn => ?_, fun k hk => ?_,
      fun k hk => ?_, ?_⟩
    · rw [State.answered_sect, State.leftBank_sect, hsect, if_pos hn, hsame]
      rfl
    · rw [State.answered_sect, State.leftBank_sect, hsect, if_neg (Nat.not_lt.2 hn), hsame]
    · rw [State.answered_permitOutLevel, State.leftBank_permitOutLevel, hpermit, if_pos hk]
    · rw [State.answered_permitOutLevel, State.leftBank_permitOutLevel, hpermit, if_neg (Nat.not_lt.2 hk), hlevels]
    · generalize z.sects = a at hframe
      generalize z.permitOut = b at hframe
      rw [hframe, State.stripped]
      generalize ordersDropped s = u
      rfl

/-! ### RESET_PART (R179) -/

theorem State.exec_resetPart {s : State} {r : MgmtTel} {rest : List MgmtTel} (h : s.turnOf r rest)
    (hcode : r.code.toNat = 12) (hbody : r.body = []) :
    exec .resetPart s = .next ((s.setRequests rest).judgeReset r).settled := by
  change Host.Outcome.next (State.settled _) = _
  rw [State.handle_turn h _ (hasCode_of hcode), State.withEmptyBody_nil _ hbody]

/-- Settles O29. -/
theorem resetPartReturnsTheDynamicState : Obligations.ResetPartReturnsTheDynamicState := by
  unfold Obligations.ResetPartReturnsTheDynamicState
  intro s r rest hturn hcode hbody
  rw [State.exec_resetPart hturn hcode hbody]
  have hquiet := State.turnOf_quiet hturn
  refine ⟨fun hmode => ?_, fun hmode hcampaign => ?_, fun hmode hout => ?_⟩
  · have hjudge : (s.setRequests rest).judgeReset r = s.rejectedWith r rest .failHold := by
      rw [State.judgeReset, if_pos (by exact hmode), State.reject_none]
    rw [hjudge, State.rejectedWith_settled hturn]
  · have hjudge : (s.setRequests rest).judgeReset r = s.rejectedWith r rest .notLegal := by
      rw [State.judgeReset, if_neg (by exact hmode), if_pos (by exact hcampaign), State.reject_none]
    rw [hjudge, State.rejectedWith_settled hturn]
  · have hjudge : (s.setRequests rest).judgeReset r = (s.setRequests rest).resetPart.accept r [] := by
      rw [State.judgeReset, if_neg (by exact hmode), if_neg (not_not_intro (by exact hout))]
    rw [hjudge, State.accept_own, State.resetPart_eq, State.stripped_setRequests]
    have hframe := State.sectionsCleared_frame (s.stripped.setRequests rest) idleNow
    have hsect := State.sectionsCleared_sect (s.stripped.setRequests rest) idleNow
    have hpermit := State.sectionsCleared_permitOutLevel (s.stripped.setRequests rest) idleNow
    have hz : ((s.stripped.setRequests rest).sectionsCleared idleNow).agenda = [] := by
      rw [State.sectionsCleared_agenda, State.setRequests_agenda, State.stripped_agenda, hquiet]
    have hclock : s.stripped.clock = s.clock := congrArg Steady.clock (ordersDropped_steady s)
    generalize (s.stripped.setRequests rest).sectionsCleared idleNow = z at hframe hsect hpermit hz
    refine ⟨_, congrArg _ (State.settled_of_quiet _ (by exact hz)), fun n hn => ?_, fun n hn => ?_, fun k hk => ?_,
      fun k hk => ?_, ?_⟩
    · rw [State.answered_sect, hsect, if_pos hn, State.setRequests_clock, hclock]
      rfl
    · rw [State.answered_sect, hsect, if_neg (Nat.not_lt.2 hn), State.setRequests_sect, State.stripped_sect]
    · rw [State.answered_permitOutLevel, hpermit, if_pos hk]
    · rw [State.answered_permitOutLevel, hpermit, if_neg (Nat.not_lt.2 hk), State.setRequests_permitOutLevel,
        State.stripped_permitOutLevel]
    · generalize z.sects = a at hframe
      generalize z.permitOut = b at hframe
      rw [hframe, State.stripped]
      generalize ordersDropped s = u
      rfl

end Sys2Proof.Machine
end

section

/-! PROOF. The timers of a section: confirmation of run-empty and overdue stays (R38, R40). -/

namespace Sys2Proof.Machine

/-! ### A FLUSHED section outside START_UP and WIND_DOWN -/

theorem State.charge_campaign (s : State) (c : Option BudgetClass) (k : Nat) : (s.charge c k).campaign = s.campaign := by
  unfold State.charge
  split <;> rfl

theorem State.admitOrder_campaign (s : State) (o : PointTel) (a : Addressed) (row : ScreenRow) (c : Option BudgetClass) :
    (s.admitOrder o a row c).campaign = s.campaign := by
  have hpoint : ∀ u : State, ∀ v : Word, (u.admitPoint a v).campaign = u.campaign := fun u v => by
    unfold State.admitPoint
    split <;> rfl
  exact (hpoint (s.charge c a.static.startCost) _).trans (State.charge_campaign s c _)

/-- Outside START_UP and WIND_DOWN a FLUSHED section is left as it is. -/
def KeepsFlushed (n : Nat) (s t : State) : Prop :=
  s.campaign = .outOfCampaign ∨ s.campaign = .inCampaign → s.phaseOf n = .flushed →
    t.campaign = s.campaign ∧ t.phaseOf n = .flushed

theorem KeepsFlushed.of_same {n : Nat} {s t : State} (hcampaign : t.campaign = s.campaign) (hsects : t.sects = s.sects) :
    KeepsFlushed n s t := fun _ hflushed => by
  refine ⟨hcampaign, ?_⟩
  rw [State.phaseOf, State.sect, hsects]
  exact hflushed

theorem haltReaches_flushed (c : HaltCause) : haltReaches c .flushed = false := by cases c <;> rfl

/-- No transition out of FLUSHED is eligible outside START_UP and WIND_DOWN (R53). -/
theorem State.autoMove_flushed {s : State} {n : Nat} (hcampaign : s.campaign = .outOfCampaign ∨ s.campaign = .inCampaign)
    (hflushed : s.phaseOf n = .flushed) : s.autoMove n = none := by
  refine Option.eq_none_iff_forall_not_mem.2 fun t ht => ?_
  have heligible := State.autoMove_eligible (show s.autoMove n = some t from ht)
  rw [hflushed] at heligible
  rcases hcampaign with h | h <;> rw [h] at heligible <;> cases heligible

theorem KeepsFlushed.trans {n : Nat} {s t u : State} (hst : KeepsFlushed n s t) (htu : KeepsFlushed n t u) :
    KeepsFlushed n s u := fun hcampaign hflushed => by
  obtain ⟨hsame, hphase⟩ := hst hcampaign hflushed
  obtain ⟨hsame', hphase'⟩ := htu (hsame.symm ▸ hcampaign) hphase
  exact ⟨hsame'.trans hsame, hphase'⟩

theorem KeepsFlushed.of_other {n m : Nat} {s : State} {v : SectionDyn} (h : s.phaseOf n = .flushed → n ≠ m ∨
    (s.campaign = .startUp ∨ s.campaign = .windDown)) : KeepsFlushed n s (s.setSect m v) := fun hcampaign hflushed => by
  rcases h hflushed with hne | hbusy
  · refine ⟨rfl, ?_⟩
    rw [State.phaseOf, State.sect_setSect_other _ _ hne]
    exact hflushed
  · rcases hcampaign with h | h <;> rw [h] at hbusy <;> rcases hbusy with hb | hb <;> cases hb

theorem KeepsFlushed.cascading (n : Nat) : Cascading (KeepsFlushed n) where
  refl s := fun _ h => ⟨rfl, h⟩
  trans := KeepsFlushed.trans
  agenda s l := fun _ h => ⟨rfl, h⟩
  draw s := fun _ h => ⟨rfl, h⟩
  notice s k a b c := .of_same (by rw [State.offerNotice_frame]) (State.offerNotice_sects ..)
  halt s m c hreach := .of_other fun hflushed => .inl fun heq => by
    rw [← heq, hflushed, haltReaches_flushed] at hreach
    cases hreach
  move s m t hmove := fun hcampaign hflushed => KeepsFlushed.of_other (fun _ => .inl fun heq => by
    rw [← heq, State.autoMove_flushed hcampaign hflushed] at hmove
    cases hmove) hcampaign hflushed
  permitOut s k b := fun _ h => ⟨rfl, h⟩
  fault s e := .of_same (SameCourse.activeFault s e).campaign (State.activeFault_sects s e)
  trip s m a w := fun _ h => ⟨rfl, h⟩
  campaign s m hm := fun hcampaign _ => by
    rw [State.completionMode] at hm
    rcases hcampaign with h | h <;> rw [h] at hm <;> cases hm
  scan s := by
    refine scan_respects (KeepsFlushed n) (fun s _ h => ⟨rfl, h⟩) KeepsFlushed.trans (fun s o r => ?_)
      (fun s o a row c => .of_same (State.admitOrder_campaign ..) (State.admitOrder_sects s o a row c))
      (fun s o a _ h => ⟨rfl, h⟩) (fun s l _ h => ⟨rfl, h⟩)
      (fun s e => .of_same (SameCourse.activeFault s e).campaign (State.activeFault_sects s e)) s
    rw [State.refuse_eq]
    exact fun _ h => ⟨rfl, h⟩

/-! ### Confirmation (R38) -/

theorem State.confirmDue_iff {s : State} {n : Nat} {t : Clock} (h : (s.sect n).runEmpty = .counting t) :
    s.confirmDue n = true ↔ 10 * (s.activeBank.sec n).confirmTime ≤ (s.clock - t).toNat := by
  rw [State.confirmDue, h]
  exact decide_eq_true_iff

theorem State.exec_confirm {s : State} (h : s.atRest) (n : Nat) :
    exec (.confirmationTimerExpiry n) s = .next (s.confirmExpires n).settled := by
  change Host.Outcome.next (State.settled _) = _
  rw [State.outOfReset_atRest h]

theorem State.exec_overdue {s : State} (h : s.atRest) (n : Nat) :
    exec (.overdueTimerExpiry n) s = .next (s.overdueExpires n).settled := by
  change Host.Outcome.next (State.settled _) = _
  rw [State.outOfReset_atRest h]

/-- A CONFIRMED section that is DRAINING is FLUSHED where its feeders are finished (R32, R53). -/
theorem State.autoMove_drained {s : State} {n : Nat} {c : SectionRec} (hmode : s.mode = .screening)
    (hc : s.definedRec n = some c) (hphase : s.phaseOf n = .draining) (hconfirmed : s.isConfirmed n = true)
    (hfeeders : s.feedersFinished n = true) : s.autoMove n = some .flushed := by
  refine (State.autoMove_eq_some_iff hmode hc .flushed).2 ⟨?_, ⟨{ drained := true }, ?_, ?_⟩, rfl⟩
  · rw [hphase]
    cases s.campaign <;> rfl
  · rw [hphase]
    rfl
  · simp [State.requirementHolds, hconfirmed, hfeeders]

/-- What the end of a confirmation leaves of the event: the re-examination of the section. -/
def State.confirmed (s : State) (n : Nat) : State :=
  { s.setSect n { s.sect n with runEmpty := .confirmed } with agenda := [.reexamine n] }

theorem State.confirmed_campaign (s : State) (n : Nat) : (s.confirmed n).campaign = s.campaign := rfl

theorem State.confirm_eq {s : State} (hquiet : s.agenda = []) (n : Nat) : s.confirm n = s.confirmed n := by
  rw [State.confirm, State.addTask, State.confirmed]
  simp only [State.setSect_agenda, hquiet, List.nil_append]

theorem State.confirmed_flushes {s : State} {n : Nat} {c : SectionRec} (hmode : s.mode = .screening)
    (hgood : ∀ e, s.activeBank.entryGood e = true) (hc : s.definedRec n = some c) (hphase : s.phaseOf n = .draining)
    (hfeeders : ∀ m ∈ s.feeders n, s.phaseOf m = .flushed ∨ s.phaseOf m = .idle)
    (hcampaign : s.campaign = .outOfCampaign ∨ s.campaign = .inCampaign) : (s.confirmed n).settled.phaseOf n = .flushed := by
  have hphases : ∀ m, (s.confirmed n).phaseOf m = s.phaseOf m := fun m => by
    refine (State.phaseOf_setSect s n m _).trans ?_
    split
    · next hm => rw [hm, State.phaseOf]
    · rfl
  have hmove : (s.confirmed n).autoMove n = some .flushed := by
    refine State.autoMove_drained hmode hc ((hphases n).trans hphase) ?_ ?_
    · have hsect : (s.confirmed n).sect n = { s.sect n with runEmpty := .confirmed } := State.sect_setSect_same _ _ _
      rw [State.isConfirmed, hsect]
      rfl
    · refine List.all_eq_true.2 fun m hm => ?_
      rw [hphases, Phase.finished_iff]
      exact hfeeders m hm
  have hlive : (s.confirmed n).liveTasks = [.reexamine n] := by
    have hactive : (s.confirmed n).isInert (.reexamine n) = false := by
      simp only [State.isInert, hmove, Option.isNone_some, Bool.false_and]
    show [Task.reexamine n].filter (fun t => !(s.confirmed n).isInert t) = _
    simp [hactive]
  have hrun : ((s.confirmed n).setAgenda []).runTask (.reexamine n) = ((s.confirmed n).setAgenda []).changePhase n .flushed none :=
    State.reexamine_of_autoMove_some hgood hmove
  obtain ⟨u, hu, heq⟩ := State.changePhase_course ((s.confirmed n).setAgenda []) n .flushed none
  have hflushed : u.phaseOf n = .flushed :=
    (hu.phaseOf n).trans ((State.phaseOf_setSect ..).trans (if_pos rfl))
  have houtside : u.campaign = .outOfCampaign ∨ u.campaign = .inCampaign := by
    rw [hu.campaign, State.setSect_campaign, State.setAgenda_campaign, State.confirmed_campaign]
    exact hcampaign
  rw [State.settled_single hlive, hrun, heq]
  exact ((KeepsFlushed.cascading n).settle _ (u.addTasks _) houtside hflushed).2

/-- Settles O43. -/
theorem sectionTimersConfirmAndNotice : Obligations.SectionTimersConfirmAndNotice := by
  unfold Obligations.SectionTimersConfirmAndNotice
  intro s n hrest
  have hquiet := hrest.2
  rw [State.exec_confirm hrest, State.exec_overdue hrest]
  refine ⟨fun t ht hdue => ?_, fun hbefore => ?_, fun l hl => ?_⟩
  · have hconfirm : s.confirmExpires n = s.ifReadable ⟨.sections, n⟩ (fun s => s.confirm n) :=
      if_pos ((State.confirmDue_iff ht).2 hdue)
    have hgood : s.activeBank.entryGood ⟨.sections, n⟩ = true → s.confirmExpires n = s.confirmed n := fun h => by
      rw [hconfirm, State.ifReadable_good _ _ _ h, State.confirm_eq hquiet]
    refine ⟨fun hbad => ?_, fun h => ?_, fun c _ hmode hall hc hphase hfeeders hcampaign => ?_⟩
    · rw [hconfirm, State.ifReadable_damaged _ _ _ hbad,
        State.settled_of_quiet _ ((State.activeFault_agenda ..).trans hquiet)]
    · rw [hgood h]
      rfl
    · rw [hgood (hall _)]
      exact ⟨_, rfl, State.confirmed_flushes hmode hall hc hphase hfeeders hcampaign⟩
  · have hnot : s.confirmExpires n = s := by
      refine if_neg fun hdue => ?_
      cases hempty : (s.sect n).runEmpty with
      | counting t => exact absurd ((State.confirmDue_iff hempty).1 hdue) (Nat.not_le.2 (hbefore t hempty))
      | notCounting => simp [State.confirmDue, hempty] at hdue
      | confirmed => simp [State.confirmDue, hempty] at hdue
    rw [hnot, State.settled_of_quiet s hquiet]
  · have hlimit : (s.activeBank.sec n).phaseLimit (s.phaseOf n) = l := by
      rw [hl, stayLimit]
      cases s.phaseOf n <;> rfl
    have hdue : s.overdueUnder (s.activeBank.sec n) n = true ↔
        l ≠ 0 ∧ (s.sect n).overdue = false ∧ 600 * l ≤ (s.clock - (s.sect n).entryTime).toNat := by
      rw [State.overdueUnder, hlimit, Bool.and_eq_true, Bool.and_eq_true, bne_iff_ne, Bool.not_eq_true', decide_eq_true_eq,
        and_assoc]
      rfl
    refine ⟨fun h0 hclear htime => ?_, fun hbefore => ?_⟩
    · have hexpires : s.overdueExpires n = s.ifReadable ⟨.sections, n⟩ (fun s => s.noteOverdue n) :=
        if_pos (hdue.2 ⟨h0, hclear, htime⟩)
      refine ⟨fun hbad => ?_, fun h => ?_⟩
      · rw [hexpires, State.ifReadable_damaged _ _ _ hbad,
          State.settled_of_quiet _ ((State.activeFault_agenda ..).trans hquiet)]
      · rw [hexpires, State.ifReadable_good _ _ _ h, State.noteOverdue, State.settled_of_quiet]
        rw [State.setSect_agenda, State.offerNotice_agenda, hquiet]
    · have hnot : s.overdueExpires n = s := by
        refine if_neg fun h => ?_
        obtain ⟨h0, hclear, htime⟩ := hdue.1 h
        rcases hbefore with hb | hb | hb
        · exact h0 hb
        · rw [hclear] at hb
          cases hb
        · omega
      rw [hnot, State.settled_of_quiet s hquiet]

end Sys2Proof.Machine
end

section

/-! PROOF. Image changes: what their reception by the neighbouring blocks leaves and starts (R13), and the stale timer. -/

namespace Sys2Proof.Machine

theorem State.activeFault_mode (s : State) (e : EntryRef) :
    (s.activeFault e).mode = if s.mode = .screening then .failHold else s.mode := by
  unfold State.activeFault
  split
  · refine (foldl_keeps State.mode (fun s (h : HeldRec) => s.refuse h.tel _) (fun u h => State.refuse_mode _ _ _) _ _).trans ?_
    exact State.offerNotice_mode ..
  · rfl

/-! ### What stands while an image change is taken -/

/-- The image, the campaign mode and all that is steady stand, and every section but for its run-empty state. -/
structure SameScene (s t : State) : Prop where
  image : t.image = s.image
  campaign : t.campaign = s.campaign
  steady : t.steady = s.steady
  mode : t.mode = s.mode ∨ t.mode = .failHold
  sects : ∀ n, ∃ e, t.sect n = { s.sect n with runEmpty := e }

namespace SameScene

theorem refl (s : State) : SameScene s s := ⟨rfl, rfl, rfl, .inl rfl, fun n => ⟨(s.sect n).runEmpty, rfl⟩⟩

theorem trans {s t u : State} (h : SameScene s t) (h' : SameScene t u) : SameScene s u where
  image := h'.image.trans h.image
  campaign := h'.campaign.trans h.campaign
  steady := h'.steady.trans h.steady
  mode := h'.mode.elim (fun hsame => hsame.symm ▸ h.mode) .inr
  sects n := by
    obtain ⟨e, he⟩ := h.sects n
    obtain ⟨e', he'⟩ := h'.sects n
    exact ⟨e', by rw [he', he]⟩

theorem activeBank {s t : State} (h : SameScene s t) : t.activeBank = s.activeBank := State.activeBank_of_steady h.steady

theorem definedRec {s t : State} (h : SameScene s t) (n : Nat) : t.definedRec n = s.definedRec n :=
  State.definedRec_of_activeBank h.activeBank n

theorem clock {s t : State} (h : SameScene s t) : t.clock = s.clock := congrArg Steady.clock h.steady

theorem phaseOf {s t : State} (h : SameScene s t) (n : Nat) : t.phaseOf n = s.phaseOf n := by
  obtain ⟨e, he⟩ := h.sects n
  rw [State.phaseOf, he]
  rfl

theorem readSet {s t : State} (h : SameScene s t) (k : Nat) : t.readSet k = s.readSet k := by
  rw [State.readSet, h.activeBank]
  rfl

theorem point {s t : State} (h : SameScene s t) (p : Nat) : t.point p = s.point p := by
  rw [State.point, h.image]
  rfl

theorem condHolds {s t : State} (h : SameScene s t) : t.condHolds = s.condHolds := by
  funext c
  have hread : ∀ p, t.readPoint p = s.readPoint p := fun p => by
    rw [State.readPoint, h.activeBank]
    rfl
  have hvalue : ∀ v, t.valuePasses c v = s.valuePasses c v := fun v => by simp only [State.valuePasses, hread]
  simp only [State.condHolds, h.point, hvalue]

theorem setHoldsOr {s t : State} (h : SameScene s t) (b : Bool) (o : Option Nat) : t.setHoldsOr b o = s.setHoldsOr b o := by
  cases o with
  | none => rfl
  | some k => simp only [State.setHoldsOr, State.setHolds, h.readSet, State.conditionsHold, h.condHolds]

theorem setNames {s t : State} (h : SameScene s t) (o : Option Nat) (p : Nat) : t.setNames o p = s.setNames o p := by
  cases o with
  | none => rfl
  | some k =>
    have hpoints : t.setPoints k = s.setPoints k := by simp only [State.setPoints, h.readSet]
    show decide (p ∈ t.setPoints k) = decide (p ∈ s.setPoints k)
    rw [hpoints]

theorem imageTasks {s t : State} (h : SameScene s t) (n : Nat) (r : SectionRec) (p : Nat) (old new : PointDyn) :
    t.imageTasks n r p old new = s.imageTasks n r p old new := by
  have hlevel : t.feedsLevel r p = s.feedsLevel r p := by simp only [State.feedsLevel, h.definedRec]
  have hhalt : t.imageHalt r p old new = s.imageHalt r p old new := by
    rw [State.imageHalt, State.imageHalt, h.setNames, h.setHoldsOr]
  have hreexamines : t.imageReexamines r p = s.imageReexamines r p := by
    simp only [State.imageReexamines, h.setNames, hlevel]
  rw [State.imageTasks, State.imageTasks, hhalt, hreexamines]

theorem activeFault (s : State) (e : EntryRef) : SameScene s (s.activeFault e) := by
  obtain ⟨hsects, hcampaign, _, hsteady, _⟩ := SameCourse.activeFault s e
  refine ⟨?_, hcampaign, hsteady, ?_, fun n => ⟨(s.sect n).runEmpty, ?_⟩⟩
  · unfold State.activeFault
    split
    · refine (foldl_keeps State.image (fun s (h : HeldRec) => s.refuse h.tel _) (fun u h => ?_) _ _).trans ?_
      · rw [State.refuse_eq]
        rfl
      · exact State.offerNotice_image_eq ..
    · rfl
  · rw [State.activeFault_mode]
    split
    · exact .inr rfl
    · exact .inl rfl
  · rw [State.sect, hsects]
    rfl

theorem checkReads (s : State) (l : List EntryRef) : SameScene s (s.checkReads l) := by
  unfold State.checkReads
  split
  · exact activeFault s _
  · exact refl s

theorem addTasks (s : State) (l : List Task) : SameScene s (s.addTasks l) :=
  ⟨rfl, rfl, rfl, .inl rfl, fun n => ⟨(s.sect n).runEmpty, rfl⟩⟩

theorem setRunEmpty (s : State) (n : Nat) (e : RunEmpty) : SameScene s (s.setSect n { s.sect n with runEmpty := e }) where
  image := rfl
  campaign := rfl
  steady := rfl
  mode := .inl rfl
  sects m := by
    rw [State.sect_setSect]
    split
    · next h => exact ⟨e, by rw [h]⟩
    · exact ⟨(s.sect m).runEmpty, rfl⟩

theorem takeFlow (s : State) (n : Nat) (r : SectionRec) (p : Nat) (new : PointDyn) : SameScene s (s.takeFlow n r p new) := by
  unfold State.takeFlow
  split
  · exact setRunEmpty s n _
  · exact refl s

end SameScene

/-! ### The sections at an image change -/

/-- What section `n` starts at an image change of point `p`. -/
def State.taken (s : State) (p : Nat) (old new : PointDyn) (n : Nat) : List Task :=
  match s.definedRec n with
  | some r => s.imageTasks n r p old new
  | none => []

theorem SameScene.taken {s t : State} (h : SameScene s t) (p : Nat) (old new : PointDyn) : t.taken p old new = s.taken p old new := by
  funext n
  simp only [State.taken, h.definedRec, h.imageTasks]

theorem State.sectionTakes_scene (p : Nat) (old new : PointDyn) (s : State) (n : Nat) :
    SameScene s (State.sectionTakes p old new s n) ∧
      (State.sectionTakes p old new s n).agenda = s.agenda ++ s.taken p old new n := by
  have hreads := SameScene.checkReads s (s.imageReads n)
  have hagenda := (SameCourse.checkReads s (s.imageReads n)).agenda
  unfold State.sectionTakes
  simp only
  generalize s.checkReads (s.imageReads n) = u at hreads hagenda
  cases hc : s.definedRec n with
  | none =>
    rw [(hreads.definedRec n).trans hc]
    refine ⟨hreads, ?_⟩
    rw [hagenda, State.taken, hc, List.append_nil]
  | some r =>
    rw [(hreads.definedRec n).trans hc]
    have hflow := hreads.trans (SameScene.takeFlow u n r p new)
    refine ⟨hflow.trans (SameScene.addTasks _ _), ?_⟩
    have hkeeps : (u.takeFlow n r p new).agenda = u.agenda := by
      unfold State.takeFlow
      split <;> rfl
    simp only [State.addTasks, State.taken, hc, hflow.imageTasks, hkeeps, hagenda]

theorem State.foldl_sectionTakes_scene (p : Nat) (old new : PointDyn) (l : List Nat) (s : State) :
    SameScene s (l.foldl (State.sectionTakes p old new) s) ∧
      (l.foldl (State.sectionTakes p old new) s).agenda = s.agenda ++ l.flatMap (s.taken p old new) := by
  induction l generalizing s with
  | nil => exact ⟨SameScene.refl s, (List.append_nil _).symm⟩
  | cons n l ih =>
    obtain ⟨hfirst, hagenda⟩ := State.sectionTakes_scene p old new s n
    obtain ⟨hrest, htasks⟩ := ih (State.sectionTakes p old new s n)
    refine ⟨hfirst.trans hrest, ?_⟩
    rw [List.foldl_cons, htasks, hagenda, hfirst.taken, List.flatMap_cons, List.append_assoc]

theorem State.takeLoad_scene (s : State) (p : Nat) (old new : PointDyn) :
    SameScene s (s.takeLoad p old new) ∧ ((s.takeLoad p old new).agenda = s.agenda ∨
      (s.takeLoad p old new).agenda = s.agenda ++ [.scan]) := by
  have hmoved : ∀ u : State, (u = s.loadRises p ∨ u = s.loadFalls p) →
      SameScene s u ∧ (u.agenda = s.agenda ∨ u.agenda = s.agenda ++ [.scan]) := by
    have hplain : ∀ u : State, u.image = s.image → u.campaign = s.campaign → u.steady = s.steady → u.mode = s.mode →
        u.sects = s.sects → SameScene s u := fun u himage hcampaign hsteady hmode hsects =>
      ⟨himage, hcampaign, hsteady, .inl hmode, fun n => ⟨(s.sect n).runEmpty, by rw [State.sect, hsects]; rfl⟩⟩
    rintro u (rfl | rfl)
    · unfold State.loadRises
      simp only
      split_ifs
      · exact ⟨hplain _ rfl rfl rfl rfl rfl, .inl rfl⟩
      · exact ⟨hplain _ rfl rfl rfl rfl rfl, .inr rfl⟩
    · unfold State.loadFalls
      simp only
      split_ifs
      · exact ⟨hplain _ rfl rfl rfl rfl rfl, .inl rfl⟩
      · exact ⟨hplain _ rfl rfl rfl rfl rfl, .inr rfl⟩
  unfold State.takeLoad
  split
  · exact ⟨SameScene.refl s, .inl rfl⟩
  · simp only
    obtain ⟨hscene, hagenda⟩ := hmoved (if s.countsInLoad p new then s.loadRises p else s.loadFalls p) (by
      split
      · exact .inl rfl
      · exact .inr rfl)
    exact ⟨hscene.trans (SameScene.checkReads _ _), (SameCourse.checkReads ..).agenda.symm ▸ hagenda⟩

/-- What an image change leaves and starts. -/
theorem State.imageChanged_scene (s : State) (p : Nat) (old : PointDyn) :
    SameScene s (s.imageChanged p old) ∧ ∃ l, (l = [] ∨ l = [.scan]) ∧ (s.imageChanged p old).agenda =
      s.agenda ++ l ++ sectionNumbers.flatMap (s.taken p old (s.point p)) ++ [.scan] := by
  obtain ⟨hload, hscans⟩ := State.takeLoad_scene s p old (s.point p)
  obtain ⟨hsections, htasks⟩ := State.foldl_sectionTakes_scene p old (s.point p) sectionNumbers (s.takeLoad p old (s.point p))
  rw [hload.taken] at htasks
  unfold State.imageChanged
  generalize sectionNumbers.foldl (State.sectionTakes p old (s.point p)) (s.takeLoad p old (s.point p)) = u at hsections htasks
  refine ⟨(hload.trans hsections).trans (SameScene.addTasks u [.scan]), ?_⟩
  have hend : u.startScan.agenda = u.agenda ++ [.scan] := rfl
  rcases hscans with h | h
  · exact ⟨[], .inl rfl, by rw [hend, htasks, h, List.append_nil]⟩
  · exact ⟨[.scan], .inr rfl, by rw [hend, htasks, h]⟩

/-! ### The tasks of an image change -/

theorem State.mem_imageTasks {s : State} {n : Nat} {r : SectionRec} {p : Nat} {old new : PointDyn} {x : Task} :
    x ∈ s.imageTasks n r p old new ↔
      (∃ c, x = .halt n c ∧ s.imageHalt r p old new = some c) ∨ (x = .reexamine n ∧ s.imageReexamines r p = true) := by
  rw [State.imageTasks, List.mem_append]
  refine or_congr ?_ ?_
  · cases s.imageHalt r p old new <;> simp
  · split <;> simp_all

theorem State.mem_taken {s : State} {p : Nat} {old new : PointDyn} {x : Task} :
    x ∈ sectionNumbers.flatMap (s.taken p old new) ↔ ∃ n < 16, ∃ r, s.definedRec n = some r ∧
      ((∃ c, x = .halt n c ∧ s.imageHalt r p old new = some c) ∨ (x = .reexamine n ∧ s.imageReexamines r p = true)) := by
  rw [List.mem_flatMap]
  constructor
  · rintro ⟨n, hn, hx⟩
    rw [State.taken] at hx
    cases hc : s.definedRec n with
    | none =>
      rw [hc] at hx
      cases hx
    | some r =>
      rw [hc] at hx
      exact ⟨n, List.mem_range.1 hn, r, hc, State.mem_imageTasks.1 hx⟩
  · rintro ⟨n, hn, r, hc, hx⟩
    refine ⟨n, List.mem_range.2 hn, ?_⟩
    rw [State.taken, hc]
    exact State.mem_imageTasks.2 hx

theorem State.setNames_iff (s : State) (o : Option Nat) (p : Nat) : s.setNames o p = true ↔ setNamesPoint s o p := by
  cases o with
  | none => simp [State.setNames, setNamesPoint]
  | some k => cases hread : s.readSet k <;> simp [State.setNames, State.setPoints, setNamesPoint, hread]

/-! ### With nothing held -/

/-- What stands with nothing held is all but what the consequences of an event may change. -/
theorem sameButCascade_of {s t : State} (hsteady : t.steady = s.steady) (hheld : t.held = s.held)
    (hremaining : t.remaining = s.remaining) (hreserve : t.unusedReserve = s.unusedReserve) (hcapture : t.capture = s.capture)
    (hmore : t.moreRefusals = s.moreRefusals) : sameButCascade s t := by
  obtain ⟨⟩ := s
  obtain ⟨⟩ := t
  simp only [State.steady, Steady.mk.injEq] at hsteady
  simp only at hheld hremaining hreserve hcapture hmore
  simp only [sameButCascade, hsteady, hheld, hremaining, hreserve, hcapture, hmore]

/-! ### The stale timer (R15, R65) -/

/-- A point that becomes STALE keeps the rest of its entry. -/
def State.staled (s : State) (p : Nat) : State := s.setPoint p { s.point p with fresh := false }

theorem State.staled_point (s : State) (p q : Nat) :
    (s.staled p).point q = if q = p then { s.point p with fresh := false } else s.point q := State.point_setPoint ..

/-- Staleness moves nothing of the load account. -/
theorem State.staled_takeLoad (s : State) (p : Nat) :
    (s.staled p).takeLoad p (s.point p) ((s.staled p).point p) = s.staled p := by
  refine if_pos ?_
  rw [State.staled_point, if_pos rfl]
  rfl

theorem State.makeStale_fresh {s : State} {p : Nat} (h : (s.point p).fresh = true) :
    s.makeStale p = (s.staled p).imageChanged p (s.point p) := if_pos h

theorem Stands.staled (s : State) (p : Nat) : Stands (s.staled p) ((s.staled p).imageChanged p (s.point p)) := by
  unfold State.imageChanged
  rw [State.staled_takeLoad]
  generalize sectionNumbers = l
  exact (Stands.foldl _ (fun s m => Stands.sectionTakes _ _ _ _ _) _ _).trans
    fun h => ⟨h, rfl, rfl, rfl, rfl, rfl, rfl, rfl, rfl⟩

theorem Bank.storedIndexOf_some {b : Bank} {p i : Nat} : b.storedIndexOf p = some i ↔ windowNumber b p i := by
  rw [Bank.storedIndexOf, List.find?_range_eq_some]
  simp only [windowNumber, Bool.not_eq_true', List.mem_range, Bank.win, and_left_comm]

theorem State.exec_stale {s : State} (h : s.atRest) (p : Nat) :
    exec (.staleTimerExpiry p) s = .next (s.staleExpires p).settled := by
  change Host.Outcome.next (State.settled _) = _
  rw [State.outOfReset_atRest h]

theorem State.staleDue_iff {s : State} {p i : Nat} (hi : windowNumber s.activeBank p i) : s.staleDue p = true ↔
    (s.point p).fresh = true ∧ ∃ rep, (s.point p).report = some rep ∧
      10 * (s.activeBank.win i).staleLimit ≤ (s.clock - rep.time).toNat := by
  have hwindow : s.activeBank.storedWindowOf p = some (s.activeBank.win i) := by
    rw [Bank.storedWindowOf, Bank.storedIndexOf_some.2 hi]
    rfl
  rw [State.staleDue, hwindow, Bool.and_eq_true]
  refine and_congr_right fun _ => ?_
  cases (s.point p).report with
  | none => simp
  | some rep =>
    constructor
    · exact fun h => ⟨rep, rfl, of_decide_eq_true h⟩
    · rintro ⟨other, hother, h⟩
      obtain rfl := Option.some.inj hother
      exact decide_eq_true h

/-- LOST_SIGNAL at the sections whose trip set names a point that becomes STALE. -/
theorem State.imageHalt_stale {s : State} {r : SectionRec} {p : Nat} {old new : PointDyn} (hold : old.fresh = true)
    (hnew : new.fresh = false) {c : HaltCause} :
    s.imageHalt r p old new = some c ↔ setNamesPoint s r.tripSet p ∧ c = .lostSignal := by
  rw [State.imageHalt, ← State.setNames_iff]
  by_cases hnames : s.setNames r.tripSet p = true
  · simp [hnames, hold, hnew, eq_comm]
  · simp [hnames]

/-- What an image change starts halts a section only by what it starts at that section. -/
theorem State.awaiting_of_agenda {s : State} {n : Nat} {c : HaltCause} {C : HaltCause → Prop} (hstands : Task.halt n c ∈ s.agenda)
    (hall : ∀ x ∈ s.agenda, x = .scan ∨ (∃ m < 16, x = .reexamine m) ∨ ∃ m < 16, ∃ d, x = .halt m d ∧ (m = n → C d)) :
    Awaiting n C (.halt n c) s ∧ s.agenda.countP Task.isTrips = 0 := by
  refine ⟨⟨hstands, fun x hx => ?_, fun x hx _ d hd => ?_⟩, List.countP_eq_zero.2 fun x hx => ?_⟩
  · rcases hall x hx with rfl | ⟨m, hm, rfl⟩ | ⟨m, hm, d, rfl, _⟩
    · exact trivial
    · exact hm
    · exact hm
  · rcases hall x hx with rfl | ⟨m, hm, rfl⟩ | ⟨m, hm, d', rfl, hd'⟩
    · rcases hd with h | h <;> cases h
    · rcases hd with h | h <;> cases h
    · rcases hd with h | h
      · obtain ⟨rfl, rfl⟩ := Task.halt.inj h
        exact hd' rfl
      · cases h
  · rcases hall x hx with rfl | ⟨m, hm, rfl⟩ | ⟨m, hm, d, rfl, _⟩ <;> exact fun h => (by cases h)

/-- Settles O42. -/
theorem staleTimerMakesThePointStale : Obligations.StaleTimerMakesThePointStale := by
  unfold Obligations.StaleTimerMakesThePointStale
  intro s p hrest
  have hquiet := hrest.2
  rw [State.exec_stale hrest]
  refine ⟨fun hbefore => ?_, fun rep i hfresh hrep hi hdue => ?_⟩
  · have hnot : s.staleExpires p = s := by
      unfold State.staleExpires
      cases hindex : s.activeBank.storedIndexOf p with
      | none => rfl
      | some i =>
        have hi := Bank.storedIndexOf_some.1 hindex
        refine if_neg fun hdue => ?_
        obtain ⟨hfresh, rep, hrep, htime⟩ := (State.staleDue_iff hi).1 hdue
        rcases hbefore with h | h
        · rw [hfresh] at h
          cases h
        · exact absurd htime (Nat.not_le.2 (h rep i hrep hi))
    rw [hnot, State.settled_of_quiet s hquiet]
  · have hexpires : s.staleExpires p = s.ifReadable ⟨.windows, i⟩ (fun s => s.makeStale p) := by
      simp only [State.staleExpires, Bank.storedIndexOf_some.2 hi]
      exact if_pos ((State.staleDue_iff hi).2 ⟨hfresh, rep, hrep, hdue⟩)
    refine ⟨fun hbad => ?_, fun hgood => ?_⟩
    · rw [hexpires, State.ifReadable_damaged _ _ _ hbad,
        State.settled_of_quiet _ ((State.activeFault_agenda ..).trans hquiet)]
    · rw [hexpires, State.ifReadable_good _ _ _ hgood, State.makeStale_fresh hfresh]
      obtain ⟨hscene, scans, hscans, hagenda⟩ := State.imageChanged_scene (s.staled p) p (s.point p)
      have hstands := (Stands.staled s p).trans (Stands.cascading.settled _)
      have hreports := (KeepsReports.imageChanged (s.staled p) p (s.point p)).trans (KeepsReports.cascading.settled _)
      have hself : (s.staled p).point p = { s.point p with fresh := false } := (State.staled_point s p p).trans (if_pos rfl)
      have hother : ∀ q, q ≠ p → (s.staled p).point q = s.point q := fun q hq =>
        (State.staled_point s p q).trans (if_neg hq)
      refine ⟨_, rfl, ?_, ?_, ?_, fun q hq => ?_, fun n hn c hc htrip hphase => ?_, fun hheld => ?_⟩
      · rw [(hreports p).2.1, hself]
      · rw [(hreports p).1, hself]
        exact hrep
      · rw [(hreports p).2.2, hself]
      · rw [← hother q hq]
        exact hreports q
      · have hlost : Task.halt n .lostSignal ∈ ((s.staled p).imageChanged p (s.point p)).agenda := by
          rw [hagenda]
          refine List.mem_append_left _ (List.mem_append_right _ (State.mem_taken.2 ⟨n, hn, c, hc, .inl ⟨_, rfl, ?_⟩⟩))
          exact (State.imageHalt_stale hfresh (congrArg PointDyn.fresh hself)).2 ⟨htrip, rfl⟩
        obtain ⟨hawait, htrips⟩ := State.awaiting_of_agenda
          (C := fun h => h ∈ [HaltCause.lostSignal, .needLost, .feedStop]) hlost fun x hx => by
            rw [hagenda, show (s.staled p).agenda = [] from hquiet] at hx
            rcases List.mem_append.1 hx with hx | hx
            · rcases List.mem_append.1 hx with hx | hx
              · rcases hscans with rfl | rfl
                · cases hx
                · exact .inl (List.mem_singleton.1 hx)
              · obtain ⟨m, hm, r, _, ⟨d, rfl, hd⟩ | ⟨rfl, _⟩⟩ := State.mem_taken.1 hx
                · obtain ⟨_, rfl⟩ := (State.imageHalt_stale hfresh (congrArg PointDyn.fresh hself)).1 hd
                  exact .inr (.inr ⟨m, hm, _, rfl, fun _ => List.mem_cons_self ..⟩)
                · exact .inr (.inl ⟨m, hm, rfl⟩)
            · exact .inl (List.mem_singleton.1 hx)
        have hreach : haltReaches .lostSignal (((s.staled p).imageChanged p (s.point p)).phaseOf n) = true := by
          rw [hscene.phaseOf, show (s.staled p).phaseOf n = s.phaseOf n from rfl]
          rcases hphase with h | h <;> rw [h] <;> rfl
        obtain ⟨h, hC, hend⟩ := State.settled_halts (.inl rfl) (fun _ => ⟨by simp, by simp⟩) hawait hreach (by omega)
        refine ⟨h, hC, hend.trans ?_⟩
        rw [hscene.clock]
        rfl
      · obtain ⟨hnone, himage, hload, hpledge, hremaining, hreserve, hcapture, hmore, hsteady⟩ := hstands hheld
        have hpoints : ∀ q, ((s.staled p).imageChanged p (s.point p)).settled.point q = (s.staled p).point q := fun q => by
          rw [State.point, himage]
          rfl
        refine ⟨sameButCascade_of hsteady (hnone.trans hheld.symm) hremaining hreserve hcapture hmore, hload, hpledge,
          (hpoints p).trans hself, fun q hq => (hpoints q).trans (hother q hq)⟩

end Sys2Proof.Machine
end

section

/-! PROOF. The feeders of a section that is halted: FEED_STOP (R69). -/

namespace Sys2Proof.Machine

/-! ### What a task leaves of the campaign mode and of a working feeder -/

theorem State.runTask_campaign {s : State} {t : Task} (hlive : s.isInert t = false) (hscan : t ≠ .scan)
    (hcompletion : t ≠ .completion) : (s.runTask t).campaign = s.campaign := by
  have hhalt : ∀ m d, haltReaches d (s.phaseOf m) = true → (s.takeHalt m d).campaign = s.campaign := fun m d hreach => by
    obtain ⟨u, l, hu, heq, _⟩ := State.takeHalt_course hreach
    rw [heq]
    exact hu.campaign
  cases t with
  | halt m d => exact hhalt m d (by simpa [State.isInert] using hlive)
  | haltFirst m d => exact hhalt m d (by simpa [State.isInert] using hlive)
  | reexamine m =>
    rcases State.reexamine_course hlive with ⟨u, p, hu, hp, heq⟩ | ⟨hsame, _, _⟩
    · show (s.reexamine m).campaign = _
      rw [heq]
      exact hu.campaign
    · exact hsame.campaign
  | tripActions m => exact (SameCourse.issueTrips s m).campaign
  | completion => exact absurd rfl hcompletion
  | scan => exact absurd rfl hscan

/-- A section is READY or RUNNING. -/
def State.delivers (s : State) (m : Nat) : Prop := s.phaseOf m = .ready ∨ s.phaseOf m = .running

/-- Outside WIND_DOWN a section that is READY or RUNNING stays so through a task that does not halt it. -/
theorem State.runTask_delivers {s : State} {t : Task} {m : Nat} (hlive : s.isInert t = false) (hscan : t ≠ .scan)
    (hcompletion : t ≠ .completion) (hhalts : ∀ c, ¬ t.haltsWith m c) (hcampaign : s.campaign ≠ .windDown)
    (hdelivers : s.delivers m) : (s.runTask t).delivers m := by
  have hphase : (s.runTask t).phaseOf m = s.phaseOf m → (s.runTask t).delivers m := fun h => by
    rw [State.delivers, h]
    exact hdelivers
  by_cases hre : t = .reexamine m
  · subst hre
    rcases State.reexamine_course hlive with ⟨u, p, hu, hp, heq⟩ | ⟨hsame, _, _⟩
    · have hmoved : (s.runTask (.reexamine m)).phaseOf m = p := by
        show (s.reexamine m).phaseOf m = p
        rw [heq]
        exact (hu.phaseOf m).trans ((State.phaseOf_setSect ..).trans (if_pos rfl))
      rw [State.delivers, hmoved]
      rcases hdelivers with h | h <;> rw [h] at hp <;> cases hc : s.campaign <;> rw [hc] at hp <;> simp [eligibleTarget] at hp
      · exact .inr hp.symm
      · exact absurd hc hcampaign
    · exact hphase (hsame.phaseOf m)
  · exact hphase (congrArg SectionDyn.phase (State.runTask_sect hlive hscan hcompletion hre hhalts))

/-- The entry to HALTED starts FEED_STOP at a feeder that is no STORE. -/
theorem State.takeHalt_feedStop {s : State} {n m : Nat} {d : HaltCause} {r : SectionRec}
    (hreach : haltReaches d (s.phaseOf n) = true) (hm : m < 16) (hr : s.definedRec m = some r) (hfeeds : n ∈ r.feeds)
    (hrole : r.role ≠ .store) : Task.halt m .feedStop ∈ (s.takeHalt n d).agenda := by
  obtain ⟨u, hu, heq⟩ := s.changePhase_course n .halted (some d)
  have hrec : (u.addTasks (u.changeTasks n .halted)).definedRec m = some r :=
    (State.definedRec_of_activeBank (State.activeBank_of_steady (s := s) (t := u) hu.steady) m).trans hr
  rw [State.takeHalt, if_pos hreach, State.enterHalted, heq]
  refine List.mem_append_right _ (List.mem_cons_of_mem _ (List.mem_append_right _ (List.mem_map.2 ⟨m, ?_, rfl⟩)))
  refine List.mem_filter.2 ⟨(State.mem_feeders _ _ _).2 ⟨hm, r, hrec, hfeeds⟩, ?_⟩
  rw [hrec]
  simpa using hrole

theorem State.runTask_feedStop {s : State} {t : Task} {n m : Nat} {d : HaltCause} {r : SectionRec} (hlive : s.isInert t = false)
    (hhalts : t.haltsWith n d) (hm : m < 16) (hr : s.definedRec m = some r) (hfeeds : n ∈ r.feeds) (hrole : r.role ≠ .store) :
    Task.halt m .feedStop ∈ (s.runTask t).agenda := by
  have hreach : haltReaches d (s.phaseOf n) = true := by
    rw [State.isInert_halt hhalts] at hlive
    simpa using hlive
  rcases hhalts with rfl | rfl <;> exact State.takeHalt_feedStop hreach hm hr hfeeds hrole

/-! ### FEED_STOP is taken -/

/-- Section `m` feeds section `n` and is no STORE. -/
def State.feedsWorking (s : State) (n m : Nat) : Prop := m < 16 ∧ ∃ r, s.definedRec m = some r ∧ n ∈ r.feeds ∧ r.role ≠ .store

theorem settle_feedStops {n m : Nat} {t : Task} {c : HaltCause} (hhalt : t.haltsWith n c) :
    ∀ (fuel : Nat) (s : State), s.course < fuel → Awaiting n (fun _ => True) t s → haltReaches c (s.phaseOf n) = true →
      s.campaign ≠ .windDown → s.delivers m → s.feedsWorking n m → ∃ h, (settle fuel s).sect m = haltedAt s.clock h := by
  intro fuel
  induction fuel with
  | zero => exact fun s h => absurd h (Nat.not_lt_zero _)
  | succ fuel ih =>
    intro s hfuel hawait hreach hcampaign hdelivers hfeeds
    obtain ⟨hm, r, hr, hin, hrole⟩ := id hfeeds
    obtain ⟨u, x, heq, hstep⟩ := settle_haltStep hhalt fuel hawait.stands hreach
    have hwithin := hawait.within x hstep.taken
    have hcourse := hstep.runTask_course hwithin
    have hrec : u.definedRec m = some r := (State.definedRec_of_activeBank (State.activeBank_of_steady hstep.steady) m).trans hr
    have hbefore : u.delivers m := by
      rw [State.delivers, hstep.phaseOf]
      exact hdelivers
    rw [heq]
    by_cases hself : ∃ d, x.haltsWith m d
    · obtain ⟨d, hd⟩ := hself
      have hnow := State.runTask_halts hstep.live hd
      have hstays := (KeepsHalted.cascading m).settle fuel (u.runTask x) (by rw [State.phaseOf, hnow]; rfl)
      exact ⟨d, by rw [hstays, hnow, hstep.clock]⟩
    · have hself : ∀ d, ¬ x.haltsWith m d := fun d hd => hself ⟨d, hd⟩
      have hafter : (u.runTask x).delivers m := State.runTask_delivers hstep.live hstep.scan hstep.completion hself
        (by rw [hstep.campaign]; exact hcampaign) hbefore
      by_cases hxhalts : ∃ d, x.haltsWith n d
      · obtain ⟨d, hd⟩ := hxhalts
        have hwithin' : ∀ y ∈ (u.runTask x).agenda, y.within := fun y hy => by
          obtain ⟨l, hl, hlin, _⟩ := State.runTask_agenda hstep.live hstep.scan hstep.completion hwithin
          rw [hl] at hy
          rcases List.mem_append.1 hy with hy | hy
          · exact hawait.within y (hstep.agenda y hy)
          · exact hlin y hy
        obtain ⟨h, _, hend⟩ := settle_halts (C := fun _ => True) (.inl rfl) (fun _ => ⟨trivial, trivial⟩) fuel (u.runTask x)
          (by omega) ⟨State.runTask_feedStop hstep.live hd hm hrec hin hrole, hwithin', fun _ _ _ _ _ => trivial⟩
          (by rcases hafter with h | h <;> rw [h] <;> rfl)
        exact ⟨h, by rw [hend, hstep.runTask_clock]⟩
      · have hxhalts : ∀ d, ¬ x.haltsWith n d := fun d hd => hxhalts ⟨d, hd⟩
        have hkeeps : (u.runTask x).campaign = s.campaign :=
          (State.runTask_campaign hstep.live hstep.scan hstep.completion).trans hstep.campaign
        have hbank : (u.runTask x).activeBank = s.activeBank :=
          State.activeBank_of_steady ((State.runTask_steady u x).trans hstep.steady)
        obtain ⟨h, hend⟩ := ih (u.runTask x) (by omega)
          (hstep.awaiting (fun _ => ⟨trivial, trivial⟩) hhalt hawait hxhalts)
          (by rw [hstep.runTask_phaseOf hxhalts]; exact hreach) (by rw [hkeeps]; exact hcampaign) hafter
          ⟨hm, r, (State.definedRec_of_activeBank hbank m).trans hr, hin, hrole⟩
        exact ⟨h, by rw [hend, hstep.runTask_clock]⟩

/-- An event with a halt that reaches a section ends with the section's feeders HALTED, where they are READY or RUNNING and no
STORE, outside WIND_DOWN. -/
theorem State.settled_feedStops {n m : Nat} {t : Task} {c : HaltCause} (hhalt : t.haltsWith n c) {s : State}
    (hawait : Awaiting n (fun _ => True) t s) (hreach : haltReaches c (s.phaseOf n) = true)
    (htrips : s.agenda.countP Task.isTrips < 1000) (hcampaign : s.campaign ≠ .windDown) (hdelivers : s.delivers m)
    (hfeeds : s.feedsWorking n m) : ∃ h, s.settled.sect m = haltedAt s.clock h := by
  have hcourse := s.course_le
  refine settle_feedStops hhalt _ s ?_ hawait hreach hcampaign hdelivers hfeeds
  unfold Config.settleBound
  omega

end Sys2Proof.Machine
end

section

/-! PROOF. A covered report: its imaging, what that moves and starts, and where the event ends (R11 to R14). -/

namespace Sys2Proof.Machine

/-! ### What no read and no section moves: the load account and the entries -/

/-- The load account, the entries and the pledge sum stand. -/
structure SameAccount (s t : State) : Prop where
  load : t.load = s.load
  entries : t.entries = s.entries
  pledgeSum : t.pledgeSum = s.pledgeSum

namespace SameAccount

theorem refl (s : State) : SameAccount s s := ⟨rfl, rfl, rfl⟩

theorem trans {s t u : State} (h : SameAccount s t) (h' : SameAccount t u) : SameAccount s u :=
  ⟨h'.load.trans h.load, h'.entries.trans h.entries, h'.pledgeSum.trans h.pledgeSum⟩

theorem foldl {α : Type} {f : State → α → State} (hf : ∀ s x, SameAccount s (f s x)) (l : List α) (s : State) :
    SameAccount s (l.foldl f s) := by
  induction l generalizing s with
  | nil => exact refl s
  | cons x l ih => exact (hf s x).trans (ih _)

theorem activeFault (s : State) (e : EntryRef) : SameAccount s (s.activeFault e) := by
  have hrefuse : ∀ (u : State) (h : HeldRec) (r : RefusalReason), SameAccount u (u.refuse h.tel r) := fun u h r => by
    rw [State.refuse_eq]
    exact ⟨rfl, rfl, rfl⟩
  unfold State.activeFault
  split
  · refine trans ?_ (foldl (fun u h => hrefuse u h _) _ _)
    rw [State.offerNotice_frame]
    exact ⟨rfl, rfl, rfl⟩
  · exact refl s

theorem checkReads (s : State) (l : List EntryRef) : SameAccount s (s.checkReads l) := by
  unfold State.checkReads
  split
  · exact activeFault s _
  · exact refl s

theorem takeFlow (s : State) (n : Nat) (r : SectionRec) (p : Nat) (new : PointDyn) : SameAccount s (s.takeFlow n r p new) := by
  unfold State.takeFlow
  split <;> exact ⟨rfl, rfl, rfl⟩

theorem sectionTakes (p : Nat) (old new : PointDyn) (s : State) (n : Nat) : SameAccount s (State.sectionTakes p old new s n) := by
  unfold State.sectionTakes
  simp only
  split
  · exact ((checkReads s _).trans (takeFlow _ n _ p new)).trans ⟨rfl, rfl, rfl⟩
  · exact checkReads s _

theorem loseFlow (p : Nat) (s : State) (n : Nat) : SameAccount s (State.loseFlow p s n) := by
  unfold State.loseFlow
  split
  · simp only
    split
    · exact (checkReads s _).trans (takeFlow _ n _ p _)
    · exact checkReads s _
  · exact refl s

theorem takeLevel (s : State) (p : Nat) (v : Word) : SameAccount s (s.takeLevel p v) :=
  (checkReads s sectionRefs).trans ⟨rfl, rfl, rfl⟩

end SameAccount

/-! ### An image change in the load account (R111, R113) -/

theorem releasePledge_eq (p : Nat) (es : List Entry) : releasePledge p es =
    es.map (fun e => if e.part = .general ∧ e.logical = some p then { e with pledge := none } else e) := by
  refine List.map_congr_left fun e _ => ?_
  simp only [Bool.and_eq_true, beq_iff_eq]

theorem pledgesOf_eq (p : Nat) (es : List Entry) : pledgesOf p es =
    ((es.filter (fun e => decide (e.part = .general ∧ e.logical = some p))).map (fun e => e.pledge.getD 0)).sum := by
  have hfilter : (fun e : Entry => e.part == .general && e.logical == some p) =
      fun e => decide (e.part = .general ∧ e.logical = some p) := by
    funext e
    rw [Bool.eq_iff_iff]
    simp
  rw [pledgesOf, hfilter]
  rfl

/-- What the load account takes of a change from `old` to a report of state `rs`. -/
theorem State.takeLoad_moves {s v : State} {p : Nat} {st : PointStatic} {rs : ReportState} {new : PointDyn}
    (hcls : (s.activeBank.pointStatic p).content.cls = st.cls)
    (hload : (s.activeBank.pointStatic p).content.ratedLoad = st.ratedLoad) (hbank : v.activeBank = s.activeBank)
    (haccount : SameAccount s v) (hnew : new.isOn = true ↔ rs = .starting ∨ rs = .running) :
    loadMoves s (v.takeLoad p (s.point p) new) p st rs := by
  have hcounts : ∀ d, v.countsInLoad p d = (st.cls == .drive && d.isOn) := fun d => by
    rw [State.countsInLoad, hbank, hcls]
  unfold State.takeLoad loadMoves
  rw [hcounts, hcounts]
  obtain ⟨hl, he, hp⟩ := haccount
  by_cases hdrive : st.cls = .drive
  · rw [hdrive, beq_self_eq_true, Bool.true_and, Bool.true_and]
    simp only [true_and]
    cases hold : (s.point p).isOn with
    | false =>
      cases hon : new.isOn with
      | false =>
        have hoff : ¬ (rs = .starting ∨ rs = .running) := fun h => (by rw [hnew.2 h] at hon; cases hon)
        rw [if_pos rfl, if_neg (fun h => hoff h.2), if_neg (fun h => (by cases h.1))]
        exact ⟨hl, he, hp⟩
      | true =>
        rw [if_pos (show false = false ∧ _ from ⟨rfl, hnew.1 hon⟩), if_neg (show ¬ false = true from Bool.false_ne_true),
          if_pos (show true = true from rfl)]
        have hchecks := SameAccount.checkReads (v.loadRises p) [⟨.points, p⟩]
        rw [hchecks.load, hchecks.entries, hchecks.pledgeSum]
        have hrises : (v.loadRises p).load = v.load + (v.activeBank.pointStatic p).content.ratedLoad ∧
            (v.loadRises p).entries = releasePledge p v.entries ∧
            (v.loadRises p).pledgeSum = v.pledgeSum - pledgesOf p v.entries := by
          unfold State.loadRises
          simp only
          split <;> exact ⟨rfl, rfl, rfl⟩
        obtain ⟨h1, h2, h3⟩ := hrises
        rw [h1, h2, h3, hl, he, hp, hbank, hload, releasePledge_eq, pledgesOf_eq]
        exact ⟨rfl, rfl, rfl⟩
    | true =>
      cases hon : new.isOn with
      | false =>
        have hoff : ¬ (rs = .starting ∨ rs = .running) := fun h => (by rw [hnew.2 h] at hon; cases hon)
        rw [if_neg (show ¬ (true = false ∧ _) from fun h => Bool.true_eq_false_eq_False h.1),
          if_pos (show true = true ∧ _ from ⟨rfl, hoff⟩), if_neg (show ¬ true = false from Bool.true_eq_false_eq_False),
          if_neg (show ¬ false = true from Bool.false_ne_true)]
        have hchecks := SameAccount.checkReads (v.loadFalls p) [⟨.points, p⟩]
        rw [hchecks.load, hchecks.entries, hchecks.pledgeSum]
        have hfalls : (v.loadFalls p).load = v.load - (v.activeBank.pointStatic p).content.ratedLoad ∧
            (v.loadFalls p).entries = v.entries ∧ (v.loadFalls p).pledgeSum = v.pledgeSum := by
          unfold State.loadFalls
          simp only
          split <;> exact ⟨rfl, rfl, rfl⟩
        obtain ⟨h1, h2, h3⟩ := hfalls
        rw [h1, h2, h3, hl, he, hp, hbank, hload]
        exact ⟨rfl, rfl, rfl⟩
      | true =>
        rw [if_pos rfl, if_neg (fun h => (by cases h.1)), if_neg (fun h => h.2 (hnew.1 hon))]
        exact ⟨hl, he, hp⟩
  · have hnone : (st.cls == PointClass.drive) = false := beq_eq_false_iff_ne.2 hdrive
    rw [hnone, Bool.false_and, Bool.false_and, if_pos rfl, if_neg (fun h => hdrive h.1), if_neg (fun h => hdrive h.1)]
    exact ⟨hl, he, hp⟩

theorem loadMoves.account {s u w : State} {p : Nat} {st : PointStatic} {rs : ReportState} (h : loadMoves s u p st rs)
    (hsame : SameAccount u w) : loadMoves s w p st rs := by
  unfold loadMoves at h ⊢
  rw [hsame.load, hsame.entries, hsame.pledgeSum]
  exact h

/-! ### Reports that repeat, and STORE levels (R37, R70) -/

theorem SameScene.loseFlow (p : Nat) (s : State) (n : Nat) :
    SameScene s (State.loseFlow p s n) ∧ (State.loseFlow p s n).agenda = s.agenda := by
  have hreads := SameScene.checkReads s [⟨.sections, n⟩]
  have hagenda := (SameCourse.checkReads s [⟨.sections, n⟩]).agenda
  unfold State.loseFlow
  split
  · simp only
    split
    · refine ⟨hreads.trans (SameScene.takeFlow _ n _ p _), ?_⟩
      rw [← hagenda]
      unfold State.takeFlow
      split <;> rfl
    · exact ⟨hreads, hagenda⟩
  · exact ⟨SameScene.refl s, rfl⟩

theorem State.repeatFlow_scene (s : State) (p : Nat) : SameScene s (s.repeatFlow p) ∧ (s.repeatFlow p).agenda = s.agenda := by
  unfold State.repeatFlow
  generalize sectionNumbers = l
  induction l generalizing s with
  | nil => exact ⟨SameScene.refl s, rfl⟩
  | cons n l ih =>
    obtain ⟨hfirst, hagenda⟩ := SameScene.loseFlow p s n
    obtain ⟨hrest, hagenda'⟩ := ih (State.loseFlow p s n)
    exact ⟨hfirst.trans hrest, hagenda'.trans hagenda⟩

/-- The halts a full STORE starts. -/
def State.levelTasks (s : State) (p : Nat) (v : Word) : List Task :=
  ((sectionNumbers.filter (s.storeFull p v)).flatMap s.feeders).map (fun m => Task.halt m .storeFull)

theorem SameScene.levelTasks {s t : State} (h : SameScene s t) (p : Nat) (v : Word) : t.levelTasks p v = s.levelTasks p v := by
  have hfull : t.storeFull p v = s.storeFull p v := by
    funext m
    simp only [State.storeFull, h.definedRec, h.phaseOf]
  have hfeeders : t.feeders = s.feeders := by
    funext m
    simp only [State.feeders, h.definedRec]
  rw [State.levelTasks, State.levelTasks, hfull, hfeeders]

theorem State.takeLevel_scene (s : State) (p : Nat) (v : Word) :
    SameScene s (s.takeLevel p v) ∧ (s.takeLevel p v).agenda = s.agenda ++ s.levelTasks p v := by
  have hreads := SameScene.checkReads s sectionRefs
  have hagenda := (SameCourse.checkReads s sectionRefs).agenda
  have hlevel : s.takeLevel p v = (s.checkReads sectionRefs).addTasks ((s.checkReads sectionRefs).levelTasks p v) := rfl
  rw [hlevel, hreads.levelTasks]
  refine ⟨hreads.trans (SameScene.addTasks _ _), ?_⟩
  rw [← hagenda]
  rfl

theorem State.storeFull_iff (s : State) (p : Nat) (v : Word) (m : Nat) : s.storeFull p v m = true ↔
    ∃ f l, s.definedRec m = some f ∧ f.role = .store ∧ s.phaseOf m = .running ∧ f.level = some l ∧ l.point = p ∧
      l.high.toInt ≤ v.toInt := by
  rw [State.storeFull]
  cases hf : s.definedRec m with
  | none => simp
  | some f => cases hl : f.level <;> simp [and_assoc, hl]

theorem State.mem_levelTasks {s : State} {p : Nat} {v : Word} {x : Task} :
    x ∈ s.levelTasks p v ↔ ∃ n, x = .halt n .storeFull ∧ storeFills s n p v := by
  simp only [State.levelTasks, List.mem_map, List.mem_flatMap, List.mem_filter, sectionNumbers, List.mem_range,
    State.storeFull_iff, State.mem_feeders, storeFills]
  constructor
  · rintro ⟨n, ⟨m, ⟨hm, f, l, hf, hrole, hphase, hl, hp, hv⟩, hn, c, hc, hin⟩, rfl⟩
    exact ⟨n, rfl, hn, c, m, f, l, hc, hin, hm, hf, hrole, hphase, hl, hp, hv⟩
  · rintro ⟨n, rfl, hn, c, m, f, l, hc, hin, hm, hf, hrole, hphase, hl, hp, hv⟩
    exact ⟨n, ⟨m, ⟨hm, f, l, hf, hrole, hphase, hl, hp, hv⟩, hn, c, hc, hin⟩, rfl⟩

/-! ### Imaging (R12, R13) -/

/-- The image with the report taken, and nothing else. -/
def State.imagedAt (s : State) (p : Nat) (st : PointStatic) (rs : ReportState) (v : Word) : State :=
  s.setPoint p (imagedPoint s p st rs v)

theorem State.imaged_eq (s : State) (p : Nat) (st : PointStatic) (rs : ReportState) (v : Word) :
    (s.point p).imaged st rs v s.clock = imagedPoint s p st rs v := by
  have hmark : marksChange st (s.point p).report rs v = (match (s.point p).report with
      | none => true
      | some old => decide (old.state ≠ rs) ||
          (if st.cls = .gateset then decide (old.value ≠ v) else decide (st.deadband < (v.toInt - old.value.toInt).natAbs))) := by
    unfold marksChange
    cases (s.point p).report with
    | none => rfl
    | some old =>
      have hbne : ∀ {α : Type} [DecidableEq α] (a b : α), (a != b) = decide (a ≠ b) := fun a b => by
        rw [Bool.eq_iff_iff]
        simp
      simp only [hbne]
  rw [PointDyn.imaged, hmark]
  rfl

theorem imageDiffers_iff {s : State} {p : Nat} {st : PointStatic} {rs : ReportState} {v : Word} :
    (s.point p).imageDiffers (imagedPoint s p st rs v) = true ↔ imageChanges s p rs v := by
  rw [PointDyn.imageDiffers, imageChanges, imagedPoint]
  cases hfresh : (s.point p).fresh <;> cases hrep : (s.point p).report <;> simp [Prod.ext_iff]

theorem State.imageReport_eq (s : State) (p : Nat) (st : PointStatic) (rs : ReportState) (v : Word) [Decidable (imageChanges s p rs v)] :
    s.imageReport p st rs v =
      (if imageChanges s p rs v then (s.imagedAt p st rs v).imageChanged p (s.point p)
       else (s.imagedAt p st rs v).repeatFlow p).takeLevel p v := by
  have hpoint : (s.imagedAt p st rs v).point p = imagedPoint s p st rs v := (State.point_setPoint ..).trans (if_pos rfl)
  have himage : s.setPoint p ((s.point p).imaged st rs v s.clock) = s.imagedAt p st rs v := by
    rw [State.imaged_eq]
    rfl
  unfold State.imageReport
  simp only [himage, hpoint, imageDiffers_iff]

end Sys2Proof.Machine
end

section

/-! PROOF. What a covered report starts, and the settling of its event (R13, R32, R64, R69, R70). -/

namespace Sys2Proof.Machine

theorem State.imageHalt_fresh {s : State} {r : SectionRec} {p : Nat} {old new : PointDyn} (hnew : new.fresh = true)
    {c : HaltCause} : s.imageHalt r p old new = some c ↔
      (setNamesPoint s r.tripSet p ∧ s.setHoldsOr false r.tripSet = true) ∧ c = .trip := by
  rw [State.imageHalt, ← State.setNames_iff]
  by_cases hnames : s.setNames r.tripSet p = true
  · by_cases hholds : s.setHoldsOr false r.tripSet = true
    · simp [hnames, hnew, hholds, eq_comm]
    · simp [hnames, hnew, hholds]
  · simp [hnames]

theorem State.feedsLevel_iff (s : State) (r : SectionRec) (p : Nat) : s.feedsLevel r p = true ↔
    ∃ m ∈ r.feeds, ∃ f l, s.definedRec m = some f ∧ f.role = .store ∧ f.level = some l ∧ l.point = p := by
  rw [State.feedsLevel, List.any_eq_true]
  refine exists_congr fun m => and_congr_right fun _ => ?_
  cases hf : s.definedRec m with
  | none => simp
  | some f => cases hl : f.level <;> simp [hl]

theorem State.imageReexamines_iff (s : State) (r : SectionRec) (p : Nat) : s.imageReexamines r p = true ↔
    (∃ o ∈ [r.warmSet, r.runSet, r.flushSet], setNamesPoint s o p) ∨ (∃ f ∈ r.flowPoints, f.point = p) ∨
      ∃ m ∈ r.feeds, ∃ f l, s.definedRec m = some f ∧ f.role = .store ∧ f.level = some l ∧ l.point = p := by
  rw [State.imageReexamines, Bool.or_eq_true, Bool.or_eq_true, Bool.or_eq_true, Bool.or_eq_true, State.feedsLevel_iff,
    List.any_eq_true, State.setNames_iff, State.setNames_iff, State.setNames_iff]
  simp only [beq_iff_eq, List.mem_cons, List.not_mem_nil, or_false, exists_eq_or_imp, exists_eq_left, or_assoc]

/-! ### The imaging of a report -/

theorem SameAccount.startScan (s : State) : SameAccount s s.startScan := ⟨rfl, rfl, rfl⟩

/-- After the load account has taken an image change, nothing more moves it. -/
theorem SameAccount.imageChanged (s : State) (p : Nat) (old : PointDyn) :
    SameAccount (s.takeLoad p old (s.point p)) (s.imageChanged p old) := by
  unfold State.imageChanged
  generalize sectionNumbers = l
  exact (SameAccount.foldl (SameAccount.sectionTakes p _ _) _ _).trans (SameAccount.startScan _)

theorem SameAccount.repeatFlow (s : State) (p : Nat) : SameAccount s (s.repeatFlow p) := by
  unfold State.repeatFlow
  generalize sectionNumbers = l
  exact SameAccount.foldl (SameAccount.loseFlow p) _ _

section Imaging

variable (s : State) (p : Nat) (st : PointStatic) (rs : ReportState) (v : Word)

theorem State.imagedAt_self : (s.imagedAt p st rs v).point p = imagedPoint s p st rs v :=
  (State.point_setPoint ..).trans (if_pos rfl)

theorem State.imagedAt_other {q : Nat} (hq : q ≠ p) : (s.imagedAt p st rs v).point q = s.point q :=
  (State.point_setPoint ..).trans (if_neg hq)

/-- A report leaves the scene of its imaging as it is. -/
theorem State.imageReport_scene : SameScene (s.imagedAt p st rs v) (s.imageReport p st rs v) := by
  classical
  rw [State.imageReport_eq]
  refine SameScene.trans ?_ (State.takeLevel_scene _ p v).1
  split
  · exact (State.imageChanged_scene _ p _).1
  · exact (State.repeatFlow_scene _ p).1

/-- What a report starts. -/
theorem State.mem_imageReport_agenda (hquiet : s.agenda = []) (x : Task) : x ∈ (s.imageReport p st rs v).agenda ↔
    (x = .scan ∧ imageChanges s p rs v) ∨
    (∃ n, x = .reexamine n ∧ imageChanges s p rs v ∧ reexaminedAt s n p) ∨
    (∃ n, x = .halt n .trip ∧ trips s (s.imagedAt p st rs v) n p rs v) ∨
    ∃ n, x = .halt n .storeFull ∧ storeFills s n p v := by
  classical
  have hfresh : ((s.imagedAt p st rs v).point p).fresh = true := by rw [State.imagedAt_self]; rfl
  rw [State.imageReport_eq]
  by_cases hchange : imageChanges s p rs v
  · rw [if_pos hchange]
    obtain ⟨hscene, l, hl, hagenda⟩ := State.imageChanged_scene (s.imagedAt p st rs v) p (s.point p)
    rw [(State.takeLevel_scene _ p v).2, hscene.levelTasks, hagenda, show (s.imagedAt p st rs v).agenda = [] from hquiet,
      List.nil_append, List.mem_append, List.mem_append, List.mem_append, State.mem_taken, State.mem_levelTasks,
      List.mem_singleton]
    have hscan : x ∈ l → x = .scan := fun hx => by
      rcases hl with rfl | rfl
      · cases hx
      · exact List.mem_singleton.1 hx
    constructor
    · rintro (((hx | ⟨n, hn, r, hr, ⟨c, rfl, hc⟩ | ⟨rfl, hre⟩⟩) | rfl) | hx)
      · exact .inl ⟨hscan hx, hchange⟩
      · obtain ⟨⟨hnames, hholds⟩, rfl⟩ := (State.imageHalt_fresh hfresh).1 hc
        exact .inr (.inr (.inl ⟨n, rfl, hn, hchange, r, hr, hnames, hholds⟩))
      · exact .inr (.inl ⟨n, rfl, hchange, hn, r, hr, (State.imageReexamines_iff _ _ _).1 hre⟩)
      · exact .inl ⟨rfl, hchange⟩
      · exact .inr (.inr (.inr hx))
    · rintro (⟨rfl, _⟩ | ⟨n, rfl, _, hn, r, hr, hre⟩ | ⟨n, rfl, hn, _, r, hr, hnames, hholds⟩ | hx)
      · exact .inl (.inr rfl)
      · exact .inl (.inl (.inr ⟨n, hn, r, hr, .inr ⟨rfl, (State.imageReexamines_iff _ _ _).2 hre⟩⟩))
      · exact .inl (.inl (.inr ⟨n, hn, r, hr, .inl ⟨_, rfl, (State.imageHalt_fresh hfresh).2 ⟨⟨hnames, hholds⟩, rfl⟩⟩⟩))
      · exact .inr hx
  · rw [if_neg hchange]
    obtain ⟨hscene, hagenda⟩ := State.repeatFlow_scene (s.imagedAt p st rs v) p
    rw [(State.takeLevel_scene _ p v).2, hscene.levelTasks, hagenda, show (s.imagedAt p st rs v).agenda = [] from hquiet,
      List.nil_append, State.mem_levelTasks]
    constructor
    · exact fun hx => .inr (.inr (.inr hx))
    · rintro (⟨_, h⟩ | ⟨_, _, h, _⟩ | ⟨_, _, _, h, _⟩ | hx)
      · exact absurd h hchange
      · exact absurd h hchange
      · exact absurd h hchange
      · exact hx

theorem imagedPoint_isOn : (imagedPoint s p st rs v).isOn = true ↔ rs = .starting ∨ rs = .running := by
  simp [PointDyn.isOn, imagedPoint]

/-- A report that is no image change shows a DRIVE as it was. -/
theorem isOn_of_no_change (h : ¬ imageChanges s p rs v) : (s.point p).isOn = true ↔ rs = .starting ∨ rs = .running := by
  obtain ⟨_, old, hold, rfl, _⟩ := not_not.1 h
  simp [PointDyn.isOn, hold]

theorem State.imageReport_moves (hcls : (s.activeBank.pointStatic p).content.cls = st.cls)
    (hload : (s.activeBank.pointStatic p).content.ratedLoad = st.ratedLoad) :
    loadMoves s (s.imageReport p st rs v) p st rs := by
  classical
  rw [State.imageReport_eq]
  refine loadMoves.account ?_ (SameAccount.takeLevel _ p v)
  split
  · refine loadMoves.account (State.takeLoad_moves (v := s.imagedAt p st rs v) hcls hload rfl ⟨rfl, rfl, rfl⟩
      (new := (s.imagedAt p st rs v).point p) ?_) ?_
    · rw [State.imagedAt_self]
      exact imagedPoint_isOn s p st rs v
    · exact SameAccount.imageChanged _ p _
  · next hchange =>
    have hrepeat : SameAccount s ((s.imagedAt p st rs v).repeatFlow p) :=
      SameAccount.trans (⟨rfl, rfl, rfl⟩ : SameAccount s (s.imagedAt p st rs v))
        (SameAccount.repeatFlow _ p)
    have hsame := isOn_of_no_change s p rs v hchange
    unfold loadMoves
    rw [if_neg fun h => (by rw [hsame.2 h.2.2] at h; cases h.2.1), if_neg fun h => h.2.2 (hsame.1 h.2.1)]
    exact ⟨hrepeat.load, hrepeat.entries, hrepeat.pledgeSum⟩

end Imaging

end Sys2Proof.Machine
end

section

/-! PROOF. A covered report under a bank that reads good: the frame of its imaging and the run-empty states (R36, R37). -/

namespace Sys2Proof.Machine

/-! ### The frame of an imaging -/

/-- Nothing changes but the load account, the entries, the sections and what the event has still to take. -/
def ImagedWithin (s t : State) : Prop := t = { s with
  load := t.load
  entries := t.entries
  pledgeSum := t.pledgeSum
  sects := t.sects
  agenda := t.agenda }

namespace ImagedWithin

theorem refl (s : State) : ImagedWithin s s := rfl

theorem trans {s t u : State} (h : ImagedWithin s t) (h' : ImagedWithin t u) : ImagedWithin s u :=
  Eq.trans h' (congrArg (fun w : State => { w with
    load := u.load, entries := u.entries, pledgeSum := u.pledgeSum, sects := u.sects, agenda := u.agenda }) h)

theorem takeFlow (s : State) (n : Nat) (r : SectionRec) (p : Nat) (new : PointDyn) : ImagedWithin s (s.takeFlow n r p new) := by
  unfold State.takeFlow
  split <;> rfl

end ImagedWithin

theorem State.checkReads_good {s : State} (hgood : ∀ e, s.activeBank.entryGood e = true) (l : List EntryRef) :
    s.checkReads l = s := State.checkReads_of_good s l fun e _ => hgood e

theorem SameScene.good {s t : State} (h : SameScene s t) (hgood : ∀ e, s.activeBank.entryGood e = true) (e : EntryRef) :
    t.activeBank.entryGood e = true := by
  rw [h.activeBank]
  exact hgood e

/-- What a section's run-empty state becomes as it takes point `p`, and its record. -/
def State.flowed (s : State) (p : Nat) (new : PointDyn) (n : Nat) (d : SectionDyn) : SectionDyn :=
  match s.definedRec n with
  | some r =>
    if d.phase = .draining ∧ r.flowPoints.any (fun f => f.point == p) = true then
      { d with runEmpty := s.runEmptyAfter r p new d.runEmpty }
    else d
  | none => d

theorem SameScene.flowed {s t : State} (h : SameScene s t) (p : Nat) (new : PointDyn) : t.flowed p new = s.flowed p new := by
  funext n d
  have hlow : t.flowLow = s.flowLow := by
    funext f
    simp only [State.flowLow, h.point]
  have hafter : ∀ r e, t.runEmptyAfter r p new e = s.runEmptyAfter r p new e := fun r e => by
    simp only [State.runEmptyAfter, hlow, h.clock]
  simp only [State.flowed, h.definedRec, hafter]

theorem State.takeFlow_sect {s : State} {n : Nat} {r : SectionRec} (hr : s.definedRec n = some r) (p : Nat) (new : PointDyn)
    (m : Nat) : (s.takeFlow n r p new).sect m = if m = n then s.flowed p new n (s.sect n) else s.sect m := by
  simp only [State.takeFlow, State.flowed, hr]
  by_cases hflow : (s.sect n).phase = .draining ∧ r.flowPoints.any (fun f => f.point == p) = true
  · rw [if_pos hflow, if_pos hflow, State.sect_setSect]
  · rw [if_neg hflow, if_neg hflow]
    split
    · next h => rw [h]
    · rfl

theorem State.sectionTakes_good {s : State} (hgood : ∀ e, s.activeBank.entryGood e = true) (p : Nat) (old new : PointDyn)
    (n : Nat) : ImagedWithin s (State.sectionTakes p old new s n) ∧
      ∀ m, (State.sectionTakes p old new s n).sect m = if m = n then s.flowed p new n (s.sect n) else s.sect m := by
  unfold State.sectionTakes
  simp only [State.checkReads_good hgood]
  cases hr : s.definedRec n with
  | none =>
    refine ⟨ImagedWithin.refl s, fun m => ?_⟩
    simp only [State.flowed, hr]
    split
    · next h => rw [h]
    · rfl
  | some r => exact ⟨(ImagedWithin.takeFlow s n r p new).trans rfl, State.takeFlow_sect hr p new⟩

/-- A fold over different sections, each taken by its own rule over what stands through the fold. -/
theorem State.foldl_sections_good {f : State → Nat → State} {g : State → Nat → SectionDyn → SectionDyn}
    (hscene : ∀ s n, SameScene s (f s n)) (hg : ∀ {s t : State}, SameScene s t → g t = g s)
    (hf : ∀ s n, (∀ e, s.activeBank.entryGood e = true) → ImagedWithin s (f s n) ∧
      ∀ m, (f s n).sect m = if m = n then g s n (s.sect n) else s.sect m)
    (l : List Nat) (hl : l.Nodup) {s : State} (hgood : ∀ e, s.activeBank.entryGood e = true) :
    ImagedWithin s (l.foldl f s) ∧ ∀ m, (l.foldl f s).sect m = if m ∈ l then g s m (s.sect m) else s.sect m := by
  induction l generalizing s with
  | nil => exact ⟨ImagedWithin.refl s, fun m => (if_neg List.not_mem_nil).symm⟩
  | cons n l ih =>
    obtain ⟨hn, hl⟩ := List.nodup_cons.1 hl
    obtain ⟨hframe, hsect⟩ := hf s n hgood
    obtain ⟨hrest, hsects⟩ := ih hl ((hscene s n).good hgood)
    refine ⟨hframe.trans hrest, fun m => ?_⟩
    rw [List.foldl_cons, hsects, hg (hscene s n), hsect]
    by_cases hm : m = n
    · subst hm
      rw [if_neg hn, if_pos rfl, if_pos (List.mem_cons_self ..)]
    · rw [if_neg hm]
      exact if_congr (by simp [hm]) rfl rfl

theorem State.takeLoad_good {s : State} (hgood : ∀ e, s.activeBank.entryGood e = true) (p : Nat) (old new : PointDyn) :
    ImagedWithin s (s.takeLoad p old new) ∧ ∀ n, (s.takeLoad p old new).sect n = s.sect n := by
  have hmoved : ∀ u : State, (u = s.loadRises p ∨ u = s.loadFalls p) →
      ImagedWithin s (u.checkReads [⟨.points, p⟩]) ∧ ∀ n, (u.checkReads [⟨.points, p⟩]).sect n = s.sect n := by
    have hplain : ∀ u : State, u.activeBank = s.activeBank → ImagedWithin s u → u.sects = s.sects →
        ImagedWithin s (u.checkReads [⟨.points, p⟩]) ∧ ∀ n, (u.checkReads [⟨.points, p⟩]).sect n = s.sect n :=
        fun u hbank hframe hsects => by
      rw [State.checkReads_good (fun e => hbank ▸ hgood e)]
      exact ⟨hframe, fun n => by rw [State.sect, hsects]; rfl⟩
    rintro u (rfl | rfl)
    · unfold State.loadRises
      simp only
      split_ifs <;> exact hplain _ rfl rfl rfl
    · unfold State.loadFalls
      simp only
      split_ifs <;> exact hplain _ rfl rfl rfl
  unfold State.takeLoad
  split
  · exact ⟨ImagedWithin.refl s, fun _ => rfl⟩
  · refine hmoved _ ?_
    split
    · exact .inl rfl
    · exact .inr rfl

theorem State.imageChanged_good {s : State} (hgood : ∀ e, s.activeBank.entryGood e = true) (p : Nat) (old : PointDyn) :
    ImagedWithin s (s.imageChanged p old) ∧ ∀ n, (s.imageChanged p old).sect n =
      if n < 16 then s.flowed p (s.point p) n (s.sect n) else s.sect n := by
  obtain ⟨hload, hsect⟩ := State.takeLoad_good hgood p old (s.point p)
  have hscene := (State.takeLoad_scene s p old (s.point p)).1
  obtain ⟨hframe, hsects⟩ := State.foldl_sections_good (f := State.sectionTakes p old (s.point p))
    (g := fun u => u.flowed p (s.point p)) (fun u n => (State.sectionTakes_scene p old _ u n).1)
    (fun h => h.flowed p _) (fun u n hu => State.sectionTakes_good hu p old _ n) sectionNumbers (by decide)
    (s := s.takeLoad p old (s.point p)) (hscene.good hgood)
  unfold State.imageChanged
  generalize sectionNumbers.foldl (State.sectionTakes p old (s.point p)) (s.takeLoad p old (s.point p)) = u at hframe hsects
  refine ⟨(hload.trans hframe).trans rfl, fun n => ?_⟩
  refine (hsects n).trans ?_
  rw [hsect, hscene.flowed]
  exact if_congr List.mem_range rfl rfl

theorem State.loseFlow_good {s : State} (hgood : ∀ e, s.activeBank.entryGood e = true) (p n : Nat) :
    ImagedWithin s (State.loseFlow p s n) ∧ ∀ m, (State.loseFlow p s n).sect m =
      if m = n then (if (s.sect n).runEmpty ≠ .notCounting then s.flowed p (s.point p) n (s.sect n) else s.sect n)
      else s.sect m := by
  have hsame : ∀ m d, d = s.sect n → s.sect m = if m = n then d else s.sect m := fun m d hd => by
    split
    · next h => rw [h, hd]
    · rfl
  unfold State.loseFlow
  simp only [State.checkReads_good hgood]
  by_cases hcounts : (s.sect n).runEmpty ≠ .notCounting
  · simp only [if_pos hcounts]
    by_cases hdrains : (s.sect n).phase = .draining
    · rw [if_pos ⟨hdrains, hcounts⟩]
      cases hr : s.definedRec n with
      | none => exact ⟨ImagedWithin.refl s, fun m => hsame m _ (by simp only [State.flowed, hr])⟩
      | some r => exact ⟨ImagedWithin.takeFlow s n r p _, State.takeFlow_sect hr p _⟩
    · rw [if_neg fun h => hdrains h.1]
      refine ⟨ImagedWithin.refl s, fun m => hsame m _ ?_⟩
      cases hr : s.definedRec n with
      | none => simp only [State.flowed, hr]
      | some r =>
        simp only [State.flowed, hr]
        exact if_neg fun h => hdrains h.1
  · simp only [if_neg hcounts]
    rw [if_neg fun h => hcounts h.2]
    exact ⟨ImagedWithin.refl s, fun m => hsame m _ rfl⟩

theorem State.repeatFlow_good {s : State} (hgood : ∀ e, s.activeBank.entryGood e = true) (p : Nat) :
    ImagedWithin s (s.repeatFlow p) ∧ ∀ n, (s.repeatFlow p).sect n =
      if n < 16 ∧ (s.sect n).runEmpty ≠ .notCounting then s.flowed p (s.point p) n (s.sect n) else s.sect n := by
  obtain ⟨hframe, hsects⟩ := State.foldl_sections_good (f := State.loseFlow p)
    (g := fun u n d => if d.runEmpty ≠ .notCounting then u.flowed p (u.point p) n d else d)
    (fun u n => (SameScene.loseFlow p u n).1) (fun h => by funext n d; rw [h.flowed, h.point])
    (fun u n hu => State.loseFlow_good hu p n) sectionNumbers (by decide) hgood
  refine ⟨hframe, fun n => (hsects n).trans ?_⟩
  by_cases hn : n < 16
  · rw [if_pos (show n ∈ sectionNumbers from List.mem_range.2 hn)]
    exact if_congr (by simp [hn]) rfl rfl
  · rw [if_neg (show ¬ n ∈ sectionNumbers from fun h => hn (List.mem_range.1 h)), if_neg fun h => hn h.1]

end Sys2Proof.Machine
end

section

/-! PROOF. Covered reports: the event and its end (R11 to R14, R36, R37, R64, R69, R70). -/

namespace Sys2Proof.Machine

/-! ### Run-empty states (R36, R37) -/

theorem State.flowLow_iff (s : State) (f : FlowPoint) : s.flowLow f = true ↔ flowIsLow s f := by
  rw [State.flowLow, flowIsLow, Bool.and_eq_true]
  refine and_congr_right fun _ => ?_
  cases (s.point f.point).report <;> simp

/-- A FRESH point with a report that is lost is lost above its threshold. -/
theorem flowLost_iff {s : State} {r : SectionRec} {p : Nat} {rep : Reported} (hfresh : (s.point p).fresh = true)
    (hrep : (s.point p).report = some rep) : flowLost r p (s.point p) = true ↔ ∃ f ∈ r.flowPoints, f.point = p ∧ ¬ flowIsLow s f := by
  rw [flowLost, List.any_eq_true]
  refine exists_congr fun f => and_congr_right fun _ => ?_
  rw [Bool.and_eq_true, beq_iff_eq]
  refine and_congr_right fun hp => ?_
  rw [flowIsLow, hp, hfresh, hrep]
  simp

/-- The run-empty state of a section that names the reported point, an image change. -/
theorem runEmptyAfter_flow {s : State} {r : SectionRec} {p : Nat} {rep : Reported} {change : Prop} (hchange : change)
    (hfresh : (s.point p).fresh = true) (hrep : (s.point p).report = some rep) (e : RunEmpty) :
    flowAfter change s r p e (s.runEmptyAfter r p (s.point p) e) := by
  have hall : r.flowPoints.all s.flowLow = true ↔ ∀ f ∈ r.flowPoints, flowIsLow s f := by
    rw [List.all_eq_true]
    exact forall_congr' fun f => forall_congr' fun _ => s.flowLow_iff f
  refine ⟨fun he => ?_, fun he => ?_⟩
  · subst he
    rw [State.runEmptyAfter]
    refine ⟨fun _ hlow => if_pos (hall.2 hlow), fun hnot => if_neg fun h => ?_⟩
    rcases hnot with hnot | ⟨f, hf, hhigh⟩
    · exact hnot hchange
    · exact hhigh (hall.1 h f hf)
  · have hlost : s.runEmptyAfter r p (s.point p) e = if flowLost r p (s.point p) then .notCounting else e := by
      cases e with
      | notCounting => exact absurd rfl he
      | counting t => rfl
      | confirmed => rfl
    rw [hlost]
    refine ⟨fun h => if_pos ((flowLost_iff hfresh hrep).2 h), fun h => if_neg fun hl => ?_⟩
    obtain ⟨f, hf, hp, hhigh⟩ := (flowLost_iff hfresh hrep).1 hl
    exact hhigh (h f hf hp)

/-- A report that is no image change leaves a section that does not count. -/
theorem flowAfter_repeat {s : State} {r : SectionRec} {p : Nat} {change : Prop} (hchange : ¬ change) :
    flowAfter change s r p .notCounting .notCounting :=
  ⟨fun _ => ⟨fun h => absurd h hchange, fun _ => rfl⟩, fun h => absurd rfl h⟩

theorem flowAfter_counting {s : State} {r : SectionRec} {p : Nat} {change change' : Prop} {e e' : RunEmpty}
    (he : e ≠ .notCounting) (h : flowAfter change s r p e e') : flowAfter change' s r p e e' :=
  ⟨fun hnot => absurd hnot he, h.2⟩

theorem State.flowed_drains {s : State} {n p : Nat} {c : SectionRec} (hc : s.definedRec n = some c) (new : PointDyn)
    {d : SectionDyn} (hphase : d.phase = .draining) (hnames : ∃ f ∈ c.flowPoints, f.point = p) :
    s.flowed p new n d = { d with runEmpty := s.runEmptyAfter c p new d.runEmpty } := by
  have hany : c.flowPoints.any (fun f => f.point == p) = true := by
    obtain ⟨f, hf, hp⟩ := hnames
    exact List.any_eq_true.2 ⟨f, hf, beq_iff_eq.2 hp⟩
  simp only [State.flowed, hc]
  exact if_pos ⟨hphase, hany⟩

theorem State.flowed_other {s : State} {n p : Nat} (new : PointDyn) {d : SectionDyn}
    (h : ∀ c, s.definedRec n = some c → d.phase = .draining → ¬ ∃ f ∈ c.flowPoints, f.point = p) :
    s.flowed p new n d = d := by
  cases hc : s.definedRec n with
  | none => simp only [State.flowed, hc]
  | some c =>
    simp only [State.flowed, hc]
    refine if_neg fun hboth => h c hc hboth.1 ?_
    obtain ⟨f, hf, hp⟩ := List.any_eq_true.1 hboth.2
    exact ⟨f, hf, beq_iff_eq.1 hp⟩

section Imaging

variable {s : State} {p : Nat} {st : PointStatic} {rs : ReportState} {v : Word}

/-- The sections after a report is imaged, the bank reading good. -/
theorem State.imageReport_good (hgood : ∀ e, s.activeBank.entryGood e = true) :
    ImagedWithin (s.imagedAt p st rs v) (s.imageReport p st rs v) ∧
    ∀ n, ∃ e, (s.imageReport p st rs v).sect n = { s.sect n with runEmpty := e } ∧
      ((∃ c, drainsBy s n c p ∧ flowAfter (imageChanges s p rs v) (s.imagedAt p st rs v) c p (s.sect n).runEmpty e) ∨
       (¬ (∃ c, drainsBy s n c p) ∧ e = (s.sect n).runEmpty)) := by
  classical
  have hfresh : ((s.imagedAt p st rs v).point p).fresh = true := by rw [State.imagedAt_self]; rfl
  have hrep : ((s.imagedAt p st rs v).point p).report = some ⟨rs, v, s.clock⟩ := by rw [State.imagedAt_self]; rfl
  have hgood' : ∀ e, (s.imagedAt p st rs v).activeBank.entryGood e = true := hgood
  have hlevel : ∀ u : State, (∀ e, u.activeBank.entryGood e = true) →
      ImagedWithin u (u.takeLevel p v) ∧ ∀ n, (u.takeLevel p v).sect n = u.sect n := fun u hu => by
    have heq : u.takeLevel p v = u.addTasks (u.levelTasks p v) := by
      unfold State.takeLevel
      simp only [State.checkReads_good hu]
      rfl
    rw [heq]
    exact ⟨rfl, fun _ => rfl⟩
  have hstays : ∀ n, (¬ ∃ c, drainsBy s n c p) → (n < 16 → (s.imagedAt p st rs v).flowed p
      ((s.imagedAt p st rs v).point p) n (s.sect n) = s.sect n) := fun n hnot hn =>
    State.flowed_other _ fun c hc hphase hnames => hnot ⟨c, hn, hc, hphase, hnames⟩
  rw [State.imageReport_eq]
  by_cases hchange : imageChanges s p rs v
  · rw [if_pos hchange]
    obtain ⟨hframe, hsect⟩ := State.imageChanged_good hgood' p (s.point p)
    have hscene := (State.imageChanged_scene (s.imagedAt p st rs v) p (s.point p)).1
    obtain ⟨hlast, hsame⟩ := hlevel _ (hscene.good hgood')
    refine ⟨hframe.trans hlast, fun n => ?_⟩
    rw [hsame, hsect]
    by_cases hdrains : ∃ c, drainsBy s n c p
    · obtain ⟨c, hn, hc, hphase, hnames⟩ := id hdrains
      rw [if_pos hn, show (s.imagedAt p st rs v).sect n = s.sect n from rfl,
        State.flowed_drains (show (s.imagedAt p st rs v).definedRec n = some c from hc) _ hphase hnames]
      exact ⟨_, rfl, .inl ⟨c, ⟨hn, hc, hphase, hnames⟩, runEmptyAfter_flow hchange hfresh hrep _⟩⟩
    · refine ⟨(s.sect n).runEmpty, ?_, .inr ⟨hdrains, rfl⟩⟩
      split
      · next hn => exact hstays n hdrains hn
      · rfl
  · rw [if_neg hchange]
    obtain ⟨hframe, hsect⟩ := State.repeatFlow_good hgood' p
    have hscene := (State.repeatFlow_scene (s.imagedAt p st rs v) p).1
    obtain ⟨hlast, hsame⟩ := hlevel _ (hscene.good hgood')
    refine ⟨hframe.trans hlast, fun n => ?_⟩
    rw [hsame, hsect, show (s.imagedAt p st rs v).sect n = s.sect n from rfl]
    by_cases hdrains : ∃ c, drainsBy s n c p
    · obtain ⟨c, hn, hc, hphase, hnames⟩ := id hdrains
      by_cases hcounts : (s.sect n).runEmpty ≠ .notCounting
      · rw [if_pos ⟨hn, hcounts⟩,
          State.flowed_drains (show (s.imagedAt p st rs v).definedRec n = some c from hc) _ hphase hnames]
        exact ⟨_, rfl, .inl ⟨c, ⟨hn, hc, hphase, hnames⟩,
          flowAfter_counting hcounts (runEmptyAfter_flow trivial hfresh hrep _)⟩⟩
      · rw [if_neg fun h => hcounts h.2]
        have hnone := not_not.1 hcounts
        refine ⟨(s.sect n).runEmpty, rfl, .inl ⟨c, ⟨hn, hc, hphase, hnames⟩, ?_⟩⟩
        rw [hnone]
        exact flowAfter_repeat hchange
    · refine ⟨(s.sect n).runEmpty, ?_, .inr ⟨hdrains, rfl⟩⟩
      split
      · next h => exact hstays n hdrains h.1
      · rfl

end Imaging

/-! ### A covered report (R11, R14) -/

theorem State.reportPoint_imaged {s : State} {p : Nat} {st : PointStatic} {rs : ReportState} {r : PointTel}
    (hst : s.readPoint p = some st) (hcode : ReportState.ofCode r.code = some rs) (hcls : rs.cls = st.cls) :
    s.reportPoint p r = s.imageReport p st rs r.value := by
  obtain ⟨hgood, hcontent⟩ := State.readPoint_static hst
  have hbank := (State.imageReport_scene s p st rs r.value).activeBank
  have hcls' : (true && rs.cls == st.cls) = true := by simp [hcls]
  unfold State.reportPoint
  simp only [hgood, if_true, hcontent, hcode, hcls']
  refine State.checkReads_of_good _ _ fun e he => ?_
  obtain rfl := List.mem_singleton.1 he
  rw [hbank]
  exact hgood

theorem exec_imagedReport {s : State} {d : DnPort} {r : PointTel} {w : Window} {st : PointStatic} {rs : ReportState}
    (h : IsImaged s d r w st rs) :
    exec (.report d r) s = .next ((s.imageReport (w.logicalOf r.point.toNat) st rs r.value).pushReport r).settled := by
  obtain ⟨i, hcovered⟩ := h.covered
  have htaken : s.takeReport d r = (s.imageReport (w.logicalOf r.point.toNat) st rs r.value).pushReport r := by
    simp only [State.takeReport, hcovered, if_pos h.port]
    rw [State.reportPoint_imaged h.static h.code h.cls]
  have harrive : s.arriveDn d (.point .report r) = s.takeReport d r := by
    rw [State.arriveDn_ready s d _ h.ready, if_neg h.banked]
  exact congrArg Host.Outcome.next (congrArg State.settled (harrive.trans htaken))

end Sys2Proof.Machine
end

section

/-! PROOF. Covered reports, with the bank good, with nothing held, and over a damaged static part (R11 to R14, R165). -/

namespace Sys2Proof.Machine

theorem Stands.loseFlow (p : Nat) (s : State) (n : Nat) : Stands s (State.loseFlow p s n) := by
  unfold State.loseFlow
  split
  · simp only
    split
    · refine Stands.trans (Stands.cascading.checkReads s [⟨.sections, n⟩]) ?_
      unfold State.takeFlow
      split <;> exact fun h => ⟨h, rfl, rfl, rfl, rfl, rfl, rfl, rfl, rfl⟩
    · exact Stands.cascading.checkReads _ _
  · exact Stands.cascading.refl s

theorem Stands.repeatFlow (s : State) (p : Nat) : Stands s (s.repeatFlow p) := by
  unfold State.repeatFlow
  generalize sectionNumbers = l
  exact Stands.foldl _ (Stands.loseFlow p) _ _

/-- With nothing held, a report moves nothing beside the image and the load account but what the consequences of an event may. -/
theorem StandsButLoad.imageReport (s : State) (p : Nat) (st : PointStatic) (rs : ReportState) (v : Word) :
    StandsButLoad (s.imagedAt p st rs v) (s.imageReport p st rs v) := by
  classical
  rw [State.imageReport_eq]
  refine StandsButLoad.trans ?_ (Stands.takeLevel _ p v).butLoad
  split
  · exact StandsButLoad.imageChanged _ p _
  · exact (Stands.repeatFlow _ p).butLoad

theorem State.setPoint_sameButCascade {s t : State} {p : Nat} {d : PointDyn} (hsteady : t.steady = (s.setPoint p d).steady)
    (hheld : t.held = s.held) (hremaining : t.remaining = s.remaining) (hreserve : t.unusedReserve = s.unusedReserve)
    (hcapture : t.capture = s.capture) (hmore : t.moreRefusals = s.moreRefusals) : sameButCascade s t :=
  sameButCascade_of (hsteady.trans rfl) hheld hremaining hreserve hcapture hmore

section Event

variable {s : State} {p : Nat} {st : PointStatic} {rs : ReportState} {v : Word}

/-- What a report starts halts its sections by TRIP and STORE_FULL alone. -/
theorem State.imageReport_awaiting (hquiet : s.agenda = []) (t : PointTel) {n : Nat} {c : HaltCause} {C : HaltCause → Prop}
    (htrip : C .trip) (hfull : C .storeFull)
    (hstands : Task.halt n c ∈ (s.imageReport p st rs v).agenda) :
    Awaiting n C (.halt n c) ((s.imageReport p st rs v).pushReport t) ∧
      ((s.imageReport p st rs v).pushReport t).agenda.countP Task.isTrips = 0 := by
  refine State.awaiting_of_agenda (s := (s.imageReport p st rs v).pushReport t) hstands fun x hx => ?_
  rcases (State.mem_imageReport_agenda s p st rs v hquiet x).1 hx with ⟨rfl, _⟩ | ⟨m, rfl, _, hm, _⟩ | ⟨m, rfl, hm, _⟩ |
    ⟨m, rfl, hm, _⟩
  · exact .inl rfl
  · exact .inr (.inl ⟨m, hm, rfl⟩)
  · exact .inr (.inr ⟨m, hm, _, rfl, fun _ => htrip⟩)
  · exact .inr (.inr ⟨m, hm, _, rfl, fun _ => hfull⟩)

/-- A section that a report halts ends HALTED. -/
theorem State.imageReport_halts (hquiet : s.agenda = []) (t : PointTel) {n : Nat} {c : HaltCause} {C : HaltCause → Prop}
    (htrip : C .trip) (hfull : C .storeFull) (hcascade : C .needLost ∧ C .feedStop)
    (hstands : Task.halt n c ∈ (s.imageReport p st rs v).agenda) (hreach : haltReaches c (s.phaseOf n) = true) :
    ∃ h, C h ∧ nowHalted s ((s.imageReport p st rs v).pushReport t).settled n h := by
  have hscene := State.imageReport_scene s p st rs v
  obtain ⟨hawait, htrips⟩ := State.imageReport_awaiting (t := t) hquiet htrip hfull hstands
  obtain ⟨h, hC, hend⟩ := State.settled_halts (.inl rfl) (fun _ => hcascade) hawait
    (by rw [show ((s.imageReport p st rs v).pushReport t).phaseOf n = s.phaseOf n from hscene.phaseOf n]; exact hreach)
    (by omega)
  refine ⟨h, hC, hend.trans ?_⟩
  rw [show ((s.imageReport p st rs v).pushReport t).clock = s.clock from hscene.clock]
  rfl

/-- The feeders of a section that a report halts end HALTED too, outside WIND_DOWN. -/
theorem State.imageReport_feedStops (hquiet : s.agenda = []) (t : PointTel) {n m : Nat} {c : HaltCause} {r : SectionRec}
    (hstands : Task.halt n c ∈ (s.imageReport p st rs v).agenda) (hreach : haltReaches c (s.phaseOf n) = true) (hm : m < 16)
    (hr : s.definedRec m = some r) (hfeeds : n ∈ r.feeds) (hrole : r.role ≠ .store) (hdelivers : s.delivers m)
    (hcampaign : s.campaign ≠ .windDown) : ∃ h, nowHalted s ((s.imageReport p st rs v).pushReport t).settled m h := by
  have hscene := State.imageReport_scene s p st rs v
  obtain ⟨hawait, htrips⟩ := State.imageReport_awaiting (C := fun _ => True) (t := t) hquiet trivial trivial hstands
  obtain ⟨h, hend⟩ := State.settled_feedStops (m := m) (.inl rfl) hawait
    (by rw [show ((s.imageReport p st rs v).pushReport t).phaseOf n = s.phaseOf n from hscene.phaseOf n]; exact hreach)
    (by omega)
    (by rw [show ((s.imageReport p st rs v).pushReport t).campaign = s.campaign from hscene.campaign]; exact hcampaign)
    (by
      rw [State.delivers, show ((s.imageReport p st rs v).pushReport t).phaseOf m = s.phaseOf m from hscene.phaseOf m]
      exact hdelivers)
    ⟨hm, r, (hscene.definedRec m).trans hr, hfeeds, hrole⟩
  refine ⟨h, hend.trans ?_⟩
  rw [show ((s.imageReport p st rs v).pushReport t).clock = s.clock from hscene.clock]
  rfl

/-- The image at the end of a report's event, but for what release scans let pass. -/
theorem State.imageReport_keeps (t : PointTel) :
    KeepsReports (s.imagedAt p st rs v) ((s.imageReport p st rs v).pushReport t).settled :=
  (KeepsReports.of_image (t := (s.imageReport p st rs v).pushReport t) (State.imageReport_scene s p st rs v).image).trans
    (KeepsReports.cascading.settled _)

/-- With nothing held. -/
theorem State.imageReport_stands (t : PointTel) (hheld : s.held = []) :
    sameButCascade s ((s.imageReport p st rs v).pushReport t).settled ∧
      (∀ q, ((s.imageReport p st rs v).pushReport t).settled.point q = (s.imagedAt p st rs v).point q) ∧
      ((s.imageReport p st rs v).pushReport t).settled.load = (s.imageReport p st rs v).load := by
  obtain ⟨hnone, himage, hremaining, hreserve, hcapture, hmore, hsteady⟩ := StandsButLoad.imageReport s p st rs v hheld
  obtain ⟨hnone', himage', hload', _, hremaining', hreserve', hcapture', hmore', hsteady'⟩ :=
    Stands.cascading.settled ((s.imageReport p st rs v).pushReport t) hnone
  refine ⟨State.setPoint_sameButCascade (hsteady'.trans hsteady) (hnone'.trans hheld.symm) (hremaining'.trans hremaining)
    (hreserve'.trans hreserve) (hcapture'.trans hcapture) (hmore'.trans hmore), fun q => ?_, hload'⟩
  rw [State.point, himage', show ((s.imageReport p st rs v).pushReport t).image = _ from himage]
  rfl

end Event

theorem loadMoves_load {s u : State} {p : Nat} {st : PointStatic} {rs : ReportState} (h : loadMoves s u p st rs) : u.load =
    (if st.cls = .drive ∧ (s.point p).isOn = false ∧ (rs = .starting ∨ rs = .running) then s.load + st.ratedLoad
     else if st.cls = .drive ∧ (s.point p).isOn = true ∧ ¬ (rs = .starting ∨ rs = .running) then s.load - st.ratedLoad
     else s.load) := by
  unfold loadMoves at h
  split at h
  · next hc => rw [if_pos hc, h.1]
  · next hc =>
    rw [if_neg hc]
    split at h
    · next hc => rw [if_pos hc, h.1]
    · next hc => rw [if_neg hc, h.1]

end Sys2Proof.Machine
end

section

/-! PROOF. Covered reports: the statement (R11 to R14, R111, R165). -/

namespace Sys2Proof.Machine

/-! ### A report over a damaged static part (R165) -/

theorem State.reportPoint_damaged {s : State} {p : Nat} (r : PointTel) (hbad : (s.activeBank.pointStatic p).good = false) :
    ∃ v : State, s.reportPoint p r = v.activeFault ⟨.points, p⟩ ∧ (v.mode = s.mode ∨ v.mode = .failHold) ∧
      (v = s.countDraw ∨ ∃ rs k, ReportState.ofCode r.code = some rs ∧ rs.cls = (s.activeBank.pointStatic p).content.cls ∧
        v = s.countDraw.imageReport p { (s.activeBank.pointStatic p).content with deadband := k } rs r.value) := by
  have hchecked : ∀ v : State, v.activeBank = s.activeBank → v.checkReads [⟨.points, p⟩] = v.activeFault ⟨.points, p⟩ :=
    fun v hbank => State.checkReads_of_bad (l1 := []) rfl (fun x hx => absurd hx List.not_mem_nil)
      (by rw [hbank]; exact hbad)
  have hplain : s.countDraw.checkReads [⟨.points, p⟩] = s.countDraw.activeFault ⟨.points, p⟩ := hchecked _ rfl
  unfold State.reportPoint
  simp only [hbad, Bool.false_eq_true, if_false]
  cases hcode : ReportState.ofCode r.code with
  | none => exact ⟨s.countDraw, hplain, .inl rfl, .inl rfl⟩
  | some rs =>
    simp only
    split
    · next himages =>
      have hcls : rs.cls = (s.activeBank.pointStatic p).content.cls := by
        rw [Bool.and_eq_true, beq_iff_eq] at himages
        exact himages.2
      have hscene := State.imageReport_scene s.countDraw p
        { (s.activeBank.pointStatic p).content with deadband := Config.deadbandOnFault s.draws } rs r.value
      exact ⟨_, hchecked _ hscene.activeBank, hscene.mode, .inr ⟨rs, _, rfl, hcls, rfl⟩⟩
    · exact ⟨s.countDraw, hplain, .inl rfl, .inl rfl⟩

/-- The damaged form of a covered report. -/
theorem State.takeReport_damaged {s : State} {d : DnPort} {r : PointTel} {i : Nat} {w : Window}
    (hcovered : s.covering r.src r.point = .window i w) (hport : w.port = d) :
    s.takeReport d r = (s.reportPoint (w.logicalOf r.point.toNat) r).pushReport r := by
  simp only [State.takeReport, hcovered, if_pos hport]

theorem State.damaged_report {s : State} {d : DnPort} {r : PointTel} {i : Nat} {w : Window} {p : Nat} {stored : PointStatic}
    (hready : s.portReady (.dn d)) (hbanked : s.banked) (hcovered : s.covering r.src r.point = .window i w)
    (hport : w.port = d) (hp : p = w.logicalOf r.point.toNat) (hbad : (s.activeBank.pointStatic p).good = false)
    (hstored : stored = (s.activeBank.pointStatic p).content) :
    ∃ v u : State, exec (.report d r) s = .next u.settled ∧
      u = { v.activeFault ⟨.points, p⟩ with upQueue := upReport (v.activeFault ⟨.points, p⟩).upQueue r } ∧
      u.mode = .failHold ∧
      (v = { s with draws := s.draws + 1 } ∨
       ∃ rs k, ReportState.ofCode r.code = some rs ∧ rs.cls = stored.cls ∧
        v.point p = imagedPoint s p { stored with deadband := k } rs r.value ∧
        (∀ q, q ≠ p → v.point q = s.point q) ∧
        (∀ n, ∃ e, v.sect n = { s.sect n with runEmpty := e }) ∧
        loadMoves s v p stored rs) := by
  obtain ⟨v, hv, hmode, hform⟩ := State.reportPoint_damaged r hbad
  have harrive : s.arriveDn d (.point .report r) = (v.activeFault ⟨.points, p⟩).pushReport r := by
    rw [State.arriveDn_ready s d _ hready, if_neg hbanked]
    exact (State.takeReport_damaged hcovered hport).trans (by rw [← hp, hv])
  have hfail : (v.activeFault ⟨.points, p⟩).mode = .failHold := by
    rw [State.activeFault_mode]
    split
    · rfl
    · next hnot =>
      rcases hmode with h | h
      · cases hs : s.mode with
        | transparent => exact absurd hs hbanked
        | screening => exact absurd (h.trans hs) hnot
        | failHold => exact h.trans hs
      · exact h
  refine ⟨v, _, congrArg Host.Outcome.next (congrArg State.settled harrive), rfl, hfail, ?_⟩
  rcases hform with h | ⟨rs, k, hcode, hcls, h⟩
  · exact .inl h
  · have hscene := State.imageReport_scene s.countDraw p { (s.activeBank.pointStatic p).content with deadband := k } rs r.value
    have hmoves := State.imageReport_moves s.countDraw p { (s.activeBank.pointStatic p).content with deadband := k } rs r.value
      rfl rfl
    rw [← h] at hscene hmoves
    subst hstored
    refine .inr ⟨rs, k, hcode, hcls, (hscene.point p).trans (State.imagedAt_self ..),
      fun q hq => (hscene.point q).trans (State.imagedAt_other _ _ _ _ _ hq), fun n => hscene.sects n, hmoves⟩

/-- A report forwarded after its imaging. -/
theorem imagedWithin_pushReport {s t : State} (h : ImagedWithin s t) (r : PointTel) : t.pushReport r = { s with
    load := t.load
    entries := t.entries
    pledgeSum := t.pledgeSum
    sects := t.sects
    upQueue := upReport s.upQueue r
    agenda := t.agenda } := by
  have hqueue : t.upQueue = s.upQueue := (congrArg State.upQueue h).trans rfl
  rw [State.pushReport, hqueue]
  exact congrArg (fun w : State => { w with upQueue := upReport s.upQueue r }) h

/-! ### The statement -/

/-- Settles O15. -/
theorem coveredReportIsImaged : Obligations.CoveredReportIsImaged := by
  unfold Obligations.CoveredReportIsImaged
  refine ⟨fun s d r w st rs p v himaged hp hv => ?_, fun s d r i w p stored hready hbanked hcovered hport hp hbad hstored =>
    State.damaged_report hready hbanked hcovered hport hp hbad hstored⟩
  have hquiet : s.agenda = [] := himaged.ready.1.2
  have hexec := exec_imagedReport himaged
  rw [← hp] at hexec
  obtain rfl : v = s.imagedAt p st rs r.value := hv
  obtain ⟨hstgood, hcontent⟩ := State.readPoint_static (hp ▸ himaged.static)
  have hmoves := State.imageReport_moves s p st rs r.value (by rw [hcontent]) (by rw [hcontent])
  have hmem := State.mem_imageReport_agenda s p st rs r.value hquiet
  rw [hexec]
  refine ⟨fun hgood => ?_, ?_⟩
  · obtain ⟨hframe, hsects⟩ := State.imageReport_good (s := s) (p := p) (st := st) (rs := rs) (v := r.value) hgood
    refine ⟨_, rfl, loadMoves.account hmoves ⟨rfl, rfl, rfl⟩, hsects, fun n c => ?_, fun n => ?_, ?_, fun x hx => ?_, ?_⟩
    · refine (hmem _).trans ?_
      constructor
      · rintro (⟨h, _⟩ | ⟨m, h, _⟩ | ⟨m, h, htrip⟩ | ⟨m, h, hfull⟩)
        · cases h
        · cases h
        · obtain ⟨rfl, rfl⟩ := Task.halt.inj h
          exact .inl ⟨rfl, htrip⟩
        · obtain ⟨rfl, rfl⟩ := Task.halt.inj h
          exact .inr ⟨rfl, hfull⟩
      · rintro (⟨rfl, htrip⟩ | ⟨rfl, hfull⟩)
        · exact .inr (.inr (.inl ⟨n, rfl, htrip⟩))
        · exact .inr (.inr (.inr ⟨n, rfl, hfull⟩))
    · refine (hmem _).trans ⟨?_, fun h => .inr (.inl ⟨n, rfl, h⟩)⟩
      rintro (⟨h, _⟩ | ⟨m, h, hre⟩ | ⟨m, h, _⟩ | ⟨m, h, _⟩)
      · cases h
      · obtain rfl := Task.reexamine.inj h
        exact hre
      · cases h
      · cases h
    · refine (hmem _).trans ⟨?_, fun h => .inl ⟨rfl, h⟩⟩
      rintro (⟨_, h⟩ | ⟨m, h, _⟩ | ⟨m, h, _⟩ | ⟨m, h, _⟩)
      · exact h
      · cases h
      · cases h
      · cases h
    · rcases (hmem x).1 hx with ⟨rfl, _⟩ | ⟨m, rfl, _⟩ | ⟨m, rfl, _⟩ | ⟨m, rfl, _⟩
      · exact .inl rfl
      · exact .inr (.inl ⟨m, rfl⟩)
      · exact .inr (.inr ⟨m, _, rfl⟩)
      · exact .inr (.inr ⟨m, _, rfl⟩)
    · exact imagedWithin_pushReport hframe r
  · have hreports := State.imageReport_keeps (s := s) (p := p) (st := st) (rs := rs) (v := r.value) r
    have hself := State.imagedAt_self s p st rs r.value
    refine ⟨_, rfl, ?_, ?_, ?_, fun q hq => ?_, fun n htrip hworks => ⟨?_, fun m hm c hc hfeeds hrole hphase hcampaign => ?_⟩,
      fun n hfull hruns => ?_, fun hheld => ?_⟩
    · rw [(hreports p).1, hself]
      rfl
    · rw [(hreports p).2.1, hself]
      rfl
    · rw [(hreports p).2.2, hself]
    · have hother := State.imagedAt_other s p st rs r.value hq
      rw [← hother]
      exact hreports q
    · exact State.imageReport_halts (C := fun h => h ∈ [HaltCause.trip, .needLost, .feedStop, .storeFull]) hquiet r (by simp)
        (by simp) ⟨by simp, by simp⟩ ((hmem _).2 (.inr (.inr (.inl ⟨n, rfl, htrip⟩)))) hworks
    · exact State.imageReport_feedStops hquiet r ((hmem _).2 (.inr (.inr (.inl ⟨n, rfl, htrip⟩)))) hworks hm hc hfeeds hrole
        hphase hcampaign
    · refine State.imageReport_halts (C := fun h => h ∈ [HaltCause.storeFull, .trip, .needLost, .feedStop]) hquiet r (by simp)
        (by simp) ⟨by simp, by simp⟩ ((hmem _).2 (.inr (.inr (.inr ⟨n, rfl, hfull⟩)))) ?_
      rw [hruns]
      rfl
    · obtain ⟨hsame, hpoints, hload⟩ := State.imageReport_stands (st := st) (rs := rs) (p := p) (v := r.value) r hheld
      exact ⟨hsame, (hpoints p).trans hself, fun q hq => (hpoints q).trans (State.imagedAt_other _ _ _ _ _ hq),
        hload.trans (loadMoves_load hmoves)⟩

end Sys2Proof.Machine
end

section

/-! PROOF. The millisecond that passes when nothing waits: what counts, and which timers expire. -/

namespace Sys2Proof.Machine

/-! ### The order of one instant's expiries -/

theorem State.chooseIndex_lt (s : State) {n : Nat} (h : 0 < n) : s.chooseIndex n < n := by
  unfold State.chooseIndex
  split
  · exact h
  · exact Nat.mod_lt _ h

theorem shuffle_perm {α : Type} (n : Nat) (l : List α) (s : State) (h : l.length = n) : (shuffle n l s).1.Perm l := by
  induction n generalizing l s with
  | zero =>
    rw [List.length_eq_zero_iff.1 h]
    exact List.Perm.nil
  | succ n ih =>
    have hindex := s.chooseIndex_lt (n := l.length) (by omega)
    rw [shuffle, List.getElem?_eq_getElem hindex]
    have hrest := ih (l.eraseIdx (s.chooseIndex l.length)) (s.countChoice l.length)
      (by rw [List.length_eraseIdx_of_lt hindex, h]; rfl)
    exact (hrest.cons _).trans (List.getElem_cons_eraseIdx_perm hindex)

theorem shuffle_frame {α : Type} (n : Nat) (l : List α) (s : State) :
    (shuffle n l s).2 = { s with draws := (shuffle n l s).2.draws } := by
  induction n generalizing l s with
  | zero => rfl
  | succ n ih =>
    unfold shuffle
    split
    · rfl
    · have hcount : s.countChoice l.length = { s with draws := (s.countChoice l.length).draws } := by
        unfold State.countChoice
        split <;> rfl
      exact (ih _ _).trans (congrArg (fun u : State => { u with
        draws := (shuffle n (l.eraseIdx (s.chooseIndex l.length)) (s.countChoice l.length)).2.draws }) hcount)

theorem State.queueDue_frame (s : State) : s.queueDue = { s with pending := s.queueDue.pending, draws := s.queueDue.draws } := by
  have h := shuffle_frame s.dueCommands.length s.dueCommands s
  unfold State.queueDue
  generalize shuffle s.dueCommands.length s.dueCommands s = r at h ⊢
  generalize r.2.draws = k at h
  simp only [h]

theorem State.mem_queueDue {s : State} (h : s.pending = []) (c : Instr) : c ∈ s.queueDue.pending ↔ c ∈ s.dueCommands := by
  have hsame : (shuffle s.dueCommands.length s.dueCommands s).2.pending = s.pending := by
    rw [shuffle_frame]
  have hpending : s.queueDue.pending = s.pending ++ (shuffle s.dueCommands.length s.dueCommands s).1 := by
    rw [← hsame]
    rfl
  rw [hpending, h, List.nil_append]
  exact (shuffle_perm _ _ s rfl).mem_iff

/-! ### Which timers have run their length -/

theorem Port.lossDue_iff (v : Port) : v.lossDue = true ↔ v.state = .up ∧ v.signal = false ∧ ∃ e, v.loss = some e ∧ 20 ≤ e := by
  have hloss : (match v.loss with | some e => decide (Config.lossMs ≤ e) | none => false) = true ↔
      ∃ e, v.loss = some e ∧ 20 ≤ e := by
    cases v.loss with
    | none => simp
    | some e => exact ⟨fun h => ⟨e, rfl, of_decide_eq_true h⟩, fun ⟨_, he, h⟩ => decide_eq_true (Option.some.inj he ▸ h)⟩
  rw [Port.lossDue, Bool.and_eq_true, Bool.and_eq_true, beq_iff_eq, Bool.not_eq_true', and_assoc]
  exact and_congr_right fun _ => and_congr_right fun _ => hloss

theorem State.mem_dueLines (s : State) (c : Instr) : c ∈ s.dueLines ↔
    (∃ p, (s.port p).provingDue = true ∧ c = .provingTimerExpiry p) ∨ (∃ p, (s.port p).lossDue = true ∧ c = .lossTimerExpiry p) ∨
      (∃ k, s.swapCheck = some k ∧ 20 ≤ k.elapsed) ∧ c = .swapCheckEnd := by
  have hports : ∀ f : PortId → Bool, ∀ g : PortId → Instr, c ∈ (allPorts.filter f).map g ↔ ∃ p, f p = true ∧ c = g p := by
    intro f g
    simp only [List.mem_map, List.mem_filter, mem_allPorts, true_and, eq_comm]
  rw [State.dueLines, List.mem_append, List.mem_append, hports, hports, or_assoc]
  refine or_congr_right (or_congr_right ?_)
  cases s.swapCheck with
  | none => simp
  | some k => by_cases hk : 20 ≤ k.elapsed <;> simp [Config.swapCheckMs, hk]

theorem State.mem_duePoints (s : State) (c : Instr) : c ∈ s.duePoints ↔
    (∃ p, s.staleDue p = true ∧ c = .staleTimerExpiry p) ∨
    (∃ n < 16, s.confirmDue n = true ∧ c = .confirmationTimerExpiry n) ∨
      ∃ n < 16, s.overdueUnder (s.activeBank.sec n) n = true ∧ c = .overdueTimerExpiry n := by
  have hsections : ∀ f : Nat → Bool, ∀ g : Nat → Instr, c ∈ (sectionNumbers.filter f).map g ↔ ∃ n < 16, f n = true ∧ c = g n := by
    intro f g
    simp only [List.mem_map, List.mem_filter, sectionNumbers, List.mem_range, and_assoc, eq_comm]
  have hpoints : c ∈ ((s.image.map Prod.fst).filter s.staleDue).map Instr.staleTimerExpiry ↔
      ∃ p, s.staleDue p = true ∧ c = .staleTimerExpiry p := by
    rw [List.mem_map]
    refine exists_congr fun p => ?_
    rw [List.mem_filter, eq_comm (b := c)]
    refine and_congr_left fun _ => and_iff_right_of_imp fun hdue => ?_
    by_contra hnot
    have hclear : s.point p = PointDyn.clear := by
      rw [State.point, Store.read, Store.find_eq_none hnot]
      rfl
    rw [State.staleDue, hclear] at hdue
    cases hdue
  rw [State.duePoints, List.mem_append, List.mem_append, hsections, hsections, hpoints, or_assoc]

theorem State.mem_dueOrders (s : State) (c : Instr) : c ∈ s.dueOrders ↔
    ((∃ t, s.periodTimer = some t ∧ s.timerDue 1 t = true) ∧ c = .periodBoundary) ∨
    ((∃ t, s.tallyTimer = some t ∧ s.timerDue 600 t = true) ∧ c = .tallyDecay) ∨
    (∃ h ∈ s.held, s.holdDue h = true ∧ c = .holdExpired h.tel.dest h.tel.point) ∨
      ∃ e ∈ s.entries, s.replyDue e = true ∧ c = .replyTimeout e.seq := by
  have htimer : ∀ (o : Option Timer) (k : Nat) (x : Instr),
      c ∈ (match o with | some t => if s.timerDue k t then [x] else [] | none => []) ↔
        (∃ t, o = some t ∧ s.timerDue k t = true) ∧ c = x := by
    intro o k x
    cases o with
    | none => simp
    | some t => by_cases ht : s.timerDue k t = true <;> simp [ht]
  rw [State.dueOrders, List.mem_append, List.mem_append, List.mem_append, or_assoc, or_assoc]
  refine or_congr (htimer _ _ _) (or_congr (htimer _ _ _) (or_congr ?_ ?_))
  · simp only [List.mem_map, List.mem_filter, and_assoc, eq_comm (b := c)]
  · simp only [List.mem_map, List.mem_filter, and_assoc, eq_comm (b := c)]

theorem State.staleDue_iff_dueNow (s : State) (p : Nat) : s.staleDue p = true ↔ dueNow s (.staleTimerExpiry p) := by
  constructor
  · intro hdue
    cases hindex : s.activeBank.storedIndexOf p with
    | none =>
      rw [State.staleDue, Bank.storedWindowOf, hindex] at hdue
      cases hrep : (s.point p).report <;> simp [hrep] at hdue
    | some i =>
      have hi := Bank.storedIndexOf_some.1 hindex
      obtain ⟨hfresh, rep, hrep, htime⟩ := (State.staleDue_iff hi).1 hdue
      exact ⟨hfresh, rep, i, hrep, hi, htime⟩
  · rintro ⟨hfresh, rep, i, hrep, hi, htime⟩
    exact (State.staleDue_iff hi).2 ⟨hfresh, rep, hrep, htime⟩

theorem State.confirmDue_iff_exists (s : State) (n : Nat) : s.confirmDue n = true ↔
    ∃ t, (s.sect n).runEmpty = .counting t ∧ 10 * (s.activeBank.sec n).confirmTime ≤ (s.clock - t).toNat := by
  cases hempty : (s.sect n).runEmpty with
  | counting t =>
    rw [State.confirmDue_iff hempty]
    exact ⟨fun h => ⟨t, rfl, h⟩, fun ⟨_, ht, h⟩ => RunEmpty.counting.inj ht ▸ h⟩
  | notCounting => simp [State.confirmDue, hempty]
  | confirmed => simp [State.confirmDue, hempty]

theorem State.overdueUnder_iff (s : State) (n : Nat) : s.overdueUnder (s.activeBank.sec n) n = true ↔
    stayLimit (s.activeBank.sec n) (s.phaseOf n) ≠ 0 ∧ (s.sect n).overdue = false ∧
      600 * stayLimit (s.activeBank.sec n) (s.phaseOf n) ≤ (s.clock - (s.sect n).entryTime).toNat := by
  have hlimit : (s.activeBank.sec n).phaseLimit (s.phaseOf n) = stayLimit (s.activeBank.sec n) (s.phaseOf n) := by
    rw [stayLimit]
    cases s.phaseOf n <;> rfl
  rw [State.overdueUnder, hlimit, Bool.and_eq_true, Bool.and_eq_true, bne_iff_ne, Bool.not_eq_true', decide_eq_true_eq, and_assoc]
  rfl

theorem State.replyDue_iff (s : State) (e : Entry) : s.replyDue e = true ↔
    ∃ t, e.lane = .sent t ∧ e.timeout ≤ (s.clock - t).toNat := by
  cases hlane : e.lane with
  | queued => simp [State.replyDue, hlane]
  | sent t =>
    rw [State.replyDue, hlane]
    exact ⟨fun h => ⟨t, rfl, of_decide_eq_true h⟩, fun ⟨_, ht, h⟩ => decide_eq_true (LaneState.sent.inj ht ▸ h)⟩

theorem State.mem_dueCommands (s : State) (c : Instr) : c ∈ s.dueCommands ↔ dueNow s c := by
  rw [State.dueCommands, List.mem_append, List.mem_append, State.mem_dueLines, State.mem_duePoints, State.mem_dueOrders]
  constructor
  · rintro (((⟨p, h, rfl⟩ | ⟨p, h, rfl⟩ | ⟨h, rfl⟩) | ⟨p, h, rfl⟩ | ⟨n, hn, h, rfl⟩ | ⟨n, hn, h, rfl⟩) |
      ⟨⟨t, ht, h⟩, rfl⟩ | ⟨⟨t, ht, h⟩, rfl⟩ | ⟨x, hx, h, rfl⟩ | ⟨e, he, h, rfl⟩)
    · exact (Port.provingDue_iff _).1 h
    · exact (Port.lossDue_iff _).1 h
    · exact h
    · exact (State.staleDue_iff_dueNow s p).1 h
    · exact ⟨hn, (State.confirmDue_iff_exists s n).1 h⟩
    · exact ⟨hn, (State.overdueUnder_iff s n).1 h⟩
    · exact ⟨t, ht, by simpa using (State.timerDue_iff s 1 t).1 h⟩
    · exact ⟨t, ht, (State.timerDue_iff s 600 t).1 h⟩
    · exact ⟨x, hx, rfl, rfl, of_decide_eq_true h⟩
    · exact ⟨e, he, rfl, (State.replyDue_iff s e).1 h⟩
  · intro h
    unfold dueNow at h
    split at h
    · next p => exact .inl (.inl (.inl ⟨p, (Port.provingDue_iff _).2 h, rfl⟩))
    · next p => exact .inl (.inl (.inr (.inl ⟨p, (Port.lossDue_iff _).2 h, rfl⟩)))
    · exact .inl (.inl (.inr (.inr ⟨h, rfl⟩)))
    · next p => exact .inl (.inr (.inl ⟨p, (State.staleDue_iff_dueNow s p).2 h, rfl⟩))
    · next n => exact .inl (.inr (.inr (.inl ⟨n, h.1, (State.confirmDue_iff_exists s n).2 h.2, rfl⟩)))
    · next n => exact .inl (.inr (.inr (.inr ⟨n, h.1, (State.overdueUnder_iff s n).2 h.2, rfl⟩)))
    · obtain ⟨t, ht, hdue⟩ := h
      exact .inr (.inl ⟨⟨t, ht, (State.timerDue_iff s 1 t).2 (by simpa using hdue)⟩, rfl⟩)
    · obtain ⟨t, ht, hdue⟩ := h
      exact .inr (.inr (.inl ⟨⟨t, ht, (State.timerDue_iff s 600 t).2 hdue⟩, rfl⟩))
    · obtain ⟨x, hx, rfl, rfl, hdue⟩ := h
      exact .inr (.inr (.inr (.inl ⟨x, hx, decide_eq_true hdue, rfl⟩)))
    · obtain ⟨e, he, rfl, hdue⟩ := h
      exact .inr (.inr (.inr (.inr ⟨e, he, (State.replyDue_iff s e).2 hdue, rfl⟩)))
    · exact h.elim

/-! ### The millisecond -/

theorem State.freeLines_frame (s : State) : s.freeLines = { s with ports := s.freeLines.ports, draws := s.freeLines.draws } := by
  unfold State.freeLines
  generalize allDnPorts = l
  induction l generalizing s with
  | nil => rfl
  | cons d l ih =>
    exact (ih (s.freeLine d)).trans (congrArg (fun u : State => { u with
      ports := (l.foldl State.freeLine (s.freeLine d)).ports, draws := (l.foldl State.freeLine (s.freeLine d)).draws })
      (s.freeLine_frame d))

theorem State.freeLines_port (s : State) (p : PortId) :
    ∃ l, (l = (s.port p).line ∨ (l = none ∧ ∃ d, p = .dn d)) ∧ s.freeLines.port p = { s.port p with line := l } := by
  unfold State.freeLines
  generalize allDnPorts = ds
  induction ds generalizing s with
  | nil => exact ⟨_, .inl rfl, rfl⟩
  | cons d ds ih =>
    obtain ⟨l, hl, hport⟩ := s.freeLine_port d p
    obtain ⟨l', hl', hport'⟩ := ih (s.freeLine d)
    refine ⟨l', ?_, by rw [List.foldl_cons, hport', hport]⟩
    rw [hport] at hl'
    rcases hl' with rfl | hnone
    · exact hl.imp_right fun h => ⟨h.1, d, h.2⟩
    · exact .inr hnone

theorem State.tickClock_count (s : State) :
    if s.subMs + 1 < 100 then s.tickClock.subMs = s.subMs + 1 ∧ s.tickClock.clock = s.clock
    else s.tickClock.subMs = 0 ∧ s.tickClock.clock = s.clock + 1 := by
  unfold State.tickClock
  split <;> exact ⟨rfl, rfl⟩

theorem State.port_queueDue (s : State) (p : PortId) : s.queueDue.port p = s.port p := by
  rw [s.queueDue_frame]
  rfl

theorem State.dueNow_queueDue (s : State) (c : Instr) : dueNow s.queueDue c ↔ dueNow s c := by
  rw [s.queueDue_frame]
  exact Iff.rfl

/-- Nothing changes but the clock, the line timers, a swap check, the commands that wait and the count of free values. -/
def CountsWithin (s t : State) : Prop := t = { s with
  subMs := t.subMs
  clock := t.clock
  ports := t.ports
  swapCheck := t.swapCheck
  pending := t.pending
  draws := t.draws }

theorem CountsWithin.trans {s t u : State} (h : CountsWithin s t) (h' : CountsWithin t u) : CountsWithin s u :=
  Eq.trans h' (congrArg (fun w : State => { w with
    subMs := u.subMs, clock := u.clock, ports := u.ports, swapCheck := u.swapCheck, pending := u.pending, draws := u.draws }) h)

namespace CountsWithin

theorem of_lines {s t : State} {p : Store Port} {c : Option SwapCheck} (h : t = { s with ports := p, swapCheck := c }) :
    CountsWithin s t := by
  subst h
  rfl

theorem of_freed {s t : State} {p : Store Port} {d : Nat} (h : t = { s with ports := p, draws := d }) : CountsWithin s t := by
  subst h
  rfl

theorem of_queued {s t : State} {p : List Instr} {d : Nat} (h : t = { s with pending := p, draws := d }) : CountsWithin s t := by
  subst h
  rfl

theorem tickClock (s : State) : CountsWithin s s.tickClock := by
  unfold State.tickClock
  split <;> rfl

end CountsWithin

/-- Settles O3. -/
theorem aMillisecondPassesWhenNothingWaits : Obligations.AMillisecondPassesWhenNothingWaits := by
  unfold Obligations.AMillisecondPassesWhenNothingWaits
  refine ⟨fun s hnone hreset => ?_, fun s hnone hreset => ?_⟩
  · have hstep : step s = .next s.tickPorts.tickSwap.tickClock.freeLines.queueDue := by
      rw [step, hnone]
      exact congrArg Host.Outcome.next (if_neg (by rw [hreset]; exact Bool.false_ne_true))
    have hclock : s.tickPorts.tickSwap.tickClock = { s.tickPorts.tickSwap with
        subMs := s.tickPorts.tickSwap.tickClock.subMs, clock := s.tickPorts.tickSwap.tickClock.clock } := by
      unfold State.tickClock
      split <;> rfl
    have htick : ∀ p, s.tickPorts.tickSwap.tickClock.port p = (s.port p).tick := fun p => by
      rw [hclock]
      exact s.port_tickPorts p
    have hcount : if s.subMs + 1 < 100 then s.tickPorts.tickSwap.tickClock.subMs = s.subMs + 1 ∧
        s.tickPorts.tickSwap.tickClock.clock = s.clock
        else s.tickPorts.tickSwap.tickClock.subMs = 0 ∧ s.tickPorts.tickSwap.tickClock.clock = s.clock + 1 :=
      s.tickPorts.tickSwap.tickClock_count
    have hports := s.tickPorts.tickSwap.tickClock.freeLines_port
    have hlines := s.tickPorts.tickSwap.tickClock.freeLines_frame
    have hempty : s.tickPorts.tickSwap.tickClock.freeLines.pending = [] := by
      rw [hlines, hclock]
      exact hnone
    have hqueue := s.tickPorts.tickSwap.tickClock.freeLines.queueDue_frame
    have hmem := State.mem_queueDue hempty
    rw [hstep]
    refine ⟨_, rfl, ?_, fun p => ?_, ?_, fun c => ?_, ?_⟩
    · rw [hqueue, hlines]
      exact hcount
    · obtain ⟨l, hl, hport⟩ := hports p
      rw [htick] at hl hport
      exact ⟨l, hl, (s.tickPorts.tickSwap.tickClock.freeLines.port_queueDue p).trans hport⟩
    · rw [hqueue, hlines, hclock]
      rfl
    · rw [hmem, State.mem_dueCommands]
      exact (State.dueNow_queueDue _ c).symm
    · exact (((CountsWithin.of_lines (s := s) rfl).trans (CountsWithin.tickClock _)).trans
        (CountsWithin.of_freed (State.freeLines_frame _))).trans (CountsWithin.of_queued (State.queueDue_frame _))
  · rw [step, hnone]
    exact congrArg Host.Outcome.next (if_pos hreset)

end Sys2Proof.Machine
end

section

/-! PROOF. The loss timer: a port that goes DOWN, its points and its outstanding entries (R16, R146, R150, R151). -/

namespace Sys2Proof.Machine

/-! ### What moves no entry -/

namespace SameAccount

theorem offerNotice (s : State) (k : NoticeKind) (n p : Option Nat) (c : Cause) : SameAccount s (s.offerNotice k n p c) := by
  rw [State.offerNotice_frame]
  exact ⟨rfl, rfl, rfl⟩

theorem permitOutOf (s : State) (n : Nat) : SameAccount s (s.permitOutOf n) := by
  unfold State.permitOutOf
  split
  · split <;> exact ⟨rfl, rfl, rfl⟩
  · exact refl s

theorem changePhase (s : State) (n : Nat) (t : Phase) (c : Option HaltCause) : SameAccount s (s.changePhase n t c) := by
  have hset : SameAccount s (s.setSect n (s.inPhase n t c)) := ⟨rfl, rfl, rfl⟩
  unfold State.changePhase
  exact (((hset.trans (offerNotice ..)).trans (permitOutOf ..)).trans (checkReads ..)).trans ⟨rfl, rfl, rfl⟩

theorem takeHalt (s : State) (n : Nat) (c : HaltCause) : SameAccount s (s.takeHalt n c) := by
  unfold State.takeHalt State.enterHalted
  split
  · exact (changePhase ..).trans ⟨rfl, rfl, rfl⟩
  · exact refl s

theorem reexamine (s : State) (n : Nat) : SameAccount s (s.reexamine n) := by
  unfold State.reexamine
  simp only
  split
  · exact (checkReads ..).trans (changePhase ..)
  · exact checkReads ..

theorem testCompletion (s : State) : SameAccount s s.testCompletion := by
  unfold State.testCompletion State.changeCampaign
  simp only
  split
  · have hset : ∀ (u : State) (m : CampaignMode), SameAccount u { u with campaign := m } := fun u m => ⟨rfl, rfl, rfl⟩
    exact (((checkReads ..).trans (hset _ _)).trans (offerNotice ..)).trans ⟨rfl, rfl, rfl⟩
  · exact checkReads ..

end SameAccount

/-! ### A DN port that is not UP takes no order -/

/-- A DN port is not UP and holds no outstanding entry. -/
structure Vacated (d : DnPort) (s : State) : Prop where
  port : (s.port (.dn d)).state ≠ .up
  entries : ∀ x ∈ s.entries, x.port ≠ d

namespace Vacated

variable {d : DnPort}

theorem of_ports {s t : State} (h : Vacated d s) (hsteady : t.steady = s.steady) (hentries : ∀ x ∈ t.entries, x ∈ s.entries ∨ x.port ≠ d) :
    Vacated d t where
  port := by
    have hports : t.ports = s.ports := congrArg Steady.ports hsteady
    rw [State.port, hports]
    exact h.port
  entries x hx := (hentries x hx).elim (h.entries x) id

theorem of_account {s t : State} (h : Vacated d s) (hsteady : t.steady = s.steady) (hsame : SameAccount s t) : Vacated d t :=
  h.of_ports hsteady fun x hx => .inl (by rw [hsame.entries] at hx; exact hx)

theorem refuse {s : State} (h : Vacated d s) (o : PointTel) (r : RefusalReason) : Vacated d (s.refuse o r) := by
  rw [State.refuse_eq]
  exact h.of_account rfl ⟨rfl, rfl, rfl⟩

theorem addEntry {s : State} (h : Vacated d s) {e : Entry} (he : e.port ≠ d) : Vacated d (s.addEntry e) :=
  h.of_ports rfl fun x hx => by
    rcases List.mem_append.1 hx with hx | hx
    · exact .inl hx
    · rw [List.mem_singleton.1 hx]
      exact .inr he

/-- An order screened to a destination has an UP port. -/
theorem other_of_known {s : State} (h : Vacated d s) {o : PointTel} {a : Addressed} (hd : s.judgeDestination o = .known a) :
    a.window.port ≠ d := by
  rintro rfl
  unfold State.judgeDestination at hd
  split at hd
  · cases hd
  · split at hd
    · cases hd
    · cases hd
    · next w _ =>
      split at hd
      · cases hd
      · next hup =>
        split at hd
        · cases hd
        · have hwindow : a.window = w := by
            unfold State.judgeClass at hd
            split at hd
            · cases hd
            · split at hd
              · cases hd
              · split at hd
                · rw [← Destination.known.inj hd]
                · cases hd
          rw [← hwindow] at hup
          exact hup h.port

theorem admitOrder {s : State} (h : Vacated d s) (o : PointTel) {a : Addressed} (row : ScreenRow) (c : Option BudgetClass)
    (ha : a.window.port ≠ d) : Vacated d (s.admitOrder o a row c) := by
  have hbefore : ((s.charge c a.static.startCost).admitPoint a (s.shape a row o.value)).entries = s.entries := by
    have hpoint : ∀ (u : State) (v : Word), (u.admitPoint a v).entries = u.entries := fun u v => by
      unfold State.admitPoint
      split <;> rfl
    rw [hpoint]
    unfold State.charge
    split <;> rfl
  refine h.of_ports (State.admit_steady ..) fun x hx => ?_
  have hx : x ∈ ((s.charge c a.static.startCost).admitPoint a (s.shape a row o.value)).entries ++ _ := hx
  rcases List.mem_append.1 hx with hx | hx
  · exact .inl (hbefore ▸ hx)
  · rw [List.mem_singleton.1 hx]
    exact .inr ha

theorem rescreen {s : State} (h : Vacated d s) (r : HeldRec) (ahead : List HeldRec) : Vacated d (s.rescreen r ahead).state := by
  have hrefused : ∀ x f, Vacated d (s.refuseHeld r x f).state := fun x f => by
    cases f <;> exact h.refuse r.tel x
  unfold State.rescreen
  split
  · exact hrefused _ _
  · next a ha =>
    have hother := h.other_of_known ha
    split
    · exact hrefused _ _
    · exact h.addEntry hother
    · split
      · exact h.refuse _ _
      · exact h
    · exact h.admitOrder _ _ _ hother

theorem activeFault {s : State} (h : Vacated d s) (e : EntryRef) : Vacated d (s.activeFault e) :=
  h.of_account (SameCourse.activeFault s e).steady (SameAccount.activeFault s e)

theorem setHeld {s : State} (h : Vacated d s) (l : List HeldRec) : Vacated d (s.setHeld l) := ⟨h.port, h.entries⟩

theorem scan {s : State} (h : Vacated d s) : Vacated d s.scan := by
  have hrest : ∀ (l ahead : List HeldRec) (u : State), Vacated d u → Vacated d (scanRest u ahead l) := by
    intro l
    induction l with
    | nil => exact fun ahead u hu => hu.setHeld _
    | cons r l ih =>
      intro ahead u hu
      have hr := hu.rescreen r ahead
      unfold scanRest
      cases hx : u.rescreen r ahead with
      | gone v =>
        rw [hx] at hr
        exact ih _ _ hr
      | again v r' =>
        rw [hx] at hr
        exact ih _ _ hr
      | faulted v f =>
        rw [hx] at hr
        exact (Vacated.setHeld hr _).activeFault f
  exact hrest _ _ _ h

theorem offerNotice {s : State} (h : Vacated d s) (k : NoticeKind) (n p : Option Nat) (c : Cause) :
    Vacated d (s.offerNotice k n p c) :=
  h.of_account (SameCourse.offerNotice ..).steady (SameAccount.offerNotice ..)

theorem issueTrip {s : State} (h : Vacated d s) (n : Nat) (a : TripAction) : Vacated d (State.issueTrip n s a) := by
  unfold State.issueTrip State.tripFailed
  split
  · next w _ =>
    split
    · exact h.offerNotice ..
    · next hup =>
      have hother : w.port ≠ d := by
        rintro rfl
        exact hup h.port
      split
      · have hadded := h.addEntry (e := s.tripEntry n a w) hother
        exact ⟨hadded.port, hadded.entries⟩
      · exact h.offerNotice ..
  · exact h.offerNotice ..
  · exact (h.offerNotice ..).activeFault _

theorem issueTrips {s : State} (h : Vacated d s) (n : Nat) : Vacated d (s.issueTrips n) := by
  unfold State.issueTrips
  split
  · exact List.foldlRecOn (motive := fun u : State => Vacated d u) _ _ h fun u hu a _ => hu.issueTrip n a
  · exact (h.offerNotice ..).activeFault _

theorem runTask {s : State} (h : Vacated d s) (t : Task) : Vacated d (s.runTask t) := by
  have hsteady := State.runTask_steady s t
  cases t with
  | halt n c => exact h.of_account hsteady (SameAccount.takeHalt s n c)
  | haltFirst n c => exact h.of_account hsteady (SameAccount.takeHalt s n c)
  | reexamine n => exact h.of_account hsteady (SameAccount.reexamine s n)
  | tripActions n => exact h.issueTrips n
  | completion => exact h.of_account hsteady (SameAccount.testCompletion s)
  | scan => exact h.scan

theorem settled {s : State} (h : Vacated d s) : Vacated d s.settled :=
  State.settled_keeps (Vacated d) (fun _ _ h => ⟨h.port, h.entries⟩) (fun _ h => ⟨h.port, h.entries⟩) (fun _ t h => h.runTask t) s h

end Vacated

/-! ### The entries of a lost port (R146) -/

theorem endedEntry_entries (s : State) (e : Entry) (r : RefusalReason) :
    (endedEntry s e r).entries = s.entries.filter (fun x => x.seq != e.seq) := by
  unfold endedEntry
  cases e.origin with
  | supervisory src => rfl
  | part n =>
    simp only
    rw [State.offerNotice_frame]

/-- No entry of a lost port is left. -/
theorem State.loseEntries_entries (s : State) (d : DnPort) : ∀ x ∈ (s.loseEntries d).entries, x.port ≠ d := by
  have hfold : ∀ (l : List Entry) (u : State), (∀ x ∈ u.entries, x.port = d → x ∈ l) →
      ∀ x ∈ (l.foldl (fun s e => s.failEntry e .linkLost) u).entries, x.port ≠ d := by
    intro l
    induction l with
    | nil => exact fun u hu x hx hp => List.not_mem_nil (hu x hx hp)
    | cons e l ih =>
      intro u hu
      rw [List.foldl_cons]
      refine ih _ fun x hx hp => ?_
      rw [State.failEntry_entries] at hx
      obtain ⟨hx, hne⟩ := List.mem_filter.1 hx
      rcases List.mem_cons.1 (hu x hx hp) with rfl | hl
      · simp at hne
      · exact hl
  exact hfold _ s fun x hx hp => List.mem_filter.2 ⟨hx, beq_iff_eq.2 hp⟩

theorem KeepsReports.failEntry (s : State) (e : Entry) (r : RefusalReason) : KeepsReports s (s.failEntry e r) := by
  rw [State.failEntry_eq]
  refine KeepsReports.of_image ?_
  show (endedEntry s e r).image = s.image
  unfold endedEntry
  cases e.origin with
  | supervisory src => rfl
  | part n =>
    simp only
    rw [State.offerNotice_frame]

theorem State.loseEntries_keeps (s : State) (d : DnPort) : KeepsReports s (s.loseEntries d) ∧ (s.loseEntries d).steady = s.steady :=
  ⟨KeepsReports.foldl _ (fun u e => KeepsReports.failEntry u e _) _ _,
    foldl_keeps State.steady _ (fun u e => State.failEntry_steady u e _) _ _⟩

theorem endedEntry_setAgenda (s : State) (l : List Task) (e : Entry) (r : RefusalReason) :
    endedEntry (s.setAgenda l) e r = (endedEntry s e r).setAgenda l := by
  unfold endedEntry
  cases e.origin with
  | supervisory src => rfl
  | part n => exact State.offerNotice_setAgenda { s with
      entries := s.entries.filter (fun x => x.seq != e.seq), pledgeSum := s.pledgeSum - e.pledged } l _ _ _ _

/-- Ending the entries of a list leaves what each end leaves, and scans. -/
theorem State.foldl_failEntry_eq (es : List Entry) (r : RefusalReason) (s : State) (l : List Task) :
    es.foldl (fun u e => u.failEntry e r) (s.setAgenda l) =
      (es.foldl (fun u e => endedEntry u e r) s).setAgenda (l ++ es.flatMap Entry.scans) := by
  induction es generalizing s l with
  | nil => rw [List.flatMap_nil, List.append_nil]; rfl
  | cons e es ih =>
    have hstep : (s.setAgenda l).failEntry e r = (endedEntry s e r).setAgenda (l ++ e.scans) := by
      rw [State.failEntry_eq, endedEntry_setAgenda]
      rfl
    rw [List.foldl_cons, hstep, ih, List.foldl_cons, List.flatMap_cons, List.append_assoc]

theorem Entry.eq_scan_of_mem_scans {e : Entry} {t : Task} (h : t ∈ e.scans) : t = .scan := by
  unfold Entry.scans at h
  rcases List.mem_cons.1 h with rfl | h
  · rfl
  · rcases List.mem_append.1 h with h | h <;> split at h
    · exact List.mem_singleton.1 h
    · cases h
    · cases h
    · exact List.mem_singleton.1 h

/-- An event that has only scans to take, with nothing held, changes nothing more. -/
theorem State.settled_only_scans {s : State} {l : List Task} (hheld : s.held = []) (hl : ∀ t ∈ l, t = .scan) :
    (s.setAgenda l).settled = s.setAgenda [] := by
  rw [State.settled_of_inert]
  · rfl
  · intro t ht
    rw [hl t ht]
    show s.held.isEmpty = true
    rw [hheld]
    rfl

/-! ### The points of a lost port (R16) -/

theorem Window.mem_range {w : Window} (hw : w.defined = true) (q : Nat) : q ∈ w.range ↔ w.holds q = true := by
  rw [Window.range, Window.holds, hw]
  by_cases h : w.first ≤ w.last
  · rw [if_pos h]
    simp only [List.mem_map, List.mem_range, Bool.true_and, h, decide_true, Bool.and_eq_true, decide_eq_true_eq]
    constructor
    · rintro ⟨k, hk, rfl⟩
      omega
    · rintro ⟨h1, h2⟩
      exact ⟨q - w.base, by omega, by omega⟩
  · rw [if_neg h]
    simp [h]

theorem State.mem_portPoints {s : State} {d : DnPort} {q : Nat} :
    q ∈ s.portPoints d ↔ ∃ i < 32, ∃ w, s.readWindow i = some w ∧ w.holds q = true ∧ w.port = d := by
  rw [State.portPoints, List.mem_flatMap]
  refine exists_congr fun i => ?_
  rw [List.mem_range]
  refine and_congr_right fun _ => ?_
  cases hw : s.readWindow i with
  | none => simp
  | some w =>
    by_cases hdefined : w.defined = true
    · by_cases hport : w.port = d
      · simp [hdefined, hport, Window.mem_range hdefined]
      · simp [hdefined, hport]
    · simp [hdefined, Window.holds]

/-- Staleness of a point moves no report, and no other point. -/
theorem State.makeStale_fresh_of (s : State) (p q : Nat) : ((s.makeStale p).point q).fresh =
    if q = p then false else (s.point q).fresh := by
  by_cases hfresh : (s.point p).fresh = true
  · rw [State.makeStale_fresh hfresh, (KeepsReports.imageChanged (s.staled p) p (s.point p) q).2.1, State.staled_point]
    split <;> rfl
  · rw [State.makeStale, if_neg hfresh]
    split
    · next h => rw [h]; exact Bool.eq_false_iff.2 hfresh
    · rfl

theorem State.foldl_makeStale_fresh (l : List Nat) (s : State) (q : Nat) :
    ((l.foldl State.makeStale s).point q).fresh = if q ∈ l then false else (s.point q).fresh := by
  induction l generalizing s with
  | nil => rfl
  | cons p l ih =>
    rw [List.foldl_cons, ih, State.makeStale_fresh_of]
    by_cases hl : q ∈ l
    · rw [if_pos hl, if_pos (List.mem_cons_of_mem _ hl)]
    · rw [if_neg hl]
      exact if_congr (by simp [hl]) rfl rfl

theorem State.foldl_makeStale_of_stale {l : List Nat} {s : State} (h : ∀ q ∈ l, (s.point q).fresh = false) :
    l.foldl State.makeStale s = s := by
  induction l with
  | nil => rfl
  | cons p l ih =>
    have hp : s.makeStale p = s := if_neg (by rw [h p List.mem_cons_self]; exact Bool.false_ne_true)
    rw [List.foldl_cons, hp]
    exact ih fun q hq => h q (List.mem_cons_of_mem _ hq)

/-! ### The loss timer (R150, R151) -/

/-- The port DOWN, with LINK_CHANGED offered. -/
def State.portLost (s : State) (p : PortId) : State :=
  (s.setPort p { s.port p with state := .down, loss := none, linkLost := true, repeatLane := [], line := none }).offerNotice
    .linkChanged none none (.link p false)

theorem State.portLost_agenda (s : State) (p : PortId) : (s.portLost p).agenda = s.agenda := State.offerNotice_agenda ..

theorem State.portLost_mode (s : State) (p : PortId) : (s.portLost p).mode = s.mode := State.offerNotice_mode ..

theorem State.portLost_down (s : State) (p : PortId) : ((s.portLost p).port p).state ≠ .up := by
  have hports : (s.portLost p).port p =
      { s.port p with state := .down, loss := none, linkLost := true, repeatLane := [], line := none } := by
    rw [State.portLost, State.offerNotice_frame]
    exact State.port_setPort_same ..
  rw [hports]
  exact PortState.noConfusion

theorem State.portLost_bank (s : State) (p : PortId) : (s.portLost p).activeBank = s.activeBank := by
  rw [State.portLost, State.offerNotice_frame]
  rfl

theorem State.exec_loss (s : State) (p : PortId) : exec (.lossTimerExpiry p) s = .next (s.lossExpires p).settled := rfl

theorem State.lossExpires_due {s : State} {p : PortId} {e : Nat} (h : s.atRest) (hstate : (s.port p).state = .up)
    (hsignal : (s.port p).signal = false) (hloss : (s.port p).loss = some e) (hdue : 20 ≤ e) :
    s.lossExpires p = s.portDown p := by
  refine if_pos ?_
  rw [h.1, (Port.lossDue_iff _).2 ⟨hstate, hsignal, e, hloss, hdue⟩]
  rfl

theorem State.lossExpires_before {s : State} {p : PortId} (h : (s.port p).state ≠ .up ∨ (s.port p).signal = true ∨
    (s.port p).loss = none ∨ (∃ e < 20, (s.port p).loss = some e)) : s.lossExpires p = s := by
  refine if_neg fun hdue => ?_
  obtain ⟨hstate, hsignal, e, hloss, htime⟩ := (Port.lossDue_iff _).1 (Bool.and_eq_true _ _ ▸ hdue).2
  rcases h with h | h | h | ⟨k, hk, h⟩
  · exact h hstate
  · rw [hsignal] at h
    cases h
  · rw [hloss] at h
    cases h
  · rw [hloss] at h
    obtain rfl := Option.some.inj h
    omega

theorem State.portScan_eq (s : State) (p : PortId) : ∃ l, (∀ t ∈ l, t = Task.scan) ∧ s.portScan p = s.setAgenda (s.agenda ++ l) := by
  have hnone : ∃ l, (∀ t ∈ l, t = Task.scan) ∧ s = s.setAgenda (s.agenda ++ l) :=
    ⟨[], fun t ht => absurd ht List.not_mem_nil, by rw [List.append_nil]; rfl⟩
  cases p with
  | up => exact hnone
  | dn d =>
    by_cases hmode : s.mode = .transparent
    · rw [show s.portScan (.dn d) = s from if_pos hmode]
      exact hnone
    · rw [show s.portScan (.dn d) = s.startScan from if_neg hmode]
      exact ⟨[.scan], fun t ht => List.mem_singleton.1 ht, rfl⟩

/-- The windows read at the loss of a segment. -/
def windowRefs : List EntryRef := (List.range 32).map (fun i => ⟨.windows, i⟩)

theorem State.portDown_dn {s : State} {d : DnPort} (hbanked : s.banked) : s.portDown (.dn d) =
    ((((((s.portLost (.dn d)).checkReads windowRefs).portPoints d).foldl State.makeStale
      ((s.portLost (.dn d)).checkReads windowRefs))).loseEntries d).portScan (.dn d) := by
  have hmode : (s.portLost (.dn d)).mode ≠ .transparent := by
    rw [State.portLost_mode]
    exact hbanked
  have hsegment : (s.portLost (.dn d)).loseSegment d =
      (((((s.portLost (.dn d)).checkReads windowRefs).portPoints d).foldl State.makeStale
        ((s.portLost (.dn d)).checkReads windowRefs))).loseEntries d := if_neg hmode
  exact congrArg (fun u : State => u.portScan (.dn d)) hsegment

/-- The end of a loss: the ports as the loss left them, no entry of the port, every point of its windows STALE. -/
theorem State.portDown_loses {s : State} {d : DnPort} (hbanked : s.banked) :
    (s.portDown (.dn d)).settled.ports = (s.portLost (.dn d)).ports ∧
    (∀ x ∈ (s.portDown (.dn d)).settled.entries, x.port ≠ d) ∧
    ∀ q ∈ s.portPoints d, ((s.portDown (.dn d)).settled.point q).fresh = false := by
  rw [State.portDown_dn hbanked]
  have hreads := SameScene.checkReads (s.portLost (.dn d)) windowRefs
  have hpoints : ((s.portLost (.dn d)).checkReads windowRefs).portPoints d = s.portPoints d := by
    have hread : ∀ i, ((s.portLost (.dn d)).checkReads windowRefs).readWindow i = s.readWindow i := fun i => by
      rw [State.readWindow, hreads.activeBank, State.portLost_bank]
      rfl
    simp only [State.portPoints, hread]
  rw [hpoints]
  have hsteady := hreads.steady
  generalize (s.portLost (.dn d)).checkReads windowRefs = a at hsteady
  have hstale := fun q => State.foldl_makeStale_fresh (s.portPoints d) a q
  have hkeeps : ((s.portPoints d).foldl State.makeStale a).steady = a.steady :=
    foldl_keeps State.steady _ (fun u q => State.makeStale_steady u q) _ _
  generalize (s.portPoints d).foldl State.makeStale a = b at hstale hkeeps
  obtain ⟨hreports, hlost⟩ := b.loseEntries_keeps d
  have hentries := b.loseEntries_entries d
  generalize b.loseEntries d = c at hreports hlost hentries
  obtain ⟨l, _, hscan⟩ := c.portScan_eq (.dn d)
  rw [hscan]
  have hall : (c.setAgenda (c.agenda ++ l)).settled.steady = (s.portLost (.dn d)).steady :=
    (State.settled_steady _).trans (hlost.trans (hkeeps.trans hsteady))
  have hports : c.ports = (s.portLost (.dn d)).ports := congrArg Steady.ports (hlost.trans (hkeeps.trans hsteady))
  have hvacated : Vacated d (c.setAgenda (c.agenda ++ l)) := ⟨by
    show (Store.read Port.clear c.ports (PortId.index (.dn d))).state ≠ .up
    rw [hports]
    exact s.portLost_down (.dn d), hentries⟩
  refine ⟨congrArg Steady.ports hall, hvacated.settled.entries, fun q hq => ?_⟩
  have hafter := (KeepsReports.cascading.settled (c.setAgenda (c.agenda ++ l)) q).2.1
  rw [hafter]
  refine (hreports q).2.1.trans ?_
  rw [hstale, if_pos hq]

theorem State.foldl_endedEntry_held (es : List Entry) (r : RefusalReason) (s : State) :
    (es.foldl (fun u e => endedEntry u e r) s).held = s.held ∧ (es.foldl (fun u e => endedEntry u e r) s).agenda = s.agenda :=
  ⟨foldl_keeps State.held _ (fun u e => endedEntry_held u e r) _ _, foldl_keeps State.agenda _ (fun u e => endedEntry_agenda u e r) _ _⟩

/-- The end of a loss with the bank good, nothing FRESH behind the port and nothing held. -/
theorem State.portDown_ends {s : State} {d : DnPort} (hbanked : s.banked) (hquiet : s.agenda = []) (hheld : s.held = [])
    (hgood : ∀ x, s.activeBank.entryGood x = true) (hstale : ∀ q ∈ s.portPoints d, (s.point q).fresh = false) :
    (s.portDown (.dn d)).settled =
      (s.entries.filter (fun x => x.port == d)).foldl (fun v x => endedEntry v x .linkLost) (s.portLost (.dn d)) := by
  rw [State.portDown_dn hbanked]
  have hbank := s.portLost_bank (.dn d)
  have hreads : (s.portLost (.dn d)).checkReads windowRefs = s.portLost (.dn d) :=
    State.checkReads_good (fun e => by rw [hbank]; exact hgood e) _
  have hsame : (s.portLost (.dn d)).image = s.image ∧ (s.portLost (.dn d)).entries = s.entries ∧
      (s.portLost (.dn d)).held = s.held := by
    rw [State.portLost, State.offerNotice_frame]
    exact ⟨rfl, rfl, rfl⟩
  obtain ⟨himage, hentries, hkept⟩ := hsame
  have hpoints : (s.portLost (.dn d)).portPoints d = s.portPoints d := by
    have hread : ∀ i, (s.portLost (.dn d)).readWindow i = s.readWindow i := fun i => by
      rw [State.readWindow, hbank]
      rfl
    simp only [State.portPoints, hread]
  have hnothing : (s.portPoints d).foldl State.makeStale (s.portLost (.dn d)) = s.portLost (.dn d) :=
    State.foldl_makeStale_of_stale fun q hq => by
      rw [State.point, himage]
      exact hstale q hq
  have hagenda := (s.portLost_agenda (.dn d)).trans hquiet
  rw [hreads, hpoints, hnothing, State.loseEntries, hentries]
  generalize s.portLost (.dn d) = u at hkept hagenda
  have hown : u = u.setAgenda [] := by
    rw [← hagenda]
    rfl
  have hfold := State.foldl_failEntry_eq (s.entries.filter (fun x => x.port == d)) .linkLost u []
  rw [← hown] at hfold
  obtain ⟨hsameHeld, hsameAgenda⟩ := State.foldl_endedEntry_held (s.entries.filter (fun x => x.port == d)) .linkLost u
  generalize (s.entries.filter (fun x => x.port == d)).foldl (fun v x => endedEntry v x .linkLost) u = w at hfold hsameHeld hsameAgenda ⊢
  rw [hfold]
  obtain ⟨l, hl, hscan⟩ := (w.setAgenda ([] ++ (s.entries.filter (fun x => x.port == d)).flatMap Entry.scans)).portScan_eq (.dn d)
  have hend : w.setAgenda [] = w := by
    rw [← hagenda, ← hsameAgenda]
    rfl
  rw [hscan]
  refine (State.settled_only_scans (s := w) (hsameHeld.trans (hkept.trans hheld)) fun t ht => ?_).trans hend
  rcases List.mem_append.1 ht with ht | ht
  · obtain ⟨e, _, ht⟩ := List.mem_flatMap.1 ((List.nil_append _) ▸ ht)
    exact Entry.eq_scan_of_mem_scans ht
  · exact hl t ht

/-- Settles O41. -/
theorem lossTimerTakesThePortDown : Obligations.LossTimerTakesThePortDown := by
  unfold Obligations.LossTimerTakesThePortDown
  refine ⟨fun s p hrest hbefore => ?_, fun s p e u hrest hstate hsignal hloss hdue hu => ?_⟩
  · rw [State.exec_loss, State.lossExpires_before hbefore, State.settled_of_quiet s hrest.2]
  obtain rfl : u = s.portLost p := hu
  have hquiet := (s.portLost_agenda p).trans hrest.2
  rw [State.exec_loss, State.lossExpires_due hrest hstate hsignal hloss hdue]
  refine ⟨fun hp => ?_, fun hp hmode => ?_, fun d hp hbanked => ?_⟩
  · subst hp
    exact congrArg Host.Outcome.next (State.settled_of_quiet (s.portLost .up).stopUp hquiet)
  · cases p with
    | up => exact absurd rfl hp
    | dn d =>
      have hlost : (s.portLost (.dn d)).mode = .transparent := (s.portLost_mode (.dn d)).trans hmode
      have hsegment : (s.portLost (.dn d)).loseSegment d = s.portLost (.dn d) := if_pos hlost
      have hdown : s.portDown (.dn d) = s.portLost (.dn d) :=
        (congrArg (fun u : State => u.portScan (.dn d)) hsegment).trans (if_pos hlost)
      rw [hdown, State.settled_of_quiet _ hquiet]
  · subst hp
    refine ⟨?_, fun hheld hgood hstale => ?_⟩
    · obtain ⟨hports, hentries, hstale⟩ := State.portDown_loses (d := d) hbanked
      exact ⟨_, rfl, hports, hentries, fun i hi w q hw hq hport => hstale q (State.mem_portPoints.2 ⟨i, hi, w, hw, hq, hport⟩)⟩
    · refine congrArg Host.Outcome.next (State.portDown_ends hbanked hrest.2 hheld hgood fun q hq => ?_)
      obtain ⟨i, hi, w, hw, hholds, hport⟩ := State.mem_portPoints.1 hq
      exact hstale i hi w q hw hholds hport

end Sys2Proof.Machine
end

section

/-! PROOF. READ_STATUS: its items as R173 and R175 lay them out, and the flags it clears. -/

namespace Sys2Proof.Machine

/-! ### The items of the body (R173, R175) -/

theorem putOptByte_map {α : Type} (code : α → Byte) (o : Option α) :
    putOptByte (o.map code) = optItems 1 (o.map fun x => [some (code x)]) := by
  cases o <;> rfl

theorem putRunEmpty_eq (e : RunEmpty) : putRunEmpty e =
    match e with
    | .notCounting => some 0 :: optItems 4 none
    | .counting t => some 1 :: optItems 4 (some (fourItems t))
    | .confirmed => some 2 :: optItems 4 none := by
  cases e <;> rfl

/-- A test of the store of a section, false of a section that is no defined STORE. -/
def State.ofStore (s : State) (test : Nat → SectionRec → Bool) (n : Nat) : Bool :=
  (s.definedRec n).any fun r => r.role == .store && test n r

theorem State.ofStore_iff (s : State) (test : Nat → SectionRec → Bool) (n : Nat) :
    s.ofStore test n = true ↔ ∃ f, s.definedRec n = some f ∧ f.role = .store ∧ test n f = true := by
  rw [State.ofStore, Option.any_eq_true]
  simp only [Bool.and_eq_true, beq_iff_eq]

theorem State.delivering_iff (s : State) (n : Nat) (c : SectionRec) : s.delivering n c = true ↔ isDelivering s n c := by
  cases hl : c.level with
  | none => simp [State.delivering, isDelivering, hl]
  | some l => cases hr : (s.point l.point).report <;> simp [State.delivering, isDelivering, hl, hr]

theorem State.storesAre_ofStore (s : State) : storesAre s (s.ofStore s.accepting) (s.ofStore s.delivering) := by
  intro n _
  simp only [State.ofStore_iff, State.accepting_iff, State.delivering_iff, and_self]

theorem State.storeFlags_of_good {s : State} {n : Nat} (h : (s.activeBank.sectionRec n).good = true) :
    s.storeFlags n = [flagByte (s.ofStore s.accepting n), flagByte (s.ofStore s.delivering n)] := by
  have hread : s.readSection n = some (s.activeBank.sectionRec n).content := if_pos h
  rw [State.storeFlags, State.ofStore, State.ofStore, State.definedRec, hread]
  generalize (s.activeBank.sectionRec n).content = f
  cases hdefined : f.defined <;> cases hstore : f.role == Role.store <;> simp [hdefined, hstore] <;> rfl

theorem State.putSection_eq {s : State} {n : Nat} (h : (s.activeBank.sectionRec n).good = true) :
    s.putSection n = sectionStatus s (s.ofStore s.accepting) (s.ofStore s.delivering) n := by
  rw [State.putSection, State.storeFlags_of_good h, putOptByte_map, putRunEmpty_eq, sectionStatus]
  simp only [known, List.append_assoc, List.cons_append]
  rfl

theorem State.putFigures_eq (s : State) : s.putFigures =
    [byteItem s.held.length, byteItem (s.entries.filter (fun e => decide (e.part = .general))).length,
      byteItem (s.entries.filter (fun e => decide (e.part = .priority))).length] ++
    twoItems s.remaining ++ twoItems s.unusedReserve ++ twoItems s.periodNumber ++
    fourItems (BitVec.ofNat 32 s.load) ++ fourItems (BitVec.ofNat 32 s.pledgeSum) ++
    [byteItem (answerDebt s), flagItem s.noticeLost] := by
  simp only [State.putFigures, known_append, known_natBytes, State.debt_eq_answerDebt]
  rfl

theorem State.putCapture_eq (s : State) : s.putCapture =
    [flagItem s.capture.isSome, flagItem s.moreRefusals] ++
    match s.capture with
    | some c => [some c.src, some c.dest] ++ wordItems c.point ++
        [some c.tag, some c.action, some (RefusalReason.code c.reason)] ++ fourItems c.time
    | none => List.replicate 11 none := by
  rw [State.putCapture]
  cases s.capture <;> rfl

theorem State.statusBody_eq {s : State} (h : s.recordsGood) :
    s.statusBody = statusItems s (s.ofStore s.accepting) (s.ofStore s.delivering) := by
  have hsections : sectionNumbers.flatMap s.putSection =
      (List.range 16).flatMap (sectionStatus s (s.ofStore s.accepting) (s.ofStore s.delivering)) :=
    List.flatMap_congr fun n hn => State.putSection_eq (h n (List.mem_range.1 hn))
  rw [State.statusBody, hsections, State.putFigures_eq, State.putCapture_eq, putOptByte_map, statusItems]
  simp only [List.append_assoc]
  rfl

/-! ### The length of the body -/

theorem optItems_length {k : Nat} {o : Option (List (Option Byte))} (h : ∀ l, o = some l → l.length = k) :
    (optItems k o).length = k + 1 := by
  cases o with
  | none => simp [optItems]
  | some l => simp [optItems, h l rfl]

theorem sectionStatus_length (s : State) (acc del : Nat → Bool) (n : Nat) : (sectionStatus s acc del n).length = 12 := by
  have hcause : (optItems 1 ((s.sect n).haltCause.map fun h => [some (HaltCause.code h)])).length = 2 :=
    optItems_length fun l hl => by
      obtain ⟨c, _, rfl⟩ := Option.map_eq_some_iff.1 hl
      rfl
  rw [sectionStatus]
  cases (s.sect n).runEmpty <;> simp only [List.length_append, List.length_cons, hcause] <;> rfl

theorem statusItems_length (s : State) (acc del : Nat → Bool) : (statusItems s acc del).length = 249 := by
  have hbank : (optItems 1 (s.active.map fun i => [some (BankId.code i)])).length = 2 :=
    optItems_length fun l hl => by
      obtain ⟨c, _, rfl⟩ := Option.map_eq_some_iff.1 hl
      rfl
  have hsections : ((List.range 16).flatMap (sectionStatus s acc del)).length = 192 :=
    flatMap_length fun n _ => sectionStatus_length s acc del n
  have hports : ([PortId.up, .dn .dn0, .dn .dn1, .dn .dn2, .dn .dn3].flatMap (portStatus s)).length = 20 :=
    flatMap_length (width := 4) fun _ _ => rfl
  rw [statusItems]
  cases s.capture <;>
    simp only [List.length_append, hbank, hsections, hports] <;> rfl

/-! ### The flags cleared -/

/-- A port with its three flags clear. -/
def Port.unflagged (p : Port) : Port := { p with linkLost := false, checkError := false, receiveRefused := false }

theorem State.clearFlags_port (s : State) (p : PortId) : s.clearFlags.port p = (s.port p).unflagged := by
  have h := State.port_foldl Port.unflagged allPorts allPorts_nodup s p
  rwa [if_pos (mem_allPorts p)] at h

theorem State.clearFlags_frame (s : State) : s.clearFlags = { s with ports := s.clearFlags.ports } :=
  foldl_ports_frame State.clearPortFlags (fun _ _ => rfl) allPorts s

/-- A section with its mark clear. -/
def unmarked (_ : Clock) (d : SectionDyn) : SectionDyn := { d with mark := false }

theorem State.clearSectionMarks_sect (s : State) (n : Nat) :
    s.clearSectionMarks.sect n = if n < 16 then { s.sect n with mark := false } else s.sect n :=
  (State.sect_foldl unmarked (List.range 16) List.nodup_range s n).trans (if_congr List.mem_range rfl rfl)

theorem State.clearSectionMarks_frame (s : State) : s.clearSectionMarks = { s with sects := s.clearSectionMarks.sects } :=
  foldl_sects_frame (fun s n => s.setSect n { s.sect n with mark := false }) (fun _ _ => rfl) (List.range 16) s

/-- What READ_STATUS clears: the port flags, the section marks and NOTICE_LOST. -/
def State.statusCleared (s : State) : State := s.countDraw.clearFlags.clearSectionMarks.setNoticeLost false

/-- The state with its ports and sections replaced, NOTICE_LOST clear and one value drawn. -/
def State.clearedTo (s : State) (ports : Store Port) (sects : Store SectionDyn) : State :=
  { s with ports := ports, sects := sects, noticeLost := false, draws := s.draws + 1 }

theorem State.clearedTo_setRequests (s : State) (rest : List MgmtTel) (ports : Store Port) (sects : Store SectionDyn) :
    (s.setRequests rest).clearedTo ports sects = (s.clearedTo ports sects).setRequests rest := rfl

theorem State.statusCleared_eq (s : State) : ∃ ports sects,
    s.statusCleared = s.clearedTo ports sects ∧
    (∀ p, Store.read Port.clear ports (PortId.index p) = (s.port p).unflagged) ∧
    ∀ n, Store.read SectionDyn.clear sects n = if n < 16 then { s.sect n with mark := false } else s.sect n := by
  have hflags := s.countDraw.clearFlags_frame
  have hport := s.countDraw.clearFlags_port
  unfold State.statusCleared
  generalize s.countDraw.clearFlags = u at hflags hport ⊢
  have hmarks := u.clearSectionMarks_frame
  have hsect := u.clearSectionMarks_sect
  generalize u.clearSectionMarks = v at hmarks hsect ⊢
  have hsame : u.sect = s.sect := by
    generalize u.ports = p at hflags
    subst hflags
    rfl
  rw [hsame] at hsect
  refine ⟨u.ports, v.sects, ?_, hport, hsect⟩
  generalize v.sects = q at hmarks ⊢
  generalize u.ports = p at hflags ⊢
  subst hmarks hflags
  rfl

/-! ### READ_STATUS -/

theorem State.exec_readStatus {s : State} {r : MgmtTel} {rest : List MgmtTel} (h : s.turnOf r rest)
    (hcode : r.code.toNat = 8) (hbody : r.body = []) :
    exec .readStatus s = .next ((s.setRequests rest).judgeStatus r).settled := by
  change Host.Outcome.next (State.settled _) = _
  rw [State.handle_turn h _ (hasCode_of hcode), State.withEmptyBody_nil _ hbody]

theorem acceptedWith_bank {s t : State} {r : MgmtTel} {rest : List MgmtTel} {content : List (Option Byte)}
    (h : acceptedWith s t r rest content) : t.activeBank = s.activeBank := by
  obtain ⟨body, _, ht⟩ := h
  rw [ht]
  rfl

theorem State.judgeStatus_eq {s : State} (hgood : s.recordsGood) (r : MgmtTel) :
    s.judgeStatus r = s.statusCleared.accept r (statusItems s (s.ofStore s.accepting) (s.ofStore s.delivering)) := by
  have hbank : (s.statusCleared.accept r s.statusBody).activeBank = s.activeBank := by
    obtain ⟨ports, sects, hcleared, _⟩ := s.statusCleared_eq
    rw [hcleared]
    exact acceptedWith_bank (s := s.clearedTo ports sects)
      (State.acceptedWith_accept _ r s.requests s.statusBody)
  rw [← State.statusBody_eq hgood]
  exact State.checkReads_of_good _ _ fun e he => by
    obtain ⟨n, hn, rfl⟩ := List.mem_map.1 he
    exact (congrArg (fun b => Bank.entryGood b ⟨.sections, n⟩) hbank).trans (hgood n (List.mem_range.1 hn))

/-- Settles O33. -/
theorem readStatusReturnsAndClearsTheFlags : Obligations.ReadStatusReturnsAndClearsTheFlags := by
  unfold Obligations.ReadStatusReturnsAndClearsTheFlags
  intro s r rest hturn hcode hbody hgood
  rw [State.exec_readStatus hturn hcode hbody, State.judgeStatus_eq (s := s.setRequests rest) hgood]
  obtain ⟨ports, sects, hcleared, hport, hsect⟩ := (s.setRequests rest).statusCleared_eq
  rw [hcleared, State.clearedTo_setRequests]
  have hitems : statusItems (s.setRequests rest) ((s.setRequests rest).ofStore (s.setRequests rest).accepting)
      ((s.setRequests rest).ofStore (s.setRequests rest).delivering) =
    statusItems s (s.ofStore s.accepting) (s.ofStore s.delivering) := rfl
  rw [hitems]
  have haccept := State.acceptedWith_accept (s.clearedTo ports sects) r rest
    (statusItems s (s.ofStore s.accepting) (s.ofStore s.delivering))
  have hsettled := State.settled_of_quiet _ (acceptedWith_quiet haccept (State.turnOf_quiet hturn))
  obtain ⟨body, hcarries, heq⟩ := haccept
  rw [hsettled]
  generalize State.accept _ r _ = t at heq ⊢
  refine ⟨t, s.ofStore s.accepting, s.ofStore s.delivering, body, rfl, fun p => ?_, fun n hn => ?_, fun n hn => ?_,
    s.storesAre_ofStore, hcarries, hcarries.1.trans (statusItems_length s _ _), ?_⟩
  · rw [heq]
    exact hport p
  · rw [heq]
    exact (hsect n).trans (if_pos hn)
  · rw [heq]
    exact (hsect n).trans (if_neg (Nat.not_lt.2 hn))
  · generalize t.draws = d at heq
    rw [heq]
    rfl

end Sys2Proof.Machine
end

section

/-! PROOF. A telegram's bytes and the telegram they read as. -/

namespace Sys2Proof.Machine

/-! ### The fields (R155, R156) -/

theorem kindOf_code (k : PointKind) : kindOf (PointKind.code k) = some (.inl k) := by cases k <;> decide

theorem kindOf_mgmtCode (k : MgmtKind) : kindOf (MgmtKind.code k) = some (.inr k) := by cases k <;> decide

theorem kindOf_inl {b : Byte} {k : PointKind} (h : kindOf b = some (.inl k)) : b = PointKind.code k := by
  revert b
  cases k <;> decide

theorem kindOf_inr {b : Byte} {k : MgmtKind} (h : kindOf b = some (.inr k)) : b = MgmtKind.code k := by
  revert b
  cases k <;> decide

theorem wordOf_bytes (w : Word) : wordOf (w.extractLsb' 8 8) (w.extractLsb' 0 8) = w := wordOf_eq.2 ⟨rfl, rfl⟩

theorem wordBytes_wordOf (h l : Byte) : wordBytes (wordOf h l) = [h, l] := by
  obtain ⟨hh, hl⟩ := wordOf_eq.1 (rfl : wordOf h l = wordOf h l)
  rw [wordBytes, ← hh, ← hl]

/-- A well-formed telegram's bytes, with any two bytes in the place of the check bytes, read as the telegram. -/
theorem parseFields_telegramBytes {t : Telegram} (h : t.wf = true) (c1 c0 : Byte) :
    parseFields (telegramBytes t ++ [c1, c0]) = some t := by
  cases t with
  | point k t =>
    simp only [telegramBytes, wordBytes, List.cons_append, List.nil_append, parseFields, kindOf_code, wordOf_bytes]
  | mgmt k t =>
    have hlen : t.body.length ≤ 240 := by simpa [Telegram.wf, MgmtTel.wf] using h
    have hnat : (BitVec.ofNat 8 t.body.length).toNat = t.body.length := by
      rw [BitVec.toNat_ofNat, Nat.mod_eq_of_lt (by omega)]
    simp only [telegramBytes, List.cons_append, List.nil_append, parseFields, kindOf_mgmtCode, hnat, List.length_append]
    simp [hlen]

/-- What reads as a telegram is the telegram's bytes and two check bytes. -/
theorem telegramBytes_of_parseFields {bytes : List Byte} {t : Telegram} (h : parseFields bytes = some t) :
    t.wf = true ∧ ∃ c1 c0, bytes = telegramBytes t ++ [c1, c0] := by
  unfold parseFields at h
  split at h
  · next dest src kind tag rest =>
    split at h
    · next k hkind =>
      obtain rfl := kindOf_inl hkind
      split at h
      · next p1 p0 code flags v1 v0 c1 c0 =>
        cases h
        exact ⟨rfl, c1, c0, by simp only [telegramBytes, wordBytes_wordOf, List.cons_append, List.nil_append]⟩
      · cases h
    · next k hkind =>
      obtain rfl := kindOf_inr hkind
      split at h
      · next code len body =>
        split at h
        · next hlen =>
          cases h
          rw [Bool.and_eq_true, decide_eq_true_eq, beq_iff_eq] at hlen
          obtain ⟨hmost, hlength⟩ := hlen
          have htake : (body.take len.toNat).length = len.toNat := by
            rw [List.length_take]
            omega
          have hdrop : (body.drop len.toNat).length = 2 := by
            rw [List.length_drop]
            omega
          obtain ⟨c1, c0, hcheck⟩ := List.length_eq_two.1 hdrop
          refine ⟨by simp [Telegram.wf, MgmtTel.wf, htake, hmost], c1, c0, ?_⟩
          simp only [telegramBytes, htake, BitVec.ofNat_toNat, BitVec.setWidth_eq, List.cons_append, List.nil_append,
            ← hcheck, List.take_append_drop]
        · cases h
      · cases h
    · cases h
  · cases h

/-! ### The check code (R154) -/

theorem checkAgrees_append (bytes : List Byte) (c1 c0 : Byte) :
    checkAgrees (bytes ++ [c1, c0]) = true ↔ [c1, c0] = wordBytes (checkCode bytes) := by
  rw [checkAgrees, List.length_append, show bytes.length + [c1, c0].length - 2 = bytes.length from rfl, List.drop_left,
    List.take_left, beq_iff_eq]

theorem decodeTelegram_eq_some {bytes : List Byte} {t : Telegram} :
    decodeTelegram bytes = some t ↔ parseFields bytes = some t ∧ checkAgrees bytes = true := by
  unfold decodeTelegram
  cases parseFields bytes with
  | none => simp
  | some u => cases checkAgrees bytes <;> simp

/-- Settles O52. -/
theorem telegramsDecodeAsEncoded : Obligations.TelegramsDecodeAsEncoded := by
  refine ⟨fun t hwf => ?_, fun bytes t h => ?_⟩
  · exact decodeTelegram_eq_some.2 ⟨parseFields_telegramBytes hwf _ _, (checkAgrees_append _ _ _).2 rfl⟩
  · obtain ⟨hparse, hcheck⟩ := decodeTelegram_eq_some.1 h
    obtain ⟨hwf, c1, c0, rfl⟩ := telegramBytes_of_parseFields hparse
    rw [encodeTelegram, ← (checkAgrees_append _ _ _).1 hcheck]
    exact ⟨rfl, hwf⟩

end Sys2Proof.Machine
end

section

/-! PROOF. The swap check: what each of its items finds, and how the check begins and ends. -/

namespace Sys2Proof.Machine

/-! ### What each item finds (R169) -/

section Items

variable (b : Bank)

theorem Window.overlaps_iff (v w : Window) : v.overlaps w = true ↔ ∃ p, v.holds p = true ∧ w.holds p = true := by
  simp only [Window.overlaps, Window.holds_iff, Bool.and_eq_true, decide_eq_true_eq]
  constructor
  · rintro ⟨⟨⟨⟨⟨hv, hw⟩, hfv⟩, hfw⟩, hbv⟩, hbw⟩
    exact ⟨max v.base w.base, ⟨hv, hfv, by omega, by omega⟩, hw, hfw, by omega, by omega⟩
  · rintro ⟨p, ⟨hv, hfv, hbv, hlv⟩, hw, hfw, hbw, hlw⟩
    exact ⟨⟨⟨⟨⟨hv, hw⟩, hfv⟩, hfw⟩, by omega⟩, by omega⟩

theorem Bank.overlapAt_iff (i : Nat) :
    b.overlapAt i = true ↔ ∃ j < 32, i < j ∧ ∃ p, (b.win i).holds p = true ∧ (b.win j).holds p = true := by
  simp only [Bank.overlapAt, List.any_eq_true, List.mem_range, Bool.and_eq_true, decide_eq_true_eq, Window.overlaps_iff]

theorem Bank.windowBad_iff (i : Nat) : b.windowBad i = true ↔ (b.win i).defined = true ∧
    ((b.win i).last < (b.win i).first ∨ 2047 < (b.win i).base + ((b.win i).last - (b.win i).first) ∨
      ∀ x, (b.win i).first ≤ x → x ≤ (b.win i).last → ∃ j < i, (b.win j).covers (b.win i).station x = true) := by
  simp only [Bank.windowBad, Bank.shadowed, Bool.and_eq_true, Bool.or_eq_true, decide_eq_true_eq, List.all_eq_true,
    List.any_eq_true, List.mem_range, or_assoc]
  refine and_congr_right fun _ => or_congr_right' fun hlast => or_congr_right ⟨fun h x hx hxl => ?_, fun h k hk => ?_⟩
  · have hshift := h (x - (b.win i).first) (by omega)
    rwa [Nat.add_sub_cancel' hx] at hshift
  · exact h _ (by omega) (by omega)

theorem Bank.isMapped_eq_false (p : Nat) : (!b.isMapped p) = true ↔ unmapped b p := by
  rw [Bank.isMapped, Bank.storedWindowOf, Option.isSome_map, Bool.not_eq_true', Option.isSome_eq_false_iff,
    Option.isNone_iff_eq_none, Bank.storedIndexOf, List.find?_eq_none]
  simp only [List.mem_range, Bool.not_eq_true, unmapped, Bank.win]

theorem Bank.flowBad_iff (p : Nat) : b.flowBad p = true ↔ badFlow b p := by
  rw [Bank.flowBad, Bool.or_eq_true, Bank.isMapped_eq_false, beq_iff_eq, badFlow]

theorem Bank.isStore_iff (m : Nat) : b.isStore m = true ↔ storeSection b m := by
  rw [Bank.isStore, Bool.and_eq_true, beq_iff_eq, storeSection]

theorem Bank.setMissing_iff (o : Option Nat) : b.setMissing o = true ↔ setUndefined b o := by
  cases o <;> simp [Bank.setMissing, setUndefined]

theorem Bank.needBad_iff (n : Nat) (r : SectionRec) : b.needBad n r = true ↔
    ∃ m ∈ r.needs, m = n ∨ b.isDefined m = false ∨ (b.sec m).role ≠ .utility := by
  simp only [Bank.needBad, List.any_eq_true, Bool.or_eq_true, beq_iff_eq, Bool.not_eq_true', bne_iff_ne, or_assoc]

theorem Bank.storeFeedBad_iff (r : SectionRec) : b.storeFeedBad r = true ↔
    (∃ m ∈ r.feeds, storeSection b m) ∧ ∃ m ∈ r.feeds, ¬ storeSection b m := by
  simp only [Bank.storeFeedBad, Bool.and_eq_true, List.any_eq_true, ← Bank.isStore_iff, Bool.not_eq_true',
    Bool.not_eq_true]

theorem Bank.sectionBad_iff (r : SectionRec) : b.sectionBad r = true ↔
    (∃ m ∈ r.feeds, b.isDefined m = false) ∨ (r.role = .store ∧ r.level = none) ∨ (r.role ≠ .store ∧ r.level ≠ none) ∨
     (∃ f ∈ r.flowPoints, badFlow b f.point) ∨ (∃ l, r.level = some l ∧ badFlow b l.point) ∨
     ∃ a ∈ r.tripActions, a.action = .gates ∨ a.action = .resetFault ∨ unmapped b a.point := by
  have hlevel : ((r.role == .store) != r.level.isSome) = true ↔
      (r.role = .store ∧ r.level = none) ∨ (r.role ≠ .store ∧ r.level ≠ none) := by
    cases r.level <;> by_cases hrole : r.role = .store <;> simp [hrole]
  rw [Bank.sectionBad]
  simp only [Bool.or_eq_true, or_assoc]
  rw [hlevel]
  simp only [List.any_eq_true, Bool.or_eq_true, beq_iff_eq, Bool.not_eq_true', Bank.flowBad_iff, or_assoc,
    ← Bank.isMapped_eq_false]
  refine or_congr_right (or_congr_right (or_congr_right (or_congr_right (or_congr_left ?_))))
  cases r.level <;> simp [Bank.flowBad_iff]

theorem Bank.pointBad_iff (p : Nat) : b.pointBad p = true ↔ (b.pointStatic p).content.cls ≠ .measure ∧
    ∀ n, (b.pointStatic p).content.sect = some n → b.isDefined n = false := by
  rw [Bank.pointBad]
  cases (b.pointStatic p).content.sect <;> simp

theorem Bank.sectionSetBad_iff (r : SectionRec) : b.sectionSetBad r = true ↔
    setUndefined b r.warmSet ∨ setUndefined b r.runSet ∨ setUndefined b r.flushSet ∨ setUndefined b r.tripSet := by
  simp only [Bank.sectionSetBad, Bool.or_eq_true, Bank.setMissing_iff, or_assoc]

theorem Bank.setUnmapped_iff (k : Nat) : b.setUnmapped k = true ↔
    ∃ x ∈ (b.condSet k).content.conditions, unmapped b x.point := by
  simp only [Bank.setUnmapped, List.any_eq_true, Bank.isMapped_eq_false]

theorem levelBad_iff (r : SectionRec) : levelBad r = true ↔ ∃ l, r.level = some l ∧ l.high.toInt < l.low.toInt := by
  cases hlevel : r.level <;> simp [levelBad, hlevel]

theorem Bank.setLowBad_iff (k : Nat) : b.setLowBad k = true ↔ ∃ x ∈ (b.condSet k).content.conditions,
    (x.test = .between ∨ x.test = .outside) ∧ x.ref2.toInt < x.ref1.toInt := by
  simp only [Bank.setLowBad, List.any_eq_true, Bool.and_eq_true, Bool.or_eq_true, beq_iff_eq, decide_eq_true_eq]

theorem startsTrip_iff (r : SectionRec) :
    r.tripActions.any (fun a => a.action == .start) = true ↔ ∃ a ∈ r.tripActions, a.action = .start := by
  simp only [List.any_eq_true, beq_iff_eq]

theorem Bank.permitShared_iff (n : Nat) : b.permitShared n (b.sec n) = true ↔
    b.isDefined n = true ∧ (b.sec n).permitOut ≠ none ∧
     ∃ m < 16, n < m ∧ b.isDefined m = true ∧ (b.sec m).permitOut = (b.sec n).permitOut := by
  simp only [Bank.permitShared, Bool.and_eq_true, List.any_eq_true, List.mem_range, decide_eq_true_eq, beq_iff_eq,
    Option.isSome_iff_ne_none, and_assoc, Bank.isDefined]

/-! ### Item 4: cycles of the feeds relation (R21) -/

theorem Bank.mem_fedBy {l : List Nat} (hl : ∀ n ∈ l, n < 16) (m : Nat) : m ∈ b.fedBy l ↔ ∃ n ∈ l, feedsSection b n m := by
  simp only [Bank.fedBy, List.mem_filter, List.mem_range, Bool.and_eq_true, List.any_eq_true, decide_eq_true_eq, feedsSection]
  constructor
  · rintro ⟨hm, hdm, n, hn, hdn, hfeeds⟩
    exact ⟨n, hn, hl n hn, hm, hdn, hdm, hfeeds⟩
  · rintro ⟨n, hn, _, hm, hdn, hdm, hfeeds⟩
    exact ⟨hm, hdm, n, hn, hdn, hfeeds⟩

theorem Bank.reach_lt (n k : Nat) : ∀ m ∈ b.reach n k, m < 16 := by
  intro m hm
  cases k <;> exact List.mem_range.1 (List.mem_filter.1 hm).1

variable {b} {n : Nat}

theorem Bank.mem_reach_zero (hn : n < 16) (m : Nat) : m ∈ b.reach n 0 ↔ feedsSection b n m := by
  rw [Bank.reach, Bank.mem_fedBy b (by simpa using hn)]
  simp

theorem Bank.mem_reach_succ (hn : n < 16) (k m : Nat) :
    m ∈ b.reach n (k + 1) ↔ feedsSection b n m ∨ ∃ j ∈ b.reach n k, feedsSection b j m := by
  have hlt : ∀ j ∈ n :: b.reach n k, j < 16 := List.forall_mem_cons.2 ⟨hn, b.reach_lt n k⟩
  rw [Bank.reach, Bank.mem_fedBy b hlt]
  simp

/-- What feeds reach in one step more includes what they reached. -/
theorem Bank.reach_mono (hn : n < 16) (k : Nat) : ∀ m ∈ b.reach n k, m ∈ b.reach n (k + 1) := by
  induction k with
  | zero => exact fun m hm => (Bank.mem_reach_succ hn 0 m).2 (.inl ((Bank.mem_reach_zero hn m).1 hm))
  | succ k ih =>
    intro m hm
    rw [Bank.mem_reach_succ hn] at hm ⊢
    exact hm.imp_right fun ⟨j, hj, hfeeds⟩ => ⟨j, ih j hj, hfeeds⟩

theorem Bank.transGen_of_mem_reach (hn : n < 16) (k : Nat) : ∀ m ∈ b.reach n k, Relation.TransGen (feedsSection b) n m := by
  induction k with
  | zero => exact fun m hm => .single ((Bank.mem_reach_zero hn m).1 hm)
  | succ k ih =>
    intro m hm
    obtain hfeeds | ⟨j, hj, hfeeds⟩ := (Bank.mem_reach_succ hn k m).1 hm
    · exact .single hfeeds
    · exact (ih j hj).tail hfeeds

/-- A step beyond the first `k + 1` along feeds reaches nothing new. -/
def Bank.Reached (b : Bank) (n k : Nat) : Prop := ∀ m ∈ b.reach n (k + 1), m ∈ b.reach n k

theorem Bank.Reached.succ (hn : n < 16) {k : Nat} (h : b.Reached n k) : b.Reached n (k + 1) := by
  intro m hm
  rw [Bank.mem_reach_succ hn] at hm ⊢
  exact hm.imp_right fun ⟨j, hj, hfeeds⟩ => ⟨j, h j hj, hfeeds⟩

theorem Bank.Reached.mem (hn : n < 16) {k : Nat} (h : b.Reached n k) {m : Nat}
    (hm : Relation.TransGen (feedsSection b) n m) : m ∈ b.reach n k := by
  induction hm with
  | single hfeeds => exact h _ ((Bank.mem_reach_succ hn k _).2 (.inl hfeeds))
  | tail _ hfeeds ih => exact h _ ((Bank.mem_reach_succ hn k _).2 (.inr ⟨_, ih, hfeeds⟩))

/-- The sections reached grow in number with every step until a step reaches nothing new. -/
theorem Bank.reached_or_lt_card (hn : n < 16) (k : Nat) : b.Reached n k ∨ k < (b.reach n k).toFinset.card := by
  induction k with
  | zero =>
    by_cases hnil : b.reach n 0 = []
    · refine .inl fun m hm => ?_
      rw [Bank.mem_reach_succ hn, hnil] at hm
      exact (Bank.mem_reach_zero hn m).2 (hm.resolve_right (by simp))
    · exact .inr (Finset.card_pos.2 ((List.toFinset_nonempty_iff _).2 hnil))
  | succ k ih =>
    by_cases hreached : b.Reached n k
    · exact .inl (hreached.succ hn)
    · obtain ⟨m, hm, hnew⟩ : ∃ m ∈ b.reach n (k + 1), m ∉ b.reach n k := by
        simpa [Bank.Reached] using hreached
      have hgrows : (b.reach n k).toFinset ⊂ (b.reach n (k + 1)).toFinset :=
        Finset.ssubset_iff_subset_ne.2 ⟨fun j hj => List.mem_toFinset.2 (Bank.reach_mono hn k j (List.mem_toFinset.1 hj)),
          fun heq => hnew (List.mem_toFinset.1 (heq ▸ List.mem_toFinset.2 hm))⟩
      exact .inr (Nat.lt_of_le_of_lt (ih.resolve_left hreached) (Finset.card_lt_card hgrows))

/-- With 16 sections nothing new is reached after 17 steps. -/
theorem Bank.reached_sixteen (hn : n < 16) : b.Reached n 16 := by
  refine (Bank.reached_or_lt_card hn 16).resolve_right (Nat.not_lt.2 ?_)
  have hsub : (b.reach n 16).toFinset ⊆ Finset.range 16 := fun m hm =>
    Finset.mem_range.2 (b.reach_lt n 16 m (List.mem_toFinset.1 hm))
  exact (Finset.card_le_card hsub).trans (Finset.card_range 16).le

theorem Bank.onCycle_iff (hn : n < 16) : b.onCycle n = true ↔ Relation.TransGen (feedsSection b) n n := by
  rw [Bank.onCycle, decide_eq_true_eq]
  exact ⟨Bank.transGen_of_mem_reach hn 16 n, (Bank.reached_sixteen hn).mem hn⟩

end Items

theorem State.inUse_iff (s : State) (b : Bank) (n : Nat) :
    (s.phaseOf n != .idle && !b.isDefined n) = true ↔ s.phaseOf n ≠ .idle ∧ b.isDefined n = false := by
  simp only [Bool.and_eq_true, bne_iff_ne, Bool.not_eq_true']

theorem State.needConflict_iff (s : State) (b : Bank) (n : Nat) :
    ((s.phaseOf n).working && (b.sec n).needs.any (fun m => s.phaseOf m != .running)) = true ↔
      (s.phaseOf n).working = true ∧ ∃ m ∈ (b.sec n).needs, s.phaseOf m ≠ .running := by
  simp only [Bool.and_eq_true, List.any_eq_true, bne_iff_ne]

/-! ### The items in their order (R168, R169) -/

/-- An item of the check finds its lowest-numbered failing entry, or none. -/
def Finds (x : CheckItem) (o : Option CheckFailure) : Prop :=
  ∃ fails : Nat → Bool, o = failing x.code x.table x.size fails ∧ ∀ i < x.size, fails i = true ↔ x.fails i

theorem Finds.eq_none {x : CheckItem} {o : Option CheckFailure} (h : Finds x o) : o = none ↔ ∀ j < x.size, ¬ x.fails j := by
  obtain ⟨fails, rfl, hiff⟩ := h
  rw [failing_eq_none]
  exact forall₂_congr fun j hj => by rw [← Bool.not_eq_true, hiff j hj]

theorem Finds.eq_some {x : CheckItem} {f : CheckFailure} (h : Finds x (some f)) :
    ∃ i, f = ⟨x.code, ⟨x.table, i⟩⟩ ∧ i < x.size ∧ x.fails i ∧ ∀ j < i, ¬ x.fails j := by
  obtain ⟨fails, hsome, hiff⟩ := h
  obtain ⟨i, hfirst, rfl⟩ := Option.map_eq_some_iff.1 hsome.symm
  rw [firstIndex, List.find?_range_eq_some] at hfirst
  obtain ⟨hfails, hi, hbefore⟩ := hfirst
  rw [List.mem_range] at hi
  refine ⟨i, rfl, hi, (hiff i hi).1 hfails, fun j hj hfail => ?_⟩
  have hnot := hbefore j hj
  rw [(hiff j (hj.trans hi)).2 hfail] at hnot
  cases hnot

theorem findSome_eq_none_of_finds {xs : List CheckItem} {os : List (Option CheckFailure)} (h : List.Forall₂ Finds xs os) :
    os.findSome? id = none ↔ ∀ x ∈ xs, ∀ j < x.size, ¬ x.fails j := by
  induction h with
  | nil => simp
  | @cons x o xs os hx _ ih =>
    rw [List.forall_mem_cons, ← hx.eq_none, ← ih]
    cases o <;> simp

theorem eq_of_findSome_of_finds {xs : List CheckItem} {os : List (Option CheckFailure)} (h : List.Forall₂ Finds xs os)
    {f : CheckFailure} (hf : os.findSome? id = some f) :
    ∃ l1 x l2 i, xs = l1 ++ x :: l2 ∧ f = ⟨x.code, ⟨x.table, i⟩⟩ ∧ i < x.size ∧ x.fails i ∧ (∀ j < i, ¬ x.fails j) ∧
      ∀ y ∈ l1, ∀ j < y.size, ¬ y.fails j := by
  induction h with
  | nil => cases hf
  | @cons x o xs os hx _ ih =>
    cases o with
    | none =>
      obtain ⟨l1, y, l2, i, rfl, heq, hi, hfails, hfirst, hbefore⟩ := ih hf
      exact ⟨x :: l1, y, l2, i, rfl, heq, hi, hfails, hfirst, List.forall_mem_cons.2 ⟨hx.eq_none.1 rfl, hbefore⟩⟩
    | some g =>
      obtain rfl : g = f := Option.some.inj hf
      obtain ⟨i, heq, hi, hfails, hfirst⟩ := hx.eq_some
      exact ⟨[], x, xs, i, rfl, heq, hi, hfails, hfirst, by simp⟩

/-- What the items of the check find, in their order. -/
def checkFindings (s : State) (b : Bank) : List (Option CheckFailure) :=
  [failing .logicalOverlap .windows 32 b.overlapAt,
   failing .windowRange .windows 32 b.windowBad,
   b.sectionFailing .feedsCycle (fun n _ => b.onCycle n),
   b.sectionFailing .needNotUtility b.needBad,
   b.sectionFailing .storeFeed (fun _ r => b.storeFeedBad r),
   b.sectionFailing .sectionField (fun _ r => b.sectionBad r),
   failing .noSection .points 2048 b.pointBad,
   b.sectionFailing .conditionUnmapped (fun _ r => b.sectionSetBad r),
   failing .conditionUnmapped .sets 64 b.setUnmapped,
   failing .conditionUnmapped .rows 392 (fun i => b.setMissing (b.row i).content.condSet),
   b.sectionFailing .lowAboveHigh (fun _ r => levelBad r),
   failing .lowAboveHigh .sets 64 b.setLowBad,
   failing .lowAboveHigh .rows 392 b.rowLowBad,
   failing .reserveAboveAllowance .budget 1 (fun _ => decide (b.budget.content.allowance < b.budget.content.reserve)),
   b.sectionFailing .startTripAction (fun _ r => r.tripActions.any (fun a => a.action == .start)),
   b.sectionFailing .permitOutShared b.permitShared,
   failing .sectionInUse .sections 16 (fun n => s.phaseOf n != .idle && !b.isDefined n),
   failing .needConflict .sections 16
     (fun n => (s.phaseOf n).working && (b.sec n).needs.any (fun m => s.phaseOf m != .running))]

theorem checkItems_find (s : State) (b : Bank) : List.Forall₂ Finds (checkItems s b) (checkFindings s b) :=
  .cons ⟨_, rfl, fun i _ => b.overlapAt_iff i⟩ <|
  .cons ⟨_, rfl, fun i _ => b.windowBad_iff i⟩ <|
  .cons ⟨_, rfl, fun _ hn => Bank.onCycle_iff hn⟩ <|
  .cons ⟨_, rfl, fun n _ => b.needBad_iff n _⟩ <|
  .cons ⟨_, rfl, fun _ _ => b.storeFeedBad_iff _⟩ <|
  .cons ⟨_, rfl, fun _ _ => b.sectionBad_iff _⟩ <|
  .cons ⟨_, rfl, fun p _ => b.pointBad_iff p⟩ <|
  .cons ⟨_, rfl, fun _ _ => b.sectionSetBad_iff _⟩ <|
  .cons ⟨_, rfl, fun k _ => b.setUnmapped_iff k⟩ <|
  .cons ⟨_, rfl, fun _ _ => b.setMissing_iff _⟩ <|
  .cons ⟨_, rfl, fun _ _ => levelBad_iff _⟩ <|
  .cons ⟨_, rfl, fun k _ => b.setLowBad_iff k⟩ <|
  .cons ⟨_, rfl, fun _ _ => decide_eq_true_iff⟩ <|
  .cons ⟨_, rfl, fun _ _ => decide_eq_true_iff⟩ <|
  .cons ⟨_, rfl, fun _ _ => startsTrip_iff _⟩ <|
  .cons ⟨_, rfl, fun n _ => b.permitShared_iff n⟩ <|
  .cons ⟨_, rfl, fun n _ => s.inUse_iff b n⟩ <|
  .cons ⟨_, rfl, fun n _ => s.needConflict_iff b n⟩ .nil

theorem State.swapFailure_of_fault {s : State} {b : Bank} {e : EntryRef} (h : b.firstFault = some e) :
    s.swapFailure b = some ⟨.integrity, e⟩ := by
  rw [State.swapFailure, h]

theorem State.swapFailure_of_good {s : State} {b : Bank} (h : b.firstFault = none) :
    s.swapFailure b = (checkFindings s b).findSome? id := by
  have hphases : s.phaseFailure b = [failing .sectionInUse .sections 16 (fun n => s.phaseOf n != .idle && !b.isDefined n),
      failing .needConflict .sections 16
        (fun n => (s.phaseOf n).working && (b.sec n).needs.any (fun m => s.phaseOf m != .running))].findSome? id := by
    rw [State.phaseFailure]
    cases failing .sectionInUse .sections 16 (fun n => s.phaseOf n != .idle && !b.isDefined n) <;> simp
  rw [State.swapFailure, h]
  show (b.relationFailure.or b.fieldFailure).or (s.phaseFailure b) = _
  rw [hphases, Bank.relationFailure, Bank.fieldFailure, ← List.findSome?_append, ← List.findSome?_append]
  rfl

/-! ### SWAP_BANKS and the end of the check (R168, R174) -/

theorem State.handle_busy {s : State} (h : s.swapCheck.isSome = true) (takes : MgmtTel → Bool)
    (judge : State → MgmtTel → State) : s.handle takes judge = s := by
  rw [State.handle, State.nextRequest, h, Bool.or_true, if_pos rfl]

theorem State.exec_swapBanks {s : State} {r : MgmtTel} {rest : List MgmtTel} (h : s.turnOf r rest)
    (hcode : r.code.toNat = 4) (hbody : r.body = []) :
    exec .swapBanks s = .next ((s.setRequests rest).judgeSwap r).settled := by
  change Host.Outcome.next (State.settled _) = _
  rw [State.handle_turn h _ (hasCode_of hcode), State.withEmptyBody_nil _ hbody]

theorem State.exec_swapCheckEnd {s : State} (h : s.atRest) {k : SwapCheck} (hk : s.swapCheck = some k) :
    exec .swapCheckEnd s = .next (s.endCheck k).settled := by
  obtain ⟨hreset, _⟩ := h
  change Host.Outcome.next (State.settled s.swapCheckEnds) = _
  rw [State.swapCheckEnds, hreset, hk]
  rfl

theorem State.exec_swapCheckEnd_none {s : State} (h : s.atRest) (hk : s.swapCheck = none) :
    exec .swapCheckEnd s = .next s := by
  obtain ⟨hreset, hquiet⟩ := h
  change Host.Outcome.next (State.settled s.swapCheckEnds) = _
  rw [State.swapCheckEnds, hreset, hk]
  exact congrArg Host.Outcome.next (State.settled_of_quiet s hquiet)

theorem State.endCheck_rejects {s : State} {k : SwapCheck} {f : CheckFailure} (h : s.swapFailure (s.bank s.standby) = some f) :
    s.endCheck k = { s with
      swapCheck := none
      upQueue := fillPlace s.upQueue ⟨k.src, s.station, k.tag, 1, rejectedEntry f.code f.entry⟩ } := by
  rw [State.endCheck, State.standbyBank, h]
  show (s.setSwapCheck none).respond k.src k.tag 1 (rejectBody f.code (some f.entry)) = _
  rw [rejectBody_some, State.respond_known]
  rfl

/-- Settles O25. -/
theorem swapCheckRunsAndRejects : Obligations.SwapCheckRunsAndRejects := by
  refine ⟨fun s r rest hturn hcode hbody => ?_, fun s k hrest hk => ⟨fun c hc => ?_, fun f hf => ?_⟩,
    fun s hrest hk => ?_, fun s b hwf => ⟨fun f hf => ?_, ?_⟩⟩
  · rw [State.exec_swapBanks hturn hcode hbody, State.settled_of_quiet]
    · rfl
    · exact hturn.1.2
  · have hkept : ∀ takes judge, Host.Outcome.next (σ := State) (φ := Fault) (ρ := Refusal) (s.handle takes judge).settled =
        .next s := fun takes judge => by
      rw [State.handle_busy (by rw [hk]; rfl), State.settled_of_quiet s hrest.2]
    simp only [List.mem_cons, List.not_mem_nil, or_false] at hc
    rcases hc with rfl | rfl | rfl | rfl | rfl | rfl | rfl | rfl | rfl | rfl | rfl | rfl | rfl | rfl | rfl <;>
      exact hkept _ _
  · rw [State.exec_swapCheckEnd hrest hk, State.endCheck_rejects hf, State.settled_of_quiet]
    exact hrest.2
  · exact State.exec_swapCheckEnd_none hrest hk
  · cases hfault : b.firstFault with
    | some e =>
      rw [State.swapFailure_of_fault hfault] at hf
      obtain rfl := Option.some.inj hf
      exact .inl ⟨rfl, Bank.firstFault_eq_some hwf hfault⟩
    | none =>
      rw [State.swapFailure_of_good hfault] at hf
      exact .inr ⟨(Bank.firstFault_eq_none hwf).1 hfault, eq_of_findSome_of_finds (checkItems_find s b) hf⟩
  · cases hfault : b.firstFault with
    | some e =>
      rw [State.swapFailure_of_fault hfault]
      refine iff_of_false nofun fun h => ?_
      rw [(Bank.firstFault_eq_none hwf).2 h.1] at hfault
      cases hfault
    | none =>
      rw [State.swapFailure_of_good hfault, findSome_eq_none_of_finds (checkItems_find s b)]
      exact (and_iff_right ((Bank.firstFault_eq_none hwf).1 hfault)).symm

end Sys2Proof.Machine
end

section

/-! PROOF. What every bank swap begins and ends with, and the swap out of TRANSPARENT. -/

namespace Sys2Proof.Machine

/-! ### The bank a swap takes reads good (R168) -/

theorem firstFaulty_good {α : Type} {d : α} {t : TableId} {m : Store (Stored α)} (h : firstFaulty t m = none) (i : Nat) :
    (Store.read ⟨d, true⟩ m i).good = true := by
  rw [firstFaulty, Option.map_eq_none_iff, List.find?_eq_none] at h
  rw [Store.read]
  cases hfind : Store.find m i with
  | none => rfl
  | some v => simpa using h _ (Store.mem_of_find hfind)

theorem Bank.good_of_firstFault {b : Bank} (h : b.firstFault = none) (e : EntryRef) : b.entryGood e = true := by
  rw [Bank.firstFault_eq, List.findSome?_eq_none_iff] at h
  have htable := h _ (mem_tablesInOrder e.table)
  obtain ⟨t, i⟩ := e
  cases t with
  | windows => exact firstFaulty_good htable i
  | points => exact firstFaulty_good htable i
  | sections => exact firstFaulty_good htable i
  | sets => exact firstFaulty_good htable i
  | rows => exact firstFaulty_good htable i
  | budget =>
    rw [Bank.tableFault] at htable
    split at htable
    · assumption
    · cases htable

theorem Bank.good_of_swapFailure {s : State} {b : Bank} (h : s.swapFailure b = none) (e : EntryRef) : b.entryGood e = true := by
  obtain ⟨hfault, _⟩ := State.swapFailure_eq_none h
  exact Bank.good_of_firstFault hfault e

/-! ### The beginning of a swap (R170, R174) -/

/-- The state with bank `i` active, the other bank standby, and the part SCREENING. -/
def State.turned (s : State) (i : BankId) : State :=
  { s with active := some i, standby := i.other, mode := .screening, fault := false, standbyWritten := false }

/-- The response of a swap is given and its notice offered. -/
def State.swapAnswered (s : State) (k : SwapCheck) : State :=
  ({ s with
      swapCheck := none
      upQueue := fillPlace s.upQueue ⟨k.src, s.station, k.tag, 0, []⟩ } : State).offerNotice .bankSwapped none none
    (.partMode s.mode)

theorem State.offerNotice_turned (s : State) (i : BankId) (k : NoticeKind) (n p : Option Nat) (c : Cause) :
    (s.turned i).offerNotice k n p c = (s.offerNotice k n p c).turned i := by
  have hsame : (s.turned i).noticeMask = s.noticeMask ∧ (s.turned i).upQueue = s.upQueue ∧ (s.turned i).debt = s.debt :=
    ⟨rfl, rfl, rfl⟩
  obtain ⟨hmask, hqueue, hdebt⟩ := hsame
  unfold State.offerNotice
  rw [hmask, hqueue, hdebt]
  split_ifs <;> rfl

theorem State.swapAnswered_frame (s : State) (k : SwapCheck) : s.swapAnswered k =
    { s with
      swapCheck := none
      upQueue := (s.swapAnswered k).upQueue
      noticeLost := (s.swapAnswered k).noticeLost } :=
  State.offerNotice_frame ..

theorem State.swapStart_eq {s : State} {i : BankId} (h : s.exchangeBanks = s.turned i) (k : SwapCheck) :
    s.swapStart k = (s.swapAnswered k).turned i := by
  rw [State.swapStart, h, State.swapAnswered, ← State.offerNotice_turned]
  exact congrArg (fun u : State => u.offerNotice .bankSwapped none none (.partMode s.mode))
    (State.respond_known ((s.turned i).setSwapCheck none) k.src k.tag 0 [])

theorem State.endCheck_swaps {s : State} (h : s.swapFailure (s.bank s.standby) = none) (k : SwapCheck) :
    s.endCheck k = s.makeSwap k := by
  rw [State.endCheck, State.standbyBank, h]

/-! ### The end of a swap: PERMIT-OUT (R42) -/

theorem State.refreshPermitOut_agenda (s : State) : s.refreshPermitOut.agenda = s.agenda := by
  rw [State.refreshPermitOut_frame]

theorem State.swapEnds_agenda (s : State) (l : List Task) :
    (s.swapEnds l).agenda = s.agenda ++ (l ++ reexamineAll ++ [.completion, .scan]) :=
  congrArg (· ++ _) s.refreshPermitOut_agenda

theorem State.permitOutWanted_setPermitOut (s : State) (j : Nat) (b : Bool) (k : Nat) :
    (s.setPermitOut j b).permitOutWanted k = s.permitOutWanted k := rfl

theorem State.refreshPermitOut_level (s : State) (k : Nat) :
    s.refreshPermitOut.permitOutLevel k = if k < 4 then s.permitOutWanted k else s.permitOutLevel k := by
  have hfold : ∀ (l : List Nat) (u : State), (∀ j, u.permitOutWanted j = s.permitOutWanted j) →
      (l.foldl (fun u j => u.setPermitOut j (u.permitOutWanted j)) u).permitOutLevel k =
        if k ∈ l then s.permitOutWanted k else u.permitOutLevel k := by
    intro l
    induction l with
    | nil => exact fun u _ => rfl
    | cons j l ih =>
      intro u hu
      rw [List.foldl_cons, ih _ fun m => (State.permitOutWanted_setPermitOut ..).trans (hu m),
        State.permitOutLevel_setPermitOut, hu]
      by_cases hl : k ∈ l
      · rw [if_pos hl, if_pos (List.mem_cons_of_mem _ hl)]
      · by_cases hj : k = j
        · subst hj
          simp [hl]
        · simp [hl, hj]
  exact (hfold (List.range 4) s fun _ => rfl).trans (if_congr List.mem_range rfl rfl)

theorem State.permitOutWanted_iff {s : State} (h : s.banked) (k : Nat) : s.permitOutWanted k = true ↔
    ∃ n < 16, ∃ c, s.definedRec n = some c ∧ c.permitOut = some k ∧ s.phaseOf n = .running := by
  have hmode : (s.mode != .transparent) = true := bne_iff_ne.2 h
  rw [State.permitOutWanted, hmode, Bool.true_and, List.any_eq_true]
  refine exists_congr fun n => ?_
  rw [sectionNumbers, List.mem_range]
  refine and_congr_right fun _ => ?_
  cases s.definedRec n with
  | none => simp
  | some c => simp

/-! ### The swap out of TRANSPARENT (R101, R106) -/

theorem State.autoMove_idle {s : State} {n : Nat} (hout : s.campaign = .outOfCampaign) (hidle : s.phaseOf n = .idle) :
    s.autoMove n = none := by
  cases hmove : s.autoMove n with
  | none => rfl
  | some t =>
    have hnone := State.autoMove_eligible hmove
    rw [hout, hidle] at hnone
    cases hnone

/-- The re-examinations, the test and the scan a swap ends with change nothing with the bank good, every section IDLE outside a
campaign and nothing held. -/
theorem State.isInert_swapEnds {s : State} (hgood : ∀ e, s.activeBank.entryGood e = true) (hout : s.campaign = .outOfCampaign)
    (hidle : ∀ n < 16, s.phaseOf n = .idle) (hheld : s.held = []) :
    ∀ t ∈ reexamineAll ++ [.completion, .scan], s.isInert t = true := by
  intro t ht
  have hreads : ∀ l : List EntryRef, l.all s.activeBank.entryGood = true := fun l => List.all_eq_true.2 fun e _ => hgood e
  rcases List.mem_append.1 ht with ht | ht
  · obtain ⟨n, hn, rfl⟩ := List.mem_map.1 ht
    have hmove := State.autoMove_idle hout (hidle n (List.mem_range.1 hn))
    simp only [State.isInert, hmove, hreads, Option.isNone_none, Bool.or_true, Bool.and_true]
  · simp only [List.mem_cons, List.not_mem_nil, or_false] at ht
    rcases ht with rfl | rfl
    · simp only [State.isInert, State.completionMode, hout, hreads, Option.isNone_none, Bool.or_true, Bool.and_true]
    · simp only [State.isInert, hheld, List.isEmpty_nil]

theorem State.settled_swapEnds {s : State} (hgood : ∀ e, s.activeBank.entryGood e = true) (hout : s.campaign = .outOfCampaign)
    (hidle : ∀ n < 16, s.phaseOf n = .idle) (hheld : s.held = []) (hquiet : s.agenda = []) :
    (s.swapEnds []).settled = s.refreshPermitOut := by
  have hframe := s.swapEnds_frame []
  have hagenda := s.swapEnds_agenda []
  have hsame : (s.swapEnds []).setAgenda [] = s.refreshPermitOut.setAgenda s.refreshPermitOut.agenda := by
    rw [State.refreshPermitOut_agenda, hquiet]
    rfl
  rw [State.settled_of_inert, hsame]
  · rfl
  · rw [hagenda, hquiet]
    generalize s.swapEnds [] = u at hframe
    generalize u.permitOut = p at hframe
    generalize u.agenda = g at hframe
    subst hframe
    exact State.isInert_swapEnds hgood hout hidle hheld

/-- Settles O26. -/
theorem swapOutOfTransparentStartsTheFirstPeriod : Obligations.SwapOutOfTransparentStartsTheFirstPeriod := by
  unfold Obligations.SwapOutOfTransparentStartsTheFirstPeriod
  intro s k hrest hmode hactive hk hswap hheld hout hidle
  have hturn : s.exchangeBanks = s.turned s.standby := by
    rw [State.exchangeBanks, hactive]
    rfl
  rw [State.exec_swapCheckEnd hrest hk, State.endCheck_swaps hswap, State.makeSwap_transparent hmode, State.swapStart_eq hturn]
  have hanswer : ({ s with
      swapCheck := none
      upQueue := fillPlace s.upQueue ⟨k.src, s.station, k.tag, 0, []⟩ } : State).offerNotice .bankSwapped none none
      (.partMode .transparent) = s.swapAnswered k := by
    rw [State.swapAnswered, hmode]
  rw [hanswer]
  have hframe := s.swapAnswered_frame k
  generalize s.swapAnswered k = w at hframe ⊢
  have hbank : (w.turned s.standby).activeBank = s.bank s.standby := by
    rw [hframe]
    rfl
  have hclock : w.clock = s.clock := by rw [hframe]
  rw [hbank]
  have hkept : w.campaign = s.campaign ∧ w.sects = s.sects ∧ w.held = s.held ∧ w.agenda = s.agenda := by
    rw [hframe]
    exact ⟨rfl, rfl, rfl, rfl⟩
  obtain ⟨hcampaign, hsects, hkeptHeld, hagenda⟩ := hkept
  have hphase : ∀ n < 16, w.phaseOf n = .idle := fun n hn => by
    rw [State.phaseOf, State.sect, hsects]
    exact hidle n hn
  rw [State.settled_swapEnds (s := (w.turned s.standby).firstPeriod (s.bank s.standby).budget.content)
    (fun e => (congrArg (fun b => Bank.entryGood b e) hbank).trans (Bank.good_of_swapFailure hswap e))
    (hcampaign.trans hout) hphase (hkeptHeld.trans hheld) (hagenda.trans hrest.2)]
  have hturned : ((w.turned s.standby).firstPeriod (s.bank s.standby).budget.content).banked := fun h => PartMode.noConfusion h
  refine ⟨_, rfl, fun i hi => ?_, ?_⟩
  · rw [State.refreshPermitOut_level, if_pos hi, ← Bool.not_eq_true, State.permitOutWanted_iff hturned]
    rintro ⟨n, hn, c, _, _, hrunning⟩
    exact absurd ((hphase n hn).symm.trans hrunning) Phase.noConfusion
  · rw [State.refreshPermitOut_frame, ← hclock]
    rfl

end Sys2Proof.Machine
end

section

/-! PROOF. With the active bank reading good and nothing held an event takes no fault, whatever its tasks. -/

namespace Sys2Proof.Machine

/-- A search of the windows meets no fault in a good bank. -/
theorem findWindow_good {b : Bank} (h : ∀ e, b.entryGood e = true) (pass : Window → Bool) (l : List Nat)
    (i : Nat) : findWindow b pass l ≠ .faulty i := by
  induction l with
  | nil => exact Found.noConfusion
  | cons j l ih =>
    have hread : (b.window j).checked = some (b.window j).content := if_pos (h ⟨.windows, j⟩)
    rw [findWindow, hread]
    simp only []
    split
    · exact Found.noConfusion
    · exact ih

/-- With the bank good and nothing held the part mode, FAULT, the bank and the empty queue of held orders stand. -/
def Untroubled (s t : State) : Prop := (∀ e, s.activeBank.entryGood e = true) → s.held = [] →
  t.mode = s.mode ∧ t.fault = s.fault ∧ t.held = [] ∧ t.activeBank = s.activeBank

namespace Untroubled

theorem refl (s : State) : Untroubled s s := fun _ hheld => ⟨rfl, rfl, hheld, rfl⟩

theorem trans {s t u : State} (h : Untroubled s t) (h' : Untroubled t u) : Untroubled s u := fun hgood hheld => by
  obtain ⟨hmode, hfault, hnone, hbank⟩ := h hgood hheld
  obtain ⟨hmode', hfault', hnone', hbank'⟩ := h' (fun e => by rw [hbank]; exact hgood e) hnone
  exact ⟨hmode'.trans hmode, hfault'.trans hfault, hnone', hbank'.trans hbank⟩

theorem foldl {α : Type} {f : State → α → State} (hf : ∀ s x, Untroubled s (f s x)) (l : List α) (s : State) :
    Untroubled s (l.foldl f s) := by
  induction l generalizing s with
  | nil => exact refl s
  | cons x l ih => exact (hf s x).trans (ih _)

theorem offerNotice (s : State) (k : NoticeKind) (n p : Option Nat) (c : Cause) : Untroubled s (s.offerNotice k n p c) := by
  rw [State.offerNotice_frame]
  exact fun _ hheld => ⟨rfl, rfl, hheld, rfl⟩

theorem setAgenda (s : State) (l : List Task) : Untroubled s (s.setAgenda l) := fun _ hheld => ⟨rfl, rfl, hheld, rfl⟩

theorem addTasks (s : State) (l : List Task) : Untroubled s (s.addTasks l) := setAgenda s _

theorem setSect (s : State) (n : Nat) (v : SectionDyn) : Untroubled s (s.setSect n v) := fun _ hheld => ⟨rfl, rfl, hheld, rfl⟩

theorem permitOutOf (s : State) (n : Nat) : Untroubled s (s.permitOutOf n) := by
  unfold State.permitOutOf
  split
  · split
    · exact fun _ hheld => ⟨rfl, rfl, hheld, rfl⟩
    · exact refl s
  · exact refl s

theorem checkReads (s : State) (l : List EntryRef) : Untroubled s (s.checkReads l) := fun hgood hheld => by
  rw [State.checkReads_good hgood]
  exact refl s hgood hheld

theorem changePhase (s : State) (n : Nat) (p : Phase) (c : Option HaltCause) : Untroubled s (s.changePhase n p c) :=
  ((((setSect s n _).trans (offerNotice _ _ _ _ _)).trans (permitOutOf _ n)).trans (checkReads _ _)).trans (addTasks _ _)

theorem takeHalt (s : State) (n : Nat) (c : HaltCause) : Untroubled s (s.takeHalt n c) := by
  unfold State.takeHalt
  split
  · exact (changePhase s n _ _).trans (addTasks _ _)
  · exact refl s

theorem reexamine (s : State) (n : Nat) : Untroubled s (s.reexamine n) := by
  refine (checkReads s (s.reexamineReads n)).trans ?_
  unfold State.reexamine
  simp only []
  split
  · exact changePhase _ _ _ _
  · exact refl _

theorem testCompletion (s : State) : Untroubled s s.testCompletion := by
  refine (checkReads s s.completionReads).trans ?_
  have hcampaign : ∀ (u : State) (m : CampaignMode), Untroubled u { u with campaign := m } :=
    fun u m _ hheld => ⟨rfl, rfl, hheld, rfl⟩
  unfold State.testCompletion
  simp only []
  split
  · exact ((hcampaign _ _).trans (offerNotice _ _ _ _ _)).trans (addTasks _ _)
  · exact refl _

theorem issueTrip (n : Nat) (s : State) (a : TripAction) : Untroubled s (State.issueTrip n s a) := fun hgood hheld => by
  have hfound : ∀ i, s.windowOf a.point ≠ .faulty i := findWindow_good hgood _ _
  unfold State.issueTrip
  split
  · split_ifs
    · exact offerNotice _ _ _ _ _ hgood hheld
    · exact ⟨rfl, rfl, hheld, rfl⟩
    · exact offerNotice _ _ _ _ _ hgood hheld
  · exact offerNotice _ _ _ _ _ hgood hheld
  · exact absurd ‹_› (hfound _)

theorem issueTrips (s : State) (n : Nat) : Untroubled s (s.issueTrips n) := fun hgood hheld => by
  have hread : s.readSection n = some (s.activeBank.sectionRec n).content := if_pos (hgood ⟨.sections, n⟩)
  rw [State.issueTrips, hread]
  exact foldl (issueTrip n) _ s hgood hheld

theorem runTask (s : State) (t : Task) : Untroubled s (s.runTask t) := by
  cases t with
  | halt n c => exact takeHalt s n c
  | haltFirst n c => exact takeHalt s n c
  | reexamine n => exact reexamine s n
  | tripActions n => exact issueTrips s n
  | completion => exact testCompletion s
  | scan =>
    intro hgood hheld
    rw [State.runTask, State.scan_of_empty s hheld]
    exact refl s hgood hheld

theorem countChoice (s : State) (k : Nat) : Untroubled s (s.countChoice k) := by
  unfold State.countChoice
  split
  · exact refl s
  · exact fun _ hheld => ⟨rfl, rfl, hheld, rfl⟩

theorem settle (fuel : Nat) (s : State) : Untroubled s (Machine.settle fuel s) := by
  induction fuel generalizing s with
  | zero => exact refl s
  | succ fuel ih =>
    rw [Machine.settle]
    split
    · exact setAgenda s []
    · exact (((countChoice s _).trans (setAgenda _ _)).trans (runTask _ _)).trans (ih _)

theorem settled (s : State) : Untroubled s s.settled := settle _ s

end Untroubled

/-- What an event with nothing held and no fault to take may change. -/
theorem State.settled_untroubled {u : State} (hgood : ∀ e, u.activeBank.entryGood e = true) (hheld : u.held = []) :
    u.settled = { u with
      sects := u.settled.sects
      permitOut := u.settled.permitOut
      campaign := u.settled.campaign
      entries := u.settled.entries
      nextSeq := u.settled.nextSeq
      tagCounter := u.settled.tagCounter
      upQueue := u.settled.upQueue
      noticeLost := u.settled.noticeLost
      agenda := u.settled.agenda
      draws := u.settled.draws } := by
  obtain ⟨hmode, hfault, _, _⟩ := Untroubled.settled u hgood hheld
  obtain ⟨hnone, himage, hload, hpledge, hremaining, hreserve, hcapture, hmore, hsteady⟩ := Stands.cascading.settled u hheld
  generalize u.settled = t at *
  obtain ⟨⟩ := u
  obtain ⟨⟩ := t
  simp only [State.steady, Steady.mk.injEq] at hsteady
  simp only at hmode hfault hheld hnone himage hload hpledge hremaining hreserve hcapture hmore
  simp only [hmode, hfault, hheld, hnone, himage, hload, hpledge, hremaining, hreserve, hcapture, hmore, hsteady]

end Sys2Proof.Machine
end

section

/-! PROOF. The image and the sections carried across a swap in service. -/

namespace Sys2Proof.Machine

/-! ### The image (R19) -/

theorem State.elapsed_congr {s t : State} (h : t.clock = s.clock) : t.elapsed = s.elapsed := by
  funext c
  rw [State.elapsed, State.elapsed, h]

theorem State.staleDue_congr {s t : State} {p : Nat} (hpoint : t.point p = s.point p) (hbank : t.activeBank = s.activeBank)
    (hclock : t.clock = s.clock) : t.staleDue p = s.staleDue p := by
  unfold State.staleDue
  rw [hpoint, hbank, State.elapsed_congr hclock]

/-- What is carried of a point depends on the point itself, the bank, the clock and the free values alone. -/
theorem State.carried_congr {s t : State} {p : Nat} (old : Bank) (hpoint : t.point p = s.point p)
    (hbank : t.activeBank = s.activeBank) (hclock : t.clock = s.clock) (hdraws : t.draws = s.draws) :
    t.carried old p = s.carried old p := by
  have hsame : t.sameClass old p = s.sameClass old p := by
    unfold State.sameClass
    rw [hbank, hdraws]
  unfold State.carried
  rw [hsame, State.staleDue_congr hpoint hbank hclock, hpoint, hbank]

theorem State.carryPoint_eq (old : Bank) (s : State) (p : Nat) : ∃ m, State.carryPoint old s p =
    { s with
      image := Store.write PointDyn.clear s.image p (s.carried old p)
      agenda := s.agenda ++ List.replicate m .scan } := by
  unfold State.carryPoint
  simp only []
  split
  · exact ⟨1, rfl⟩
  · refine ⟨0, ?_⟩
    rw [List.replicate_zero, List.append_nil]
    rfl

theorem foldl_carryPoint (old : Bank) {l : List Nat} (hl : l.Nodup) (s : State) : ∃ m, (l.foldl (State.carryPoint old) s).agenda =
      s.agenda ++ List.replicate m .scan ∧
    ∀ p, (l.foldl (State.carryPoint old) s).point p = if p ∈ l then s.carried old p else s.point p := by
  induction l generalizing s with
  | nil => exact ⟨0, (List.append_nil _).symm, fun _ => rfl⟩
  | cons q l ih =>
    obtain ⟨hq, hl⟩ := List.nodup_cons.1 hl
    obtain ⟨k, hstep⟩ := State.carryPoint_eq old s q
    obtain ⟨m, hagenda, hpoint⟩ := ih hl (State.carryPoint old s q)
    have hother : ∀ p ≠ q, (State.carryPoint old s q).point p = s.point p := fun p hp => by
      rw [hstep]
      exact Store.read_write_other _ _ _ hp
    have hcarried : ∀ p ≠ q, (State.carryPoint old s q).carried old p = s.carried old p := fun p hp => by
      refine State.carried_congr old (hother p hp) (State.carryPoint_activeBank old s q) ?_ ?_
      · rw [hstep]
      · rw [hstep]
    have hself : (State.carryPoint old s q).point q = s.carried old q := by
      rw [hstep]
      exact Store.read_write_same ..
    refine ⟨k + m, ?_, fun p => ?_⟩
    · rw [List.foldl_cons, hagenda, hstep, List.replicate_add]
      exact List.append_assoc ..
    · rw [List.foldl_cons, hpoint]
      by_cases hp : p = q
      · subst hp
        rw [if_neg hq, hself, if_pos List.mem_cons_self]
      · rw [hcarried p hp, hother p hp]
        exact if_congr (by simp [hp]) rfl rfl

/-- What is carried of a point as R19 states it. -/
theorem State.carried_eq {s t : State} {p : Nat} {old new : Bank} {same : Nat → Bool} (hbank : t.activeBank = new)
    (hpoint : t.point p = s.point p) (hclock : t.clock = s.clock) (hsame : t.sameClass old p = same p) :
    t.carried old p = pointCarried s new same p := by
  rw [State.carried, pointCarried, hsame, hbank, hpoint]
  cases same p with
  | false => rfl
  | true =>
    rw [Bank.isMapped, State.staleDue, hbank, hpoint, State.elapsed_congr hclock]
    generalize s.point p = d
    obtain ⟨report, fresh, mark, tally, setPoint⟩ := d
    cases new.storedWindowOf p with
    | none => rfl
    | some w => cases report <;> cases fresh <;> rfl

/-! ### The sections (R46) -/

/-- The state with its sections replaced. -/
def State.withSects (s : State) (q : Store SectionDyn) : State := { s with sects := q }

theorem State.offerNotice_withSects (s : State) (q : Store SectionDyn) (k : NoticeKind) (n p : Option Nat) (c : Cause) :
    (s.withSects q).offerNotice k n p c = (s.offerNotice k n p c).withSects q := by
  have hsame : (s.withSects q).noticeMask = s.noticeMask ∧ (s.withSects q).upQueue = s.upQueue ∧
      (s.withSects q).debt = s.debt := ⟨rfl, rfl, rfl⟩
  obtain ⟨hmask, hqueue, hdebt⟩ := hsame
  unfold State.offerNotice
  rw [hmask, hqueue, hdebt]
  split_ifs <;> rfl

/-- The overdue timer of a section has run against its limit in the new bank (R46). -/
def State.overdueCarried (s : State) (old : Bank) (n : Nat) : Bool :=
  s.activeBank.isDefined n &&
    (s.setSect n (s.carriedSection old n)).overdueUnder (s.activeBank.sec n) n

/-- The notice of a section whose new limit has run. -/
def overdueOffered (phase : Nat → Phase) (s : State) (n : Nat) : State :=
  s.offerNotice .phaseOverdue (some n) none (.phase (phase n))

theorem overdueOffered_withSects (phase : Nat → Phase) (s : State) (q : Store SectionDyn) (n : Nat) :
    overdueOffered phase (s.withSects q) n = (overdueOffered phase s n).withSects q :=
  State.offerNotice_withSects ..

/-- The dynamic state of a section after the swap, its overdue-noticed flag included. -/
def State.sectionAfter (s : State) (old : Bank) (n : Nat) : SectionDyn :=
  { s.carriedSection old n with overdue := (s.carriedSection old n).overdue || s.overdueCarried old n }

theorem State.carriedSection_new {s : State} {old : Bank} {n : Nat} (hdefined : s.activeBank.isDefined n = true)
    (hwas : s.wasDefined old n = false) : s.carriedSection old n = ⟨.idle, s.clock, none, .notCounting, false, false⟩ := by
  rw [State.carriedSection, hdefined, hwas]

theorem State.carriedSection_kept {s : State} {old : Bank} {n : Nat} (hdefined : s.activeBank.isDefined n = true)
    (hwas : s.wasDefined old n = true) : s.carriedSection old n =
      { s.sect n with
        runEmpty := if s.phaseOf n = .draining then s.carriedRunEmpty (s.sameFlow old n) (s.activeBank.sec n) n
          else (s.sect n).runEmpty } := by
  rw [State.carriedSection, hdefined, hwas]
  by_cases hdraining : s.phaseOf n = .draining
  · rw [if_pos hdraining]
    exact if_pos hdraining
  · rw [if_neg hdraining]
    exact if_neg hdraining

theorem State.carriedSection_gone {s : State} {old : Bank} {n : Nat} (hdefined : s.activeBank.isDefined n = false)
    (hwas : s.wasDefined old n = true) : s.carriedSection old n = { s.sect n with mark := false } := by
  rw [State.carriedSection, hdefined, hwas]

theorem State.carriedSection_none {s : State} {old : Bank} {n : Nat} (hdefined : s.activeBank.isDefined n = false)
    (hwas : s.wasDefined old n = false) : s.carriedSection old n = s.sect n := by
  rw [State.carriedSection, hdefined, hwas]

theorem SectionRec.phaseLimit_eq (r : SectionRec) (p : Phase) : r.phaseLimit p = stayLimit r p := by
  rw [stayLimit]
  cases p <;> rfl

theorem State.overdueCarried_eq (s : State) (old : Bank) (n : Nat) : s.overdueCarried old n =
    (s.wasDefined old n && s.activeBank.isDefined n && stayLimit (s.activeBank.sec n) (s.phaseOf n) != 0 &&
      !(s.sect n).overdue && decide (600 * stayLimit (s.activeBank.sec n) (s.phaseOf n) ≤ s.elapsed (s.sect n).entryTime)) := by
  have hself : (s.setSect n (s.carriedSection old n)).sect n = s.carriedSection old n := State.sect_setSect_same ..
  have helapsed : (s.setSect n (s.carriedSection old n)).elapsed = s.elapsed := State.elapsed_congr rfl
  rw [State.overdueCarried, State.overdueUnder, State.phaseOf, hself, helapsed, SectionRec.phaseLimit_eq]
  cases hdefined : s.activeBank.isDefined n with
  | false => simp
  | true =>
    cases hwas : s.wasDefined old n with
    | false =>
      rw [State.carriedSection_new hdefined hwas]
      rfl
    | true =>
      rw [State.carriedSection_kept hdefined hwas]
      simp only [Bool.true_and]
      rfl

theorem State.carriedSection_phase {s : State} {old : Bank} {n : Nat} (h : s.overdueCarried old n = true) :
    (s.carriedSection old n).phase = s.phaseOf n := by
  rw [State.overdueCarried_eq] at h
  simp only [Bool.and_eq_true] at h
  obtain ⟨⟨⟨⟨hwas, hdefined⟩, _⟩, _⟩, _⟩ := h
  rw [State.carriedSection_kept hdefined hwas]
  rfl

theorem State.carrySection_eq (old : Bank) (s : State) (n : Nat) : ∃ q, State.carrySection old s n =
    (if s.overdueCarried old n then overdueOffered s.phaseOf s n else s).withSects q ∧
    ∀ m, Store.read SectionDyn.clear q m = if m = n then s.sectionAfter old n else s.sect m := by
  by_cases hdue : s.overdueCarried old n = true
  · have hstep : State.carrySection old s n = (s.setSect n (s.carriedSection old n)).noteOverdue n := if_pos hdue
    have hphase : (s.setSect n (s.carriedSection old n)).phaseOf n = s.phaseOf n := by
      rw [State.phaseOf, State.sect_setSect_same, State.carriedSection_phase hdue]
    have hnote : State.offerNotice (s.setSect n (s.carriedSection old n)) .phaseOverdue (some n) none (.phase (s.phaseOf n)) =
        (overdueOffered s.phaseOf s n).withSects (Store.write SectionDyn.clear s.sects n (s.carriedSection old n)) :=
      State.offerNotice_withSects s _ .phaseOverdue (some n) none (.phase (s.phaseOf n))
    rw [hstep, if_pos hdue, State.noteOverdue, hphase, hnote, State.sect_setSect_same]
    refine ⟨_, rfl, fun m => ?_⟩
    rw [State.sectionAfter, hdue, Bool.or_true]
    by_cases hm : m = n
    · subst hm
      rw [if_pos rfl]
      exact Store.read_write_same ..
    · rw [if_neg hm]
      exact (Store.read_write_other _ _ _ hm).trans (Store.read_write_other _ _ _ hm)
  · have hstep : State.carrySection old s n = s.setSect n (s.carriedSection old n) := if_neg hdue
    rw [hstep, if_neg hdue]
    refine ⟨_, rfl, fun m => ?_⟩
    rw [State.sectionAfter, Bool.eq_false_iff.2 hdue, Bool.or_false]
    exact State.sect_setSect s n m _

/-- What a section's carry depends on: the section itself, the image, the bank, the clock and the free values. -/
structure SameCarry (s t : State) : Prop where
  image : t.image = s.image
  bank : t.activeBank = s.activeBank
  clock : t.clock = s.clock
  draws : t.draws = s.draws

namespace SameCarry

variable {s t : State} (h : SameCarry s t) {n : Nat} (hsect : t.sect n = s.sect n)
include h

theorem point : t.point = s.point := by
  funext p
  rw [State.point, State.point, h.image]

include hsect

theorem carriedRunEmpty (same : Bool) (r : SectionRec) : t.carriedRunEmpty same r n = s.carriedRunEmpty same r n := by
  have hflow : t.flowLow = s.flowLow := by
    funext f
    unfold State.flowLow
    rw [h.point]
  unfold State.carriedRunEmpty State.drainEntry State.confirmDue
  rw [hflow, h.point, h.clock, hsect, h.bank, State.elapsed_congr h.clock]

theorem carriedSection (old : Bank) : t.carriedSection old n = s.carriedSection old n := by
  have hwas : t.wasDefined old n = s.wasDefined old n := by
    unfold State.wasDefined State.showsDefined State.phaseOf
    rw [hsect, h.draws]
  have hflow : t.sameFlow old n = s.sameFlow old n := by
    unfold State.sameFlow
    rw [h.bank, h.draws]
  unfold State.carriedSection
  rw [hwas, hflow, hsect, h.bank, h.clock, h.carriedRunEmpty hsect]

theorem overdueCarried (old : Bank) : t.overdueCarried old n = s.overdueCarried old n := by
  have hcarried := h.carriedSection hsect old
  unfold State.overdueCarried State.overdueUnder State.phaseOf
  rw [State.sect_setSect_same, State.sect_setSect_same, hcarried, h.bank]
  rw [State.elapsed_congr (show (t.setSect n (s.carriedSection old n)).clock = (s.setSect n (s.carriedSection old n)).clock from
    h.clock)]

theorem sectionAfter (old : Bank) : t.sectionAfter old n = s.sectionAfter old n := by
  rw [State.sectionAfter, State.sectionAfter, h.carriedSection hsect, h.overdueCarried hsect]

end SameCarry

theorem SameCarry.carrySection (old : Bank) (s : State) (n : Nat) : SameCarry s (State.carrySection old s n) := by
  rw [State.carrySection_frame]
  exact ⟨rfl, rfl, rfl, rfl⟩

theorem foldl_overdueOffered_withSects (phase : Nat → Phase) (l : List Nat) (s : State) (q : Store SectionDyn) :
    l.foldl (overdueOffered phase) (s.withSects q) = (l.foldl (overdueOffered phase) s).withSects q :=
  List.foldl_hom (fun u : State => u.withSects q) fun u n => overdueOffered_withSects phase u q n

theorem foldl_carrySection (old : Bank) {l : List Nat} (hl : l.Nodup) (s : State) : ∃ q,
    l.foldl (State.carrySection old) s =
      ((l.filter (s.overdueCarried old)).foldl (overdueOffered s.phaseOf) s).withSects q ∧
    ∀ n, Store.read SectionDyn.clear q n = if n ∈ l then s.sectionAfter old n else s.sect n := by
  induction l generalizing s with
  | nil => exact ⟨s.sects, rfl, fun _ => rfl⟩
  | cons m l ih =>
    obtain ⟨hm, hl⟩ := List.nodup_cons.1 hl
    obtain ⟨q, hstep, hsect⟩ := State.carrySection_eq old s m
    obtain ⟨q', hrest, hsect'⟩ := ih hl (State.carrySection old s m)
    have hsame := SameCarry.carrySection old s m
    have hnow : ∀ n, (State.carrySection old s m).sect n = if n = m then s.sectionAfter old m else s.sect n := fun n => by
      rw [hstep]
      exact hsect n
    have hother : ∀ n ∈ l, (State.carrySection old s m).sect n = s.sect n := fun n hn =>
      (hnow n).trans (if_neg fun heq : n = m => hm (heq ▸ hn))
    have hfilter : l.filter ((State.carrySection old s m).overdueCarried old) = l.filter (s.overdueCarried old) :=
      List.filter_congr fun n hn => hsame.overdueCarried (hother n hn) old
    have hphases : ∀ u : State, (l.filter (s.overdueCarried old)).foldl (overdueOffered (State.carrySection old s m).phaseOf) u =
        (l.filter (s.overdueCarried old)).foldl (overdueOffered s.phaseOf) u := fun u =>
      List.foldl_ext _ _ u fun v n hn => by
        rw [overdueOffered, State.phaseOf, hother n (List.mem_filter.1 hn).1]
        rfl
    refine ⟨q', ?_, fun n => ?_⟩
    · rw [List.foldl_cons, hrest, hfilter, hphases, hstep, foldl_overdueOffered_withSects, List.filter_cons]
      by_cases hdue : s.overdueCarried old m = true
      · rw [if_pos hdue, if_pos hdue, List.foldl_cons]
        rfl
      · rw [if_neg hdue, if_neg hdue]
        rfl
    · rw [hsect']
      by_cases hn : n ∈ l
      · rw [if_pos hn, if_pos (List.mem_cons_of_mem _ hn), hsame.sectionAfter (hother n hn)]
      · rw [if_neg hn, hnow]
        by_cases heq : n = m
        · subst heq
          rw [if_pos rfl, if_pos List.mem_cons_self]
        · rw [if_neg heq, if_neg (by simp [heq, hn])]

end Sys2Proof.Machine
end

section

/-! PROOF. The sections, the budget and the orders across a swap in service as the statement gives them. -/

namespace Sys2Proof.Machine

/-! ### The sections as R46 states them -/

section Carried

variable {s u c : State} {new : Bank} {n : Nat} (hbank : c.activeBank = new) (hsect : c.sect n = s.sect n)
  (hclock : c.clock = s.clock) (hnow : u.clock = s.clock)
  (hpoint : ∀ p, (u.point p).report = (c.point p).report ∧ (u.point p).fresh = (c.point p).fresh)

include hbank hsect hclock in
theorem State.overdueCarried_swap (old : Bank) : c.overdueCarried old n = overdueAtSwap s new (c.wasDefined old) n := by
  rw [State.overdueCarried_eq, overdueAtSwap, hbank, State.phaseOf, hsect, State.elapsed_congr hclock]
  rfl

include hclock hnow hpoint in
theorem State.drainEntry_swap (flow : List FlowPoint) : c.drainEntry flow = emptyOnEntry u flow := by
  have hlow : flow.all c.flowLow = flow.all (fun f =>
      match (u.point f.point).report with
      | some rep => (u.point f.point).fresh && decide (rep.value.toInt ≤ f.threshold.toInt)
      | none => false) := by
    congr 1
    funext f
    obtain ⟨hreport, hfresh⟩ := hpoint f.point
    rw [State.flowLow, hreport, hfresh]
    cases (c.point f.point).report with
    | none => exact Bool.and_false _
    | some rep => rfl
  rw [State.drainEntry, hlow, hclock, ← hnow, emptyOnEntry]
  cases flow with
  | nil => rfl
  | cons f flow => rfl

include hbank hsect hclock hnow hpoint in
theorem State.carriedRunEmpty_swap (same : Bool) (hdraining : s.phaseOf n = .draining) :
    c.carriedRunEmpty same (new.sec n) n = runEmptyCarried s u (new.sec n) same n := by
  have hstale : (new.sec n).flowPoints.any (fun f => !(c.point f.point).fresh) =
      (new.sec n).flowPoints.any (fun f => !(u.point f.point).fresh) := by
    congr 1
    funext f
    rw [(hpoint f.point).2]
  rw [State.carriedRunEmpty, runEmptyCarried, if_neg (not_not_intro hdraining), hstale,
    State.drainEntry_swap hclock hnow hpoint, State.confirmDue, hsect, hbank, State.elapsed_congr hclock]
  cases same with
  | false => rfl
  | true =>
    refine (if_neg Bool.false_ne_true).trans (Eq.trans ?_ (if_neg (Ne.symm Bool.false_ne_true)).symm)
    refine if_congr Iff.rfl rfl ?_
    cases (s.sect n).runEmpty with
    | notCounting => rfl
    | counting t => exact if_congr decide_eq_true_iff rfl rfl
    | confirmed => rfl

include hbank hsect hclock hnow hpoint in
theorem State.sectionAfter_swap (old : Bank) :
    c.sectionAfter old n = sectionCarried s u new (c.wasDefined old) (c.sameFlow old) n := by
  have hphase : c.phaseOf n = s.phaseOf n := congrArg SectionDyn.phase hsect
  rw [State.sectionAfter, State.overdueCarried_swap hbank hsect hclock, sectionCarried]
  cases hwas : c.wasDefined old n with
  | true =>
    cases hdefined : new.isDefined n with
    | true =>
      rw [State.carriedSection_kept (hbank ▸ hdefined) hwas, hphase, hsect, hbank]
      by_cases hdraining : s.phaseOf n = .draining
      · rw [if_pos hdraining, State.carriedRunEmpty_swap hbank hsect hclock hnow hpoint _ hdraining]
        rfl
      · rw [if_neg hdraining, runEmptyCarried, if_pos hdraining]
        rfl
    | false =>
      rw [State.carriedSection_gone (hbank ▸ hdefined) hwas, hsect, overdueAtSwap, hdefined, Bool.and_false]
      simp
  | false =>
    have hnot : overdueAtSwap s new (c.wasDefined old) n = false := by
      rw [overdueAtSwap, hwas]
      rfl
    rw [hnot]
    cases hdefined : new.isDefined n with
    | true =>
      rw [State.carriedSection_new (hbank ▸ hdefined) hwas, hclock]
      rfl
    | false =>
      rw [State.carriedSection_none (hbank ▸ hdefined) hwas, hsect, Bool.or_false]
      rfl

end Carried

/-! ### The budget (R101, R116) -/

theorem State.carryPeriodTimer_eq {s : State} {p : Timer} (hp : s.periodTimer = some p) (b : BudgetRec) :
    ∃ m, s.carryPeriodTimer b = { s with
      remaining := if b.period ≤ s.elapsed p.start then b.allowance else s.remaining
      unusedReserve := if b.period ≤ s.elapsed p.start then b.reserve else s.unusedReserve
      periodNumber := if b.period ≤ s.elapsed p.start then (s.periodNumber + 1) % 65536 else s.periodNumber
      periodTimer := some ⟨if b.period ≤ s.elapsed p.start then s.clock else p.start, b.period⟩
      agenda := s.agenda ++ List.replicate m .scan } := by
  have hrun : s.carryPeriodTimer b =
      if (s.setPeriodTimer (some ⟨p.start, b.period⟩)).timerDue 1 ⟨p.start, b.period⟩ then
        (s.setPeriodTimer (some ⟨p.start, b.period⟩)).boundary b
      else s.setPeriodTimer (some ⟨p.start, b.period⟩) := by
    rw [State.carryPeriodTimer, hp]
    rfl
  have hdue : (s.setPeriodTimer (some ⟨p.start, b.period⟩)).timerDue 1 ⟨p.start, b.period⟩ = true ↔
      b.period ≤ s.elapsed p.start := by
    rw [State.timerDue, decide_eq_true_iff, Nat.one_mul]
    exact Iff.rfl
  rw [hrun]
  by_cases h : b.period ≤ s.elapsed p.start
  · rw [if_pos (hdue.2 h)]
    simp only [if_pos h]
    exact ⟨1, rfl⟩
  · rw [if_neg (mt hdue.1 h)]
    simp only [if_neg h]
    exact ⟨0, by rw [List.replicate_zero, List.append_nil]; rfl⟩

theorem State.carryTally_eq {s : State} {q : Timer} (hwf : Store.wf PointDyn.clear s.image = true) (b : BudgetRec) :
    ∃ image, (s.setTallyTimer (some (q.withLength b.tallyInterval))).runTally b = { s with
      tallyTimer := some ⟨if 600 * b.tallyInterval ≤ s.elapsed q.start then s.clock else q.start, b.tallyInterval⟩
      image := image } ∧
    ∀ n, Store.read PointDyn.clear image n = { s.point n with
      tally := if 600 * b.tallyInterval ≤ s.elapsed q.start then (s.point n).tally - 1 else (s.point n).tally } := by
  have hdue : (s.setTallyTimer (some (q.withLength b.tallyInterval))).timerDue 600 (q.withLength b.tallyInterval) = true ↔
      600 * b.tallyInterval ≤ s.elapsed q.start := by
    rw [State.timerDue, decide_eq_true_iff]
    exact Iff.rfl
  by_cases h : 600 * b.tallyInterval ≤ s.elapsed q.start
  · have hrun : (s.setTallyTimer (some (q.withLength b.tallyInterval))).runTally b =
        { (s.setTallyTimer (some (q.withLength b.tallyInterval))).decay with tallyTimer := some ⟨s.clock, b.tallyInterval⟩ } :=
      if_pos (hdue.2 h)
    rw [hrun]
    simp only [if_pos h]
    have hframe := (s.setTallyTimer (some (q.withLength b.tallyInterval))).decay_frame
    have hpoint := State.decay_point (s := s.setTallyTimer (some (q.withLength b.tallyInterval))) hwf
    generalize (s.setTallyTimer (some (q.withLength b.tallyInterval))).decay = v at hframe hpoint ⊢
    refine ⟨v.image, ?_, hpoint⟩
    generalize v.image = image at hframe ⊢
    rw [hframe]
    rfl
  · have hrun : (s.setTallyTimer (some (q.withLength b.tallyInterval))).runTally b =
        s.setTallyTimer (some (q.withLength b.tallyInterval)) := if_neg (mt hdue.1 h)
    rw [hrun]
    simp only [if_neg h]
    exact ⟨s.image, rfl, fun _ => rfl⟩

/-- The budget figures, timers and image after the swap of the budget. -/
def State.budgetCarried (s : State) (b : BudgetRec) (p q : Timer) (image : Store PointDyn) (m : Nat) : State :=
  { s with
    remaining := if b.period ≤ s.elapsed p.start then b.allowance else min s.remaining b.allowance
    unusedReserve := if b.period ≤ s.elapsed p.start then b.reserve
      else min s.unusedReserve (min b.reserve (min s.remaining b.allowance))
    periodNumber := if b.period ≤ s.elapsed p.start then (s.periodNumber + 1) % 65536 else s.periodNumber
    periodTimer := some ⟨if b.period ≤ s.elapsed p.start then s.clock else p.start, b.period⟩
    tallyTimer := some ⟨if 600 * b.tallyInterval ≤ s.elapsed q.start then s.clock else q.start, b.tallyInterval⟩
    load := loadOver s.activeBank image
    image := image
    agenda := s.agenda ++ List.replicate m .scan }

/-- The figures clamped to the new record, and the load account of the new bank. -/
def State.clamped (s : State) (b : BudgetRec) (k : Nat) : State :=
  { s with
    remaining := min s.remaining b.allowance
    unusedReserve := min s.unusedReserve (min b.reserve (min s.remaining b.allowance))
    load := loadOver s.activeBank s.image
    agenda := s.agenda ++ List.replicate k .scan }

theorem State.carryBudget_clamped (s : State) (b : BudgetRec) : ∃ k, s.carryBudget b = (s.clamped b k).carryTimers b := by
  unfold State.carryBudget
  simp only []
  split
  · exact ⟨1, rfl⟩
  · refine ⟨0, ?_⟩
    rw [State.clamped, List.replicate_zero, List.append_nil]

theorem State.carryBudget_eq {s : State} {p q : Timer} (hp : s.periodTimer = some p) (hq : s.tallyTimer = some q)
    (hwf : Store.wf PointDyn.clear s.image = true) (b : BudgetRec) :
    ∃ image m, s.carryBudget b = s.budgetCarried b p q image m ∧
    ∀ n, Store.read PointDyn.clear image n = { s.point n with
      tally := if 600 * b.tallyInterval ≤ s.elapsed q.start then (s.point n).tally - 1 else (s.point n).tally } := by
  have hloaded := (State.loadedBy_carryBudget hwf b).account
  obtain ⟨k, hclamped⟩ := s.carryBudget_clamped b
  rw [hclamped, State.carryTimers_eq] at hloaded
  rw [hclamped, State.carryTimers_eq]
  obtain ⟨m, hperiod⟩ := State.carryPeriodTimer_eq (s := s.clamped b k) (p := p) hp b
  generalize (s.clamped b k).carryPeriodTimer b = v at hperiod hloaded ⊢
  have htally : v.tallyTimer.map (Timer.withLength b.tallyInterval) = some (q.withLength b.tallyInterval) := by
    rw [hperiod]
    exact congrArg (Option.map (Timer.withLength b.tallyInterval)) hq
  have hsame : v.image = s.image ∧ v.clock = s.clock := by
    rw [hperiod]
    exact ⟨rfl, rfl⟩
  obtain ⟨himage, hclock⟩ := hsame
  obtain ⟨image, heq, hpoint⟩ := State.carryTally_eq (s := v) (q := q) (himage ▸ hwf) b
  rw [htally, heq] at hloaded
  rw [htally, heq]
  refine ⟨image, k + m, ?_, fun n => ?_⟩
  · rw [State.budgetCarried, ← hloaded, hperiod, List.replicate_add, ← List.append_assoc]
    rfl
  · rw [hpoint, State.point, himage, State.elapsed_congr hclock]
    rfl

/-! ### The orders (R131, R148) -/

theorem State.logicalOf_eq_pointUnder (s : State) (dest : Byte) (point : Word) : s.logicalOf dest point = pointUnder s dest point := by
  unfold State.logicalOf pointUnder
  cases s.covering dest point <;> rfl

theorem State.carryOrders_eq (s : State) : s.carryOrders = { s with
    held := s.held.map (fun h => { h with point := pointUnder s h.tel.dest h.tel.point })
    entries := s.entries.map (fun e => if e.part = .general then { e with logical := pointUnder s e.dest e.point } else e) } := by
  unfold State.carryOrders
  simp only [State.logicalOf_eq_pointUnder, beq_iff_eq]
  rfl

/-! ### The halts (R71) -/

theorem State.swapHalt_eq (s : State) (n : Nat) : s.swapHalt n = haltAtSwap s n := by
  rw [State.swapHalt, haltAtSwap]
  cases s.definedRec n with
  | none => rfl
  | some c =>
    refine if_congr Iff.rfl rfl (if_congr ?_ (if_congr Iff.rfl rfl ?_) rfl)
    · rw [haltReaches, Bool.or_eq_true, beq_iff_eq, beq_iff_eq]
    · cases s.permitOk c <;> rfl

theorem State.swapHaltTasks_eq (s : State) :
    s.swapHaltTasks = (List.range 16).filterMap (fun n => (haltAtSwap s n).map (fun h => Task.haltFirst n h)) := by
  rw [State.swapHaltTasks]
  simp only [State.swapHalt_eq]
  rfl

theorem haltReaches_of_haltAtSwap {s : State} {n : Nat} {h : HaltCause} (hh : haltAtSwap s n = some h) :
    haltReaches h (s.phaseOf n) = true := by
  rw [← State.swapHalt_eq, State.swapHalt] at hh
  split at hh
  · split_ifs at hh with htrip hready hstale hpermit
    · obtain rfl := Option.some.inj hh
      exact (Bool.and_eq_true _ _ ▸ htrip).1
    · obtain rfl := Option.some.inj hh
      exact hready
    · obtain rfl := Option.some.inj hh
      exact hready
  · cases hh

end Sys2Proof.Machine
end

section

/-! PROOF. The swap in service: what it carries, and what it starts. -/

namespace Sys2Proof.Machine

/-- A swap of a part in service at the end of its check: bank `i` active, the check passed, and both budget timers running. -/
structure SwapsInService (s : State) (k : SwapCheck) (i : BankId) (p q : Timer) : Prop where
  rest : s.atRest
  banked : s.banked
  active : s.active = some i
  standby : s.standby = i.other
  check : s.swapCheck = some k
  passes : s.swapFailure (s.bank i.other) = none
  period : s.periodTimer = some p
  tally : s.tallyTimer = some q
  image : Store.wf PointDyn.clear s.image = true

/-- The state with bank `i` active, the part SCREENING, and its image, sections and event replaced. -/
def State.reworked (s : State) (i : BankId) (image : Store PointDyn) (sects : Store SectionDyn) (agenda : List Task) : State :=
  { s.turned i with image := image, sects := sects, agenda := agenda }

theorem State.offerNotice_reworked (s : State) (i : BankId) (image : Store PointDyn) (sects : Store SectionDyn) (agenda : List Task)
    (k : NoticeKind) (n p : Option Nat) (c : Cause) :
    (s.reworked i image sects agenda).offerNotice k n p c = (s.offerNotice k n p c).reworked i image sects agenda := by
  have hsame : (s.reworked i image sects agenda).noticeMask = s.noticeMask ∧
      (s.reworked i image sects agenda).upQueue = s.upQueue ∧ (s.reworked i image sects agenda).debt = s.debt := ⟨rfl, rfl, rfl⟩
  obtain ⟨hmask, hqueue, hdebt⟩ := hsame
  unfold State.offerNotice
  rw [hmask, hqueue, hdebt]
  split_ifs <;> rfl

/-- The notices of the swap: those of the sections whose new limit has run follow its own, in the order of the sections. -/
def State.swapNoticed (s : State) (k : SwapCheck) (due : Nat → Bool) : State :=
  ((List.range 16).filter due).foldl (overdueOffered s.phaseOf) (s.swapAnswered k)

theorem State.swapNoticed_frame (s : State) (k : SwapCheck) (due : Nat → Bool) : s.swapNoticed k due =
    { s with
      swapCheck := none
      upQueue := (s.swapNoticed k due).upQueue
      noticeLost := (s.swapNoticed k due).noticeLost } := by
  have h := foldl_keeps (fun u : State => ({ u with upQueue := [], noticeLost := false } : State)) (overdueOffered s.phaseOf)
    (fun u n => by rw [overdueOffered, State.offerNotice_frame]) ((List.range 16).filter due) (s.swapAnswered k)
  have hstart := s.swapAnswered_frame k
  unfold State.swapNoticed
  generalize s.swapAnswered k = w at h hstart ⊢
  generalize w.upQueue = a at hstart
  generalize w.noticeLost = b at hstart
  subst hstart
  generalize List.foldl (overdueOffered s.phaseOf) _ _ = v at h ⊢
  exact congrArg (fun u : State => ({ u with upQueue := v.upQueue, noticeLost := v.noticeLost } : State)) h

theorem State.swapAnswered_turnedBank (s : State) (k : SwapCheck) (i : BankId) :
    ((s.swapAnswered k).turned i).activeBank = s.bank i := by
  rw [State.swapAnswered_frame]
  rfl

theorem State.phaseOf_congr {s t : State} {n : Nat} (h : t.sect n = s.sect n) : t.phaseOf n = s.phaseOf n :=
  congrArg SectionDyn.phase h

theorem State.reworked_withSects (s : State) (i : BankId) (image : Store PointDyn) (sects q : Store SectionDyn)
    (agenda : List Task) : (s.reworked i image sects agenda).withSects q = s.reworked i image q agenda := rfl

theorem foldl_overdueOffered_reworked (phase : Nat → Phase) (l : List Nat) (s : State) (i : BankId) (image : Store PointDyn)
    (sects : Store SectionDyn) (agenda : List Task) : l.foldl (overdueOffered phase) (s.reworked i image sects agenda) =
      (l.foldl (overdueOffered phase) s).reworked i image sects agenda :=
  List.foldl_hom (fun u : State => u.reworked i image sects agenda) fun _ _ => State.offerNotice_reworked ..

/-- The part after the image is carried. -/
def State.swapImaged (s : State) (k : SwapCheck) (i : BankId) : State :=
  ((s.swapAnswered k).turned i.other).carryImage (s.bank i)

theorem State.swapImaged_activeBank (s : State) (k : SwapCheck) (i : BankId) :
    (s.swapImaged k i).activeBank = s.bank i.other :=
  (State.carryImage_activeBank _ _).trans (s.swapAnswered_turnedBank k i.other)

theorem State.carryBudget_reworked {s x : State} {p q : Timer} {image : Store PointDyn} (hp : x.periodTimer = some p)
    (hq : x.tallyTimer = some q) (hclock : x.clock = s.clock) (hwf : Store.wf PointDyn.clear image = true) (i : BankId)
    (sects : Store SectionDyn) (agenda : List Task) (b : BudgetRec) :
    ∃ image' l, State.carryBudget (State.countDraw (x.reworked i image sects agenda)) b =
        State.budgetCarried (State.countDraw (x.reworked i image sects agenda)) b p q image' l ∧
      ∀ n, Store.read PointDyn.clear image' n = { Store.read PointDyn.clear image n with
        tally := if 600 * b.tallyInterval ≤ s.elapsed q.start then (Store.read PointDyn.clear image n).tally - 1
          else (Store.read PointDyn.clear image n).tally } := by
  obtain ⟨image', l, hbudget, hpoint⟩ :=
    State.carryBudget_eq (s := State.countDraw (x.reworked i image sects agenda)) hp hq hwf b
  have helapsed : (State.countDraw (x.reworked i image sects agenda)).elapsed = s.elapsed := State.elapsed_congr hclock
  rw [helapsed] at hpoint
  exact ⟨image', l, hbudget, hpoint⟩

namespace SwapsInService

variable {s : State} {k : SwapCheck} {i : BankId} {p q : Timer} (h : SwapsInService s k i p q)
include h

theorem swapStart : s.swapStart k = (s.swapAnswered k).turned i.other := by
  refine State.swapStart_eq ?_ k
  rw [State.exchangeBanks, h.active]
  rfl

theorem activeBank : s.activeBank = s.bank i := by
  rw [State.activeBank, h.active]

/-- The image and the scans of its changes. -/
theorem imaged : ∃ m, s.swapImaged k i =
      (s.swapAnswered k).reworked i.other (s.swapImaged k i).image s.sects (List.replicate m .scan) ∧
    (∀ n, (s.swapImaged k i).point n =
      if n < 2048 then pointCarried s (s.bank i.other) (((s.swapAnswered k).turned i.other).sameClass (s.bank i)) n
      else s.point n) ∧
    Store.wf PointDyn.clear (s.swapImaged k i).image = true := by
  have hbank := s.swapAnswered_turnedBank k i.other
  have hframe := ((s.swapAnswered k).turned i.other).carryImage_frame (s.bank i)
  obtain ⟨m, hagenda, hpoint⟩ := foldl_carryPoint (s.bank i) (l := List.range 2048) List.nodup_range
    ((s.swapAnswered k).turned i.other)
  have hanswered := s.swapAnswered_frame k
  have hwf : Store.wf PointDyn.clear ((s.swapAnswered k).turned i.other).image = true := by
    rw [hanswered]
    exact h.image
  have hcarried := State.carryImage_wf hwf (s.bank i)
  have hsame : ((s.swapAnswered k).turned i.other).agenda = [] ∧ ((s.swapAnswered k).turned i.other).sects = s.sects ∧
      ((s.swapAnswered k).turned i.other).clock = s.clock ∧
      ∀ n, ((s.swapAnswered k).turned i.other).point n = s.point n := by
    rw [hanswered]
    exact ⟨h.rest.2, rfl, rfl, fun _ => rfl⟩
  obtain ⟨hquiet, hsects, hclock, hkept⟩ := hsame
  change (((s.swapAnswered k).turned i.other).carryImage (s.bank i)).agenda = _ at hagenda
  change ∀ n, (((s.swapAnswered k).turned i.other).carryImage (s.bank i)).point n = _ at hpoint
  refine ⟨m, ?_, fun n => ?_, hcarried⟩
  · rw [State.swapImaged]
    rw [hagenda, hquiet, List.nil_append] at hframe
    refine hframe.trans ?_
    rw [State.reworked, ← hsects]
  · refine (hpoint n).trans (if_congr List.mem_range ?_ (hkept n))
    exact State.carried_eq hbank (hkept n) hclock rfl

theorem imagedSame : (s.swapImaged k i).clock = s.clock ∧ (∀ n, (s.swapImaged k i).sect n = s.sect n) ∧
    (s.swapImaged k i).draws = s.draws := by
  obtain ⟨m, hframe, _⟩ := h.imaged
  have hanswered := s.swapAnswered_frame k
  rw [hframe]
  refine ⟨?_, fun n => rfl, ?_⟩
  · show (s.swapAnswered k).clock = _
    rw [hanswered]
  · show (s.swapAnswered k).draws = _
    rw [hanswered]

/-- The sections that queue an overdue notice at the swap. -/
theorem imagedDue (n : Nat) : (s.swapImaged k i).overdueCarried (s.bank i) n =
    overdueAtSwap s (s.bank i.other) ((s.swapImaged k i).wasDefined (s.bank i)) n := by
  obtain ⟨hclock, hsect, _⟩ := h.imagedSame
  exact State.overdueCarried_swap (s.swapImaged_activeBank k i) (hsect n) hclock (s.bank i)

/-- The sections, and the notices of those whose new limit has run. -/
theorem sectioned : ∃ m sects, (s.swapImaged k i).carrySections (s.bank i) =
      (s.swapNoticed k (overdueAtSwap s (s.bank i.other) ((s.swapImaged k i).wasDefined (s.bank i)))).reworked i.other
        (s.swapImaged k i).image sects (List.replicate m .scan) ∧
    ∀ n, Store.read SectionDyn.clear sects n =
      if n < 16 then (s.swapImaged k i).sectionAfter (s.bank i) n else s.sect n := by
  obtain ⟨m, hframe, _⟩ := h.imaged
  obtain ⟨hclock, hsect, _⟩ := h.imagedSame
  obtain ⟨sects, hfold, hread⟩ := foldl_carrySection (s.bank i) (l := sectionNumbers) List.nodup_range (s.swapImaged k i)
  have hdue : (s.swapImaged k i).overdueCarried (s.bank i) =
      overdueAtSwap s (s.bank i.other) ((s.swapImaged k i).wasDefined (s.bank i)) := funext h.imagedDue
  have hphase : (s.swapImaged k i).phaseOf = s.phaseOf := funext fun n => State.phaseOf_congr (hsect n)
  rw [hdue, hphase] at hfold
  generalize overdueAtSwap s (s.bank i.other) ((s.swapImaged k i).wasDefined (s.bank i)) = due at hfold ⊢
  refine ⟨m, sects, ?_, fun n => (hread n).trans (if_congr List.mem_range rfl (hsect n))⟩
  rw [State.carrySections, hfold, State.swapNoticed, sectionNumbers]
  clear hfold hread hdue hphase hsect hclock
  generalize (List.range 16).filter due = l
  generalize s.swapImaged k i = c at hframe ⊢
  generalize c.image = image at hframe ⊢
  subst hframe
  have hnotices := foldl_overdueOffered_reworked s.phaseOf l (s.swapAnswered k) i.other image s.sects (List.replicate m .scan)
  rw [hnotices, State.reworked_withSects]

/-- The part before the orders are carried: image, sections, notices and budget. -/
theorem budgeted : ∃ m l sects image, s.swapCarried k =
      State.carryOrders (State.budgetCarried (State.countDraw (State.reworked
        (s.swapNoticed k (overdueAtSwap s (s.bank i.other) ((s.swapImaged k i).wasDefined (s.bank i)))) i.other
        (s.swapImaged k i).image sects (List.replicate m .scan))) (s.bank i.other).budget.content p q image l) ∧
    (∀ n, Store.read SectionDyn.clear sects n =
      if n < 16 then (s.swapImaged k i).sectionAfter (s.bank i) n else s.sect n) ∧
    ∀ n, Store.read PointDyn.clear image n = { (s.swapImaged k i).point n with
      tally := if 600 * (s.bank i.other).budget.content.tallyInterval ≤ s.elapsed q.start then
        ((s.swapImaged k i).point n).tally - 1 else ((s.swapImaged k i).point n).tally } := by
  obtain ⟨_, _, _, hwf⟩ := h.imaged
  obtain ⟨m, sects, hsections, hsect⟩ := h.sectioned
  have hcarried : s.swapCarried k = State.carryOrders (State.carryBudget (State.countDraw
      ((s.swapImaged k i).carrySections (s.bank i))) (s.bank i.other).budget.content) := by
    rw [State.swapImaged, State.swapCarried, h.swapStart, s.swapAnswered_turnedBank, h.activeBank]
  rw [hcarried, hsections]
  have hframe := s.swapNoticed_frame k (overdueAtSwap s (s.bank i.other) ((s.swapImaged k i).wasDefined (s.bank i)))
  generalize s.swapNoticed k (overdueAtSwap s (s.bank i.other) ((s.swapImaged k i).wasDefined (s.bank i))) = x at hframe ⊢
  have hsame : x.periodTimer = s.periodTimer ∧ x.tallyTimer = s.tallyTimer ∧ x.clock = s.clock := by
    rw [hframe]
    exact ⟨rfl, rfl, rfl⟩
  obtain ⟨hperiod, htally, hclock⟩ := hsame
  obtain ⟨image, l, hbudget, hpoint⟩ := State.carryBudget_reworked (s := s) (hperiod.trans h.period) (htally.trans h.tally)
    hclock hwf i.other sects (List.replicate m .scan) (s.bank i.other).budget.content
  exact ⟨m, l, sects, image, congrArg State.carryOrders hbudget, hsect, hpoint⟩

end SwapsInService

end Sys2Proof.Machine
end

section

/-! PROOF. The swap in service as the statement gives it: the next state, and what becomes of the halts it makes. -/

namespace Sys2Proof.Machine

theorem pointUnder_congr {s t : State} (h : t.activeBank = s.activeBank) : pointUnder t = pointUnder s := by
  funext dest point
  unfold pointUnder State.covering
  rw [h]

theorem pointCarried_tally (s : State) (new : Bank) (same : Nat → Bool) (p : Nat) :
    (pointCarried s new same p).tally = (s.point p).tally := by
  unfold pointCarried
  split
  · rfl
  · split <;> rfl

theorem foldl_overdueOffered_eq (phase : Nat → Phase) (l : List Nat) (v : State) : l.foldl (overdueOffered phase) v =
    l.foldl (fun y n => y.offerNotice .phaseOverdue (some n) none (.phase (phase n))) v := rfl

theorem State.swapNoticed_eq (s : State) (k : SwapCheck) (due : Nat → Bool) : s.swapNoticed k due =
    ((List.range 16).filter due).foldl
      (fun y n => y.offerNotice .phaseOverdue (some n) none (.phase (s.phaseOf n))) (s.swapAnswered k) := by
  rw [State.swapNoticed, foldl_overdueOffered_eq]

/-- A point that keeps all but its tally keeps its report and its freshness. -/
theorem State.reports_of_tally {u c : State} {p t : Nat} (h : u.point p = { c.point p with tally := t }) :
    (u.point p).report = (c.point p).report ∧ (u.point p).fresh = (c.point p).fresh := by
  rw [h]
  exact ⟨rfl, rfl⟩

/-- Which bank entries the old bank leaves open, and what it says of the rest (R165, R22). -/
theorem State.oldBankSays_of {s a c : State} {old new : Bank} (hbank : a.activeBank = new) (hcarried : c.activeBank = new)
    (hsect : ∀ n, c.sect n = s.sect n) : oldBankSays s old new (a.sameClass old) (c.wasDefined old) (c.sameFlow old) := by
  refine ⟨fun p hp => ?_, fun n hn => ⟨State.wasDefined_of_good c old n hn, ?_⟩, fun n hn hshown => ?_⟩
  · rw [State.sameClass_of_good a old p hp, hbank, beq_iff_eq]
  · rw [State.sameFlow_of_good c old n hn, hcarried, beq_iff_eq]
  · refine State.wasDefined_of_shown c old n hn ((State.showsDefined_iff c n).2 ?_)
    rwa [State.phaseOf_congr (hsect n), hsect n]

/-! ### The end of the swap -/

section Ends

variable {f u : State} (hu : u = f.swapEnds f.swapHaltTasks)
include hu

theorem swapEnds_parts : ∃ permitOut agenda, u = { f with permitOut := permitOut, agenda := agenda } := by
  refine ⟨u.permitOut, u.agenda, ?_⟩
  rw [hu]
  exact f.swapEnds_frame _

theorem swapEnds_halts (n : Nat) : haltAtSwap u n = haltAtSwap f n := by
  obtain ⟨permitOut, agenda, rfl⟩ := swapEnds_parts hu
  rfl

theorem swapEnds_pointUnder : pointUnder u = pointUnder f := by
  obtain ⟨permitOut, agenda, rfl⟩ := swapEnds_parts hu
  exact pointUnder_congr rfl

theorem swapEnds_starts : u.agenda = f.agenda ++ ((List.range 16).filterMap (fun n => (haltAtSwap u n).map
    (fun h => Task.haltFirst n h)) ++ (List.range 16).map Task.reexamine ++ [.completion, .scan]) := by
  have hagenda := f.swapEnds_agenda f.swapHaltTasks
  rw [← hu, State.swapHaltTasks_eq] at hagenda
  simp only [swapEnds_halts hu]
  exact hagenda

theorem swapEnds_level (j : Nat) : u.permitOutLevel j = if j < 4 then f.permitOutWanted j else f.permitOutLevel j := by
  rw [hu]
  exact f.refreshPermitOut_level j

theorem swapEnds_lines (hbanked : f.banked) {j : Nat} (hj : j < 4) : u.permitOutLevel j = true ↔
    ∃ n < 16, ∃ c, u.definedRec n = some c ∧ c.permitOut = some j ∧ u.phaseOf n = .running := by
  rw [swapEnds_level hu, if_pos hj, State.permitOutWanted_iff hbanked]
  obtain ⟨permitOut, agenda, rfl⟩ := swapEnds_parts hu
  exact Iff.rfl

/-- A halt the swap makes ends with the section HALTED, by its own cause or by the cascade of another (R71, R72). -/
theorem swapEnds_halted (hscans : ∀ t ∈ f.agenda, t = Task.scan) {n : Nat} (hn : n < 16) {h : HaltCause}
    (hh : haltAtSwap u n = some h) : ∃ h' ∈ [h, .needLost, .feedStop], u.settled.sect n = haltedAt u.clock h' := by
  have hagenda := swapEnds_starts hu
  have htasks : ∀ x ∈ u.agenda, (∃ m < 16, (∃ c, x = .haltFirst m c ∧ haltAtSwap u m = some c) ∨ x = .reexamine m) ∨
      x = .completion ∨ x = .scan := by
    intro x hx
    rw [hagenda, List.mem_append, List.mem_append, List.mem_append] at hx
    rcases hx with hx | (hx | hx) | hx
    · exact .inr (.inr (hscans x hx))
    · obtain ⟨m, hm, hx⟩ := List.mem_filterMap.1 hx
      obtain ⟨c, hc, rfl⟩ := Option.map_eq_some_iff.1 hx
      exact .inl ⟨m, List.mem_range.1 hm, .inl ⟨c, rfl, hc⟩⟩
    · obtain ⟨m, hm, rfl⟩ := List.mem_map.1 hx
      exact .inl ⟨m, List.mem_range.1 hm, .inr rfl⟩
    · simp only [List.mem_cons, List.not_mem_nil, or_false] at hx
      exact .inr hx
  have hawait : Awaiting n (fun h' => h' ∈ [h, .needLost, .feedStop]) (.haltFirst n h) u := by
    refine ⟨?_, fun x hx => ?_, fun x hx _ c hc => ?_⟩
    · rw [hagenda]
      refine List.mem_append_right _ (List.mem_append_left _ (List.mem_append_left _ (List.mem_filterMap.2 ⟨n, ?_, ?_⟩)))
      · exact List.mem_range.2 hn
      · rw [hh]
        rfl
    · rcases htasks x hx with ⟨m, hm, ⟨c, rfl, _⟩ | rfl⟩ | rfl | rfl
      · exact hm
      · exact hm
      · exact trivial
      · exact trivial
    · rcases htasks x hx with ⟨m, hm, ⟨d, rfl, hd⟩ | rfl⟩ | rfl | rfl
      · rcases hc with hc | hc
        · cases hc
        · cases hc
          rw [hh] at hd
          obtain rfl := Option.some.inj hd
          exact List.mem_cons_self
      all_goals rcases hc with hc | hc <;> cases hc
  have htrips : u.agenda.countP Task.isTrips = 0 := List.countP_eq_zero.2 fun x hx => by
    rcases htasks x hx with ⟨m, hm, ⟨c, rfl, _⟩ | rfl⟩ | rfl | rfl <;> exact fun h => (by cases h)
  exact State.settled_halts (.inr rfl) (fun _ => by simp) hawait (haltReaches_of_haltAtSwap hh) (by omega)

end Ends

/-! ### The state after the carry, field by field -/

/-- The state with the notices `x` of the swap queued, after image, sections, budget and orders are carried. -/
def State.serviced (x : State) (i : BankId) (b : BudgetRec) (p q : Timer) (carried image : Store PointDyn)
    (sects : Store SectionDyn) (m l : Nat) : State :=
  State.carryOrders (State.budgetCarried (State.countDraw (x.reworked i.other carried sects (List.replicate m .scan)))
    b p q image l)

section Serviced

variable {s x f : State} {i : BankId} {k : SwapCheck} {b : BudgetRec} {p q : Timer} {carried image : Store PointDyn}
  {sects : Store SectionDyn} {m l : Nat}
  (hx : x = { s with swapCheck := none, upQueue := x.upQueue, noticeLost := x.noticeLost })
  (hf : f = x.serviced i b p q carried image sects m l)

include hx hf

theorem serviced_eq : f = { s with
    active := some i.other
    standby := i
    mode := .screening
    fault := false
    standbyWritten := false
    swapCheck := none
    image := image
    sects := sects
    remaining := if b.period ≤ s.elapsed p.start then b.allowance else min s.remaining b.allowance
    unusedReserve := if b.period ≤ s.elapsed p.start then b.reserve
      else min s.unusedReserve (min b.reserve (min s.remaining b.allowance))
    periodNumber := if b.period ≤ s.elapsed p.start then (s.periodNumber + 1) % 65536 else s.periodNumber
    periodTimer := some ⟨if b.period ≤ s.elapsed p.start then s.clock else p.start, b.period⟩
    tallyTimer := some ⟨if 600 * b.tallyInterval ≤ s.elapsed q.start then s.clock else q.start, b.tallyInterval⟩
    load := loadOver (s.bank i.other) image
    held := s.held.map (fun h => { h with point := pointUnder f h.tel.dest h.tel.point })
    entries := s.entries.map (fun e => if e.part = .general then { e with logical := pointUnder f e.dest e.point } else e)
    upQueue := x.upQueue
    noticeLost := x.noticeLost
    agenda := List.replicate m .scan ++ List.replicate l .scan
    draws := s.draws + 1 } := by
  have hpoints : pointUnder f = pointUnder (State.budgetCarried
      (State.countDraw (x.reworked i.other carried sects (List.replicate m .scan))) b p q image l) :=
    pointUnder_congr (hf ▸ rfl)
  rw [hpoints, hf, State.serviced, State.carryOrders_eq]
  generalize x.upQueue = queue at hx ⊢
  generalize x.noticeLost = lost at hx ⊢
  subst hx
  generalize pointUnder _ = place
  cases i <;> rfl

end Serviced

/-- Settles O27. -/
theorem swapInServiceCarriesTheImageAndBudget : Obligations.SwapInServiceCarriesTheImageAndBudget := by
  unfold Obligations.SwapInServiceCarriesTheImageAndBudget
  intro s k i p q b hrest hbanked hactive hstandby hk hswap hb hp hq hwf
  have hservice : SwapsInService s k i p q := ⟨hrest, hbanked, hactive, hstandby, hk, hswap, hp, hq, hwf⟩
  have hmade : exec .swapCheckEnd s = .next (s.makeSwap k).settled := by
    rw [State.exec_swapCheckEnd hrest hk, State.endCheck_swaps (by rw [hstandby]; exact hswap)]
  obtain ⟨_, _, himaged, _⟩ := hservice.imaged
  obtain ⟨hclock, hsect, _⟩ := hservice.imagedSame
  obtain ⟨m, l, sects, image, hcarried, hsects, hpoints⟩ := hservice.budgeted
  have hbank := s.swapAnswered_turnedBank k i.other
  have hnew := s.swapImaged_activeBank k i
  have hnoticed := s.swapNoticed_frame k (overdueAtSwap s (s.bank i.other) ((s.swapImaged k i).wasDefined (s.bank i)))
  have hsays := State.oldBankSays_of (s := s) (old := s.bank i) hbank hnew hsect
  have hswapped := State.makeSwap_banked hbanked k
  rw [← hb] at hcarried hpoints
  generalize s.swapImaged k i = c at *
  generalize s.swapCarried k = f at *
  generalize s.makeSwap k = u at *
  generalize ((s.swapAnswered k).turned i.other).sameClass (s.bank i) = same at *
  generalize hx : s.swapNoticed k (overdueAtSwap s (s.bank i.other) (c.wasDefined (s.bank i))) = x at *
  have hfields := serviced_eq (f := f) hnoticed hcarried
  obtain ⟨permitOut, agenda, hparts⟩ := swapEnds_parts hswapped
  have hplace := swapEnds_pointUnder hswapped
  have hstate : u.image = image ∧ u.sects = sects ∧ u.clock = s.clock ∧ u.activeBank = s.bank i.other ∧ f.banked ∧
      f.agenda = List.replicate (m + l) .scan ∧ (∀ j, f.permitOutLevel j = s.permitOutLevel j) ∧
      (s.held = [] → u.held = []) := by
    generalize pointUnder f = place at hfields
    rw [List.replicate_add, hparts, hfields]
    exact ⟨rfl, rfl, rfl, rfl, fun hmode => PartMode.noConfusion hmode, rfl, fun _ => rfl, fun hnone => List.map_eq_nil_iff.2 hnone⟩
  obtain ⟨himage, hsectors, hnow, hbank', hbanked', hscans, hlevels, hheld⟩ := hstate
  have hpoint : ∀ n, u.point n = { c.point n with
      tally := if 600 * b.tallyInterval ≤ s.elapsed q.start then (c.point n).tally - 1 else (c.point n).tally } := fun n => by
    rw [← hpoints n, State.point, himage]
  refine ⟨u, s.swapAnswered k, x, u.settled, same, c.wasDefined (s.bank i), c.sameFlow (s.bank i), hmade, rfl, hsays, rfl,
    fun n => ?_, fun n => ?_, hx.symm.trans (State.swapNoticed_eq ..), fun j hj => swapEnds_lines hswapped hbanked' hj, fun j hj => ?_,
    ⟨m + l, ?_⟩, ?_, fun n hn h hh => ?_, fun hnone => ?_⟩
  · rw [hpoint n, himaged n]
    split
    · simp only [pointCarried_tally]
    · rfl
  · rw [State.sect, hsectors, hsects n]
    refine if_congr Iff.rfl ?_ rfl
    refine State.sectionAfter_swap hnew (hsect n) hclock hnow (fun p => State.reports_of_tally (hpoint p)) (s.bank i)
  · rw [swapEnds_level hswapped, if_neg (Nat.not_lt.2 hj), hlevels]
  · rw [swapEnds_starts hswapped, hscans, List.append_assoc, List.append_assoc, List.append_assoc]
  · rw [hplace]
    generalize pointUnder f = place at hfields ⊢
    rw [hparts, hfields]
  · obtain ⟨h', hmem, hend⟩ := swapEnds_halted hswapped (fun t ht => by
      rw [hscans] at ht
      exact List.eq_of_mem_replicate ht) hn hh
    refine ⟨h', hmem, hend.trans ?_⟩
    rw [hnow]
    rfl
  · refine State.settled_untroubled (fun e => ?_) (hheld hnone)
    rw [hbank']
    exact Bank.good_of_swapFailure hswap e

end Sys2Proof.Machine
end
